-- ==== Sys2Proof/Word.lean ====
section
/-! DEFINITION. The byte of the bus, the image and the controller port, and the index types of inputs and stations. -/

namespace Sys2Proof

/-- A byte of the TXB, of the configuration image or of the controller port. -/
abbrev Byte := BitVec 8

/-- An input: index `i` is the spec's input `i + 1`, so that 1 to 6 are the indices 0 to 5. -/
abbrev Inp := Fin 6

/-- A station of the segment: index `k` is the spec's address `k + 1`, so that 1 to 24 are the indices 0 to 23. -/
abbrev Slot := Fin 24

end Sys2Proof
end

