-- ==== Sys2Proof/Syntax.lean ====
section
/-! DEFINITION. The commands of the block: one constructor per row of spec/opcode_table.json, in the table's order. -/

namespace Sys2Proof

/-- A whole TXB frame as it stood on the line, but for its kind, which the row names (R115, R186): the payload length
character is the number of payload bytes. -/
structure RxFrame where
  /-- The destination byte of the header. -/
  dest : Byte
  /-- The source byte. -/
  source : Byte
  /-- The sequence byte. -/
  seq : Byte
  /-- The payload bytes. -/
  payload : List Byte
  /-- The check character (R116). -/
  check : Byte
  deriving DecidableEq, Repr

/-- A character of the TXB as the receiver samples it (R114): eleven levels, the idle level being 1. -/
structure LineChar where
  /-- The levels in the order of the line: bit 0 the start bit at its middle, bits 1 to 8 the data bits, least
  significant first, bit 9 the mark bit, bit 10 the stop bit. -/
  levels : BitVec 11
  /-- After a framing error, the LOSC cycles from the end of the stop bit to the line's return to the idle level; none
  when a fault holds the line (R121). -/
  held : Option Nat
  deriving DecidableEq, Repr

/-- The levels of the pins that the part samples: the two straps (R166) and the six LOS lines (R18). -/
structure Pins where
  /-- The ADDR strap, read as 0 to 31. -/
  addrStrap : BitVec 5
  /-- CFGSRC gives controller mode. -/
  controllerMode : Bool
  /-- The LOS lines: bit `i` is input `i + 1`, set for HIGH. -/
  los : BitVec 6
  deriving DecidableEq, Repr

/-- Every pin level 0, CFGSRC giving EEPROM mode: the levels `State.reset` holds, and those of a command written without
its levels. -/
def Pins.low : Pins := { addrStrap := 0, controllerMode := false, los := 0 }

/-- Where the data bytes of a READ begin (R179): at the record whose address a new frame carries, or, in the same frame,
where its data bytes so far left off. -/
inductive ReadFrom where
  /-- A new frame, with its record address. -/
  | record (address : Byte)
  /-- The frame in progress, whose CSN has stayed low. -/
  | onward
  deriving DecidableEq, Repr

/-- The four events of R119 that abandon a frame being collected. -/
inductive AbandonCause where
  /-- A mark character, whose data byte is a new header. -/
  | newMark (dest : Byte)
  /-- The line idle for more than 2 character times. -/
  | idleGap
  /-- A character with a framing error, the line returning to the idle level `held` LOSC cycles after it, or held
  active by a fault (R121). -/
  | framingError (held : Option Nat)
  /-- The payload length character holds 13 to 255. -/
  | badLength
  deriving DecidableEq, Repr

/-- The four events of R168 that fail an EEPROM attempt. -/
inductive AttemptFailure where
  /-- The EEPROM does not acknowledge the device address with the write direction. -/
  | writeAddress
  /-- It does not acknowledge the memory address. -/
  | memoryAddress
  /-- It does not acknowledge the device address with the read direction. -/
  | readAddress
  /-- SCL or SDA is held low for more than 1 ms: at the start condition, or while the part waits on bit `bit` of the
  transfer, counted from 0, with the whole data bytes read before it. -/
  | heldLow (bit : Option (Fin 1017)) (read : List Byte)
  deriving DecidableEq, Repr

/-- The commands, one constructor per row of the table. A command that a SOFT reset may take place in (R131, R181)
carries the levels of the straps and the LOS lines at that moment, which the release samples (R18, R166). A command that
the START event may occur in (R174) carries the level of the bus line at that moment: `held` is the LOSC cycles until the
line is at the idle level, 0 when it is there already, and none when a fault holds it active (R121). -/
inductive Instr where
  /-- POWER_RESET (R167): power-on, or a supply dip. -/
  | powerReset
  /-- PIN_RESET (R167): RESETN taken low. -/
  | pinReset
  /-- RESET_RELEASE (R166): the end of a held reset, with the levels of the straps and of the six LOS lines
  (bit `i` is input `i + 1`, set for HIGH). -/
  | resetRelease (addrStrap : BitVec 5) (controllerMode : Bool) (los : BitVec 6)
  /-- MS_POINT (R21): a 1 ms point of one monitor, with its LOS sample and whether the window just ended held an edge. -/
  | msPoint (input : Inp) (losHigh : Bool) (edge : Bool)
  /-- GATE_COMPLETION (R31): the end of one monitor's gate, with the edges that arrived. -/
  | gateCompletion (input : Inp) (edges : Nat)
  /-- HOLD_OFF_EXPIRY (R49). -/
  | holdOffExpiry (input : Inp)
  /-- WTR_EXPIRY (R53). -/
  | wtrExpiry (input : Inp)
  /-- SETTLE_EXPIRY (R95). -/
  | settleExpiry
  /-- VALUE_EXPIRY (R104). -/
  | valueExpiry
  /-- STEP_AGE_REACHED (R105): the holdover value's age reaches the next step age above it. -/
  | stepAgeReached
  /-- WARMUP_END (R107). -/
  | warmupEnd
  /-- ANNOUNCE_RECEIVED (R156). -/
  | announceReceived (frame : RxFrame)
  /-- QUERY_RECEIVED (R157). -/
  | queryReceived (frame : RxFrame)
  /-- WITHDRAW_RECEIVED (R158). -/
  | withdrawReceived (frame : RxFrame)
  /-- BAD_FRAME (R118): a fully collected frame, with its kind byte, whose check fails. -/
  | badFrame (kind : Byte) (frame : RxFrame)
  /-- FRAME_ABANDONED (R119). -/
  | frameAbandoned (cause : AbandonCause)
  /-- ENTRY_STALE (R159), for one station. -/
  | entryStale (station : Slot)
  /-- ENTRY_REMOVAL (R160), for one station. -/
  | entryRemoval (station : Slot)
  /-- RATE_WINDOW_END (R154), for one source. -/
  | rateWindowEnd (station : Slot)
  /-- TRANSMISSION_START (R141). -/
  | transmissionStart
  /-- REST_END (R124). -/
  | restEnd
  /-- ANNOUNCE_COMPLETION (R142). -/
  | announceCompletion
  /-- QUERY_COMPLETION (R144). -/
  | queryCompletion
  /-- WITHDRAW_COMPLETION (R131). -/
  | withdrawCompletion (pins : Pins := Pins.low)
  /-- CLASH (R125): a readback mismatch. -/
  | clash (pins : Pins := Pins.low)
  /-- PERIODIC_TIMER_EXPIRY (R137). -/
  | periodicTimerExpiry
  /-- SPACING_EXPIRY (R139). -/
  | spacingExpiry
  /-- WITHDRAW_WAIT_EXPIRY (R131). -/
  | withdrawWaitExpiry (pins : Pins := Pins.low)
  /-- EEPROM_READ_DONE (R168), with the 110 bytes read. -/
  | eepromReadDone (image : List Byte) (held : Option Nat := some 0)
  /-- EEPROM_ATTEMPT_FAILED (R168), with the event that fails it, and whether the bus lets the part generate a stop
  condition. -/
  | eepromAttemptFailed (failure : AttemptFailure := .writeAddress) (stop : Bool := true)
  /-- EEPROM_RETRY (R168). -/
  | eepromRetry
  /-- READ (R179): a READ frame, or more of the one in progress, and how many data bytes the controller clocks out. -/
  | read (place : ReadFrom) (count : Nat)
  /-- LOAD_IMAGE (R173): the image bytes that arrived before CSN rose. -/
  | loadImage (image : List Byte)
  /-- START (R174). -/
  | start (held : Option Nat := some 0)
  /-- FORCE (R83, R84). -/
  | force (n : Byte)
  /-- UNFORCE (R88). -/
  | unforce
  /-- LOCKOUT (R62). -/
  | lockout (n : Byte)
  /-- RELEASE (R63). -/
  | release (n : Byte)
  /-- POP_EVENT (R183). -/
  | popEvent
  /-- SOFT_RESET (R181). -/
  | softReset (pins : Pins := Pins.low)
  /-- UNKNOWN_COMMAND (R178): a command code outside the table of R178. -/
  | unknownCommand (code : Byte)
  /-- FOREIGN_START_BIT (R121): a start bit of another station, and the character that follows it. -/
  | foreignStartBit (char : LineChar)
  /-- MALFORMED_FRAME (R152): an intact frame whose kind byte is none of the three. -/
  | malformedFrame (kind : Byte) (frame : RxFrame)
  deriving DecidableEq, Repr

end Sys2Proof
end

