-- ==== Sys2Proof/Decode.lean ====
section
/-! DEFINITION. Reading a command: from a word by the bits of spec/opcode_table.json, and from the bytes of a frame at the
Controller Port by the code table of R178. -/

namespace Sys2Proof

/-- The command that `nbits` bits of `w` spell by the table's bits. Every row of spec/opcode_table.json has an empty list
of fields, because the block takes events and no encoded instructions: so no word spells a command. -/
def decodeTableWord (_nbits _w : Nat) : Option Instr := none

/-- R178: the command that the bytes of one frame on SDI give, by its code table; none where the frame ends before its
command is taken. The pins are the levels at the rise of CSN, for SOFT RESET (R181), and `held` the bus line then, for
START (R121). The bytes after the arguments are ignored; for READ they are the data bytes clocked out (R179). -/
def commandOf (pins : Pins) (held : Option Nat) : List Byte → Option Instr
  | [] => none
  | code :: args =>
    match code.toNat, args with
    | 1, address :: rest => some (.read (.record address) rest.length)
    | 1, [] => none
    | 2, image => some (.loadImage (image.take 110))
    | 3, _ => some (.start held)
    | 4, n :: _ => some (.force n)
    | 4, [] => none
    | 5, _ => some .unforce
    | 6, n :: _ => some (.lockout n)
    | 6, [] => none
    | 7, n :: _ => some (.release n)
    | 7, [] => none
    | 8, _ => some .popEvent
    | 9, _ => some (.softReset pins)
    | _, _ => some (.unknownCommand code)

end Sys2Proof
end

