-- ==== Sys2Proof/Config.lean ====
section
/-! DEFINITION. What the spec leaves open and the machine goes on: free values, with no body. -/

namespace Sys2Proof

/-- R65 shows the hold-off time remaining in milliseconds and does not say how a part of a millisecond is shown.
Whether it is rounded up, as a function of the LOSC cycles remaining, is free (DESIGN CHOICE, notes/assumptions/9.md). -/
opaque Config.holdOffRoundsUp : Nat → Bool

/-- R171 leaves the other fields of an OFF input unexamined and R65 does not state which bound station its record
shows while RUNNING. The byte shown is free, as a function of the image's byte (DESIGN CHOICE, notes/assumptions/10.md). -/
opaque Config.offBoundShown : Nat → Byte

end Sys2Proof
end

