-- ==== Sys2Proof/Machine/Consts.lean ====
section
/-! DEFINITION. The spec's numbers: times in LOSC cycles, limits and the codes of the controller port. -/

namespace Sys2Proof.Machine

/-- LOSC cycles in a second (00_scope.md 4.4). -/
def second : Nat := 20000000

/-- LOSC cycles in a millisecond (chapter 2, opening). -/
def millisecond : Nat := 20000

/-- LOSC cycles in a TXB character time of 44 µs (R121). -/
def charTime : Nat := 880

/-- The spacing time of 250 ms (R139). -/
def spacingTime : Nat := 250 * millisecond

/-- The 50 ms a soft reset waits for its WITHDRAW (R131). -/
def withdrawTime : Nat := 50 * millisecond

/-- The 5 ms between EEPROM attempts (R168). -/
def eepromWait : Nat := 5 * millisecond

/-- LOSC cycles in a bit time of the I2C clock of 100 kHz (R168). -/
def i2cBit : Nat := 200

/-- The bits of an attempt that reads the whole image (R168). -/
def readBits : Nat := 1017

/-- The idle run that ends the rest: 30 character times (R124). -/
def restTime : Nat := 30 * charTime

/-- The greatest count of a gate (R24). -/
def gateMax : Nat := 268435455

/-- The greatest magnitude of an offset (00_scope.md 4.2). -/
def offsetMax : Int := 32767

/-- UNFIT (R1). -/
def unfit : Nat := 15

/-- The result code DONE (R178). -/
def resDone : Byte := 0xA0

/-- The result code REFUSED (R178). -/
def resRefused : Byte := 0xA1

/-- The result code INVALID (R178). -/
def resInvalid : Byte := 0xA2

/-- The command codes of R178 are 0x01 to 0x09. -/
def knownCommand (code : Byte) : Bool := decide (1 ≤ code.toNat ∧ code.toNat ≤ 9)

end Sys2Proof.Machine
end

