-- ==== Sys2Proof/Machine/State.lean ====
section
/-! DEFINITION. The state of the block: every register, buffer, timer, counter and pin the spec gives it, as plain data;
and the state while the POWER reset of power-on is held. -/

namespace Sys2Proof.Machine

/-! ### Resets -/

/-- The three reset kinds (00_scope.md 4.6). -/
inductive ResetKind where
  | power | pin | soft
  deriving DecidableEq, Repr

/-! ### Image Loader -/

/-- The part state (R165). -/
inductive PartState where
  | loading | awaitImage | cfgFault | running
  deriving DecidableEq, Repr

/-- The load cause (R165). -/
inductive LoadCause where
  | none | signature | format | eepromAbsent | address
  deriving DecidableEq, Repr

/-- What stands on SCL and SDA in a transfer with the EEPROM, whole bytes with their acknowledgements (R168). -/
inductive I2cAction where
  /-- A start condition, or a repeated one. -/
  | start
  /-- The device address with its direction, and whether the EEPROM acknowledges it. -/
  | device (address : BitVec 7) (read : Bool) (acknowledged : Bool)
  /-- The memory address, and whether the EEPROM acknowledges it. -/
  | memory (address : Byte) (acknowledged : Bool)
  /-- A data byte read, and whether the part acknowledges it. -/
  | data (byte : Byte) (acknowledged : Bool)
  /-- A stop condition. -/
  | stop
  deriving DecidableEq, Repr

/-- Where the EEPROM read stands (R168). -/
inductive EepromPhase where
  /-- No read. -/
  | idle
  /-- Attempt 1 to 3 in progress, with the LOSC cycles since it began. -/
  | attempt (number : Nat) (elapsed : Nat)
  /-- The 5 ms wait after a failed attempt, with the LOSC cycles left. -/
  | waiting (failed : Nat) (left : Nat)
  deriving DecidableEq, Repr

/-- The configured use of an input (R171). -/
inductive InputUse where
  | off | fixed | peer
  deriving DecidableEq, Repr

/-- The LOS mode of an input (R19). -/
inductive LosMode where
  | ignored | activeHigh | activeLow
  deriving DecidableEq, Repr

/-- The clamped fields of one input (R171). -/
structure InputCfg where
  use : InputUse
  /-- Nominal frequency in hertz. -/
  freq : Nat
  fixedGrade : Nat
  /-- Bound station. -/
  bound : Nat
  ceiling : Nat
  priority : Nat
  /-- Hold-off in steps of 100 ms. -/
  holdOff : Nat
  /-- Wait to restore in seconds. -/
  wtr : Nat
  losMode : LosMode
  deriving DecidableEq, Repr

/-- The clamped image (R170 to R172). -/
structure Image where
  /-- Announce interval in seconds. -/
  interval : Nat
  /-- Trust mask: bit `k` is address `k + 1` (R151). -/
  trust : BitVec 24
  revertive : Bool
  accept : Nat
  reject : Nat
  pull : Nat
  /-- Settle time in seconds. -/
  settle : Nat
  floor : Nat
  /-- Warm-up length in seconds. -/
  warmup : Nat
  /-- Step ages A1 to A3 in seconds. -/
  age1 : Nat
  age2 : Nat
  age3 : Nat
  /-- Step grades G1 to G3. -/
  grade1 : Nat
  grade2 : Nat
  grade3 : Nat
  /-- Holdover limit L in seconds. -/
  limit : Nat
  inputs : Vector InputCfg 6
  deriving DecidableEq, Repr

/-- The Image Loader (R165). -/
structure Loader where
  partState : PartState
  cause : LoadCause
  /-- The image buffer. -/
  buffer : Image
  /-- The held flag. -/
  held : Bool
  /-- The held image arrived with LOAD IMAGE (R175). -/
  viaPort : Bool
  clampCount : Nat
  eeprom : EepromPhase
  /-- The transfer of the last EEPROM attempt that ended (R168); empty while none has, or the next is in progress. -/
  transfer : List I2cAction
  /-- The own address (R166); 0 while there is none (R177). -/
  ownAddress : Nat
  /-- The configuration source that CFGSRC gave at the last release (R166, R177): controller mode. -/
  controllerMode : Bool
  deriving DecidableEq, Repr

/-! ### Input Monitors -/

/-- The result of the last frequency check (R35). -/
inductive CheckResult where
  | none | clear | hold | absolute | relative | both
  deriving DecidableEq, Repr

/-- The gate (R23, R24). -/
structure Gate where
  run : Bool
  /-- LOSC cycles since the gate started. -/
  elapsed : Nat
  /-- Edges counted, at most 268,435,455. -/
  edges : Nat
  deriving DecidableEq, Repr

/-- One Input Monitor (02, section 2.1). -/
structure Monitor where
  /-- Accepted LOS level, set for HIGH (R18). -/
  losLevel : Bool
  /-- LOS candidate count (R18). -/
  losCount : Nat
  /-- Activity state PRESENT (R20). -/
  present : Bool
  /-- Activity run count (R20). -/
  activityRun : Nat
  /-- LOSC cycles since the last 1 ms point (R18). -/
  msPhase : Nat
  /-- The los sub-cause (R19). -/
  losCause : Bool
  /-- The activity sub-cause (R20). -/
  activityCause : Bool
  /-- The SIGNAL condition (R21). -/
  signal : Bool
  gate : Gate
  /-- The window, oldest count first (R26). -/
  window : List Nat
  /-- The last offset (R30). -/
  lastOffset : Option Int
  /-- The FREQ status (R32). -/
  freq : Bool
  check : CheckResult
  deriving DecidableEq, Repr

/-! ### Qualifier -/

/-- The reason set (R45), one flag per reason. -/
structure Reasons where
  signal : Bool
  freq : Bool
  grade : Bool
  loop : Bool
  range : Bool
  lockout : Bool
  deriving DecidableEq, Repr

/-- The state of an input (R43). -/
inductive InputState where
  | off | barred | proving | ready | active | suspect
  deriving DecidableEq, Repr

/-- The state a SUSPECT input came from (R43). -/
inductive Origin where
  | ready | active
  deriving DecidableEq, Repr

/-- The WTR status (R43); RUNNING holds the LOSC cycles elapsed. -/
inductive Wtr where
  | none | running (cycles : Nat) | served | met | waived
  deriving DecidableEq, Repr

/-- One input record (R43). -/
structure InputRec where
  state : InputState
  origin : Option Origin
  reasons : Reasons
  hardSeen : Bool
  /-- The hold-off timer: LOSC cycles remaining while it runs. -/
  holdOff : Option Nat
  wtr : Wtr
  raw : Nat
  effective : Nat
  hop : Nat
  /-- The bound path (R5). -/
  path : List Nat
  deriving DecidableEq, Repr

/-! ### Selector -/

/-- The force setting (R69). -/
inductive Force where
  | none | input (n : Inp) | holdover
  deriving DecidableEq, Repr

/-- The Selector (R69). -/
structure Selector where
  active : Option Inp
  force : Force
  deriving DecidableEq, Repr

/-! ### Output Follower -/

/-- The output state (R92). -/
inductive Output where
  | freeRun | acquiring | locked | bridging | holdover
  deriving DecidableEq, Repr

/-- The bridging origin (R96). -/
inductive BridgeOrigin where
  | acquiring | locked
  deriving DecidableEq, Repr

/-- The holdover value record (R102). -/
structure HoldValue where
  valid : Bool
  value : Int
  /-- The base grade B. -/
  base : Nat
  /-- The age in LOSC cycles; the record's age is its whole seconds (R104). -/
  ageCycles : Nat
  source : Option Inp
  deriving DecidableEq, Repr

/-- The Output Follower (R92). -/
structure Follower where
  output : Output
  /-- The settle timer: LOSC cycles left while it runs (R95). -/
  settle : Option Nat
  bridging : Option BridgeOrigin
  /-- The history, oldest offset first (R100). -/
  history : List Int
  value : HoldValue
  /-- The warm-up flag (R107). -/
  warm : Bool
  /-- The warm-up count in seconds (R107). -/
  warmCount : Nat
  deriving DecidableEq, Repr

/-! ### Peer Table -/

/-- The state of a peer entry (R147). -/
inductive PeerState where
  | fresh | stale | withdrawn
  deriving DecidableEq, Repr

/-- The announced class (R9). -/
inductive AnnClass where
  | fixedLock | peerLock | holdover | freeRun
  deriving DecidableEq, Repr

/-- A peer entry (R147); its address is its place in the table. -/
structure PeerEntry where
  state : PeerState
  lastSeq : Byte
  cls : AnnClass
  grade : Nat
  interval : Nat
  path : List Nat
  /-- The age in LOSC cycles; the record's age is its whole seconds. -/
  ageCycles : Nat
  deriving DecidableEq, Repr

/-- An open rate window (R154). -/
structure RateWindow where
  count : Nat
  /-- LOSC cycles to its end. -/
  left : Nat
  deriving DecidableEq, Repr

/-- The Peer Table (R147). -/
structure PeerTable where
  /-- The entry of each address, by address (R148). -/
  entries : Vector (Option PeerEntry) 24
  /-- The rate window of each address; `none` is closed. -/
  windows : Vector (Option RateWindow) 24
  untrusted : Nat
  rateDiscarded : Nat
  seqDiscarded : Nat
  deriving DecidableEq, Repr

/-! ### Announcer -/

/-- An announced content (R9). -/
structure Content where
  cls : AnnClass
  grade : Nat
  interval : Nat
  path : List Nat
  deriving DecidableEq, Repr

/-- The Announcer's mode (R134). -/
inductive AnnMode where
  | off | announcing | withdrawing
  deriving DecidableEq, Repr

/-- A frame the station sends (R141, R146). -/
inductive TxFrame where
  | announce (content : Content) (restart : Bool) (seq : Byte)
  | query (dest : Nat) (seq : Byte)
  | withdraw (seq : Byte)
  deriving DecidableEq, Repr

/-- The Announcer (R134). -/
structure Announcer where
  mode : AnnMode
  /-- The last transmitted content. -/
  last : Option Content
  periodicFlag : Bool
  eventFlag : Bool
  queryFlag : Bool
  /-- The periodic timer: LOSC cycles left while it runs. -/
  periodicTimer : Option Nat
  /-- The spacing timer: LOSC cycles left while it runs. -/
  spacingTimer : Option Nat
  seq : Byte
  /-- The RESTART state. -/
  restart : Bool
  /-- The query list, oldest first. -/
  queries : List Nat
  /-- The frame on the line. -/
  frame : Option TxFrame
  /-- The 50 ms wait of a soft reset (R131): LOSC cycles left while it runs. -/
  withdrawWait : Option Nat
  /-- The 50 ms ended while a WITHDRAW attempt was on the line (R131). -/
  waitOver : Bool
  deriving DecidableEq, Repr

/-! ### Bus Interface -/

/-- The receiver (R117, R118). -/
inductive Receiver where
  | off | hunt | assemble (chars : List Byte)
  deriving DecidableEq, Repr

/-- The transmitter (R122). -/
inductive Transmitter where
  | off | idle | deferring | sending | silent
  deriving DecidableEq, Repr

/-- The line as the idle count sees it (R114, R121). -/
inductive Line where
  /-- At the idle level, outside a character. -/
  | quiet
  /-- Inside a foreign character, with the LOSC cycles to the end of its stop bit. -/
  | character (left : Nat) (char : LineChar)
  /-- After a framing error, the line not yet back at the idle level: the LOSC cycles until it is, or none while a fault
  holds it (R121). -/
  | heldActive (left : Option Nat)
  deriving DecidableEq, Repr

/-- The Bus Interface (06, R117 to R133). -/
structure Bus where
  rx : Receiver
  tx : Transmitter
  line : Line
  /-- The idle count in LOSC cycles; `none` is not running (R121). -/
  idle : Option Nat
  /-- LOSC cycles from the last transmission start (R123) for as long as the attempt has been SENDING. -/
  driven : Nat
  /-- The rest is in force (R124). -/
  rest : Bool
  clashRun : Nat
  duplicate : Bool
  /-- Frames received intact. -/
  intact : Nat
  /-- Check/framing/malformed. -/
  bad : Nat
  clashes : Nat
  /-- Frames sent. -/
  sent : Nat
  deriving DecidableEq, Repr

/-! ### Event Log and Controller Port -/

/-- The event kinds (R186), in the order of their codes 1 to 12. -/
inductive EventKind where
  | started | switched | inputBarred | inputReady | outputLocked | peerLost | peerWithdrawn | peerGone
  | duplicate | forceCleared | holdoverExpired | warmupDone
  deriving DecidableEq, Repr

/-- An event record (R182). -/
structure EventRec where
  uptime : Nat
  kind : EventKind
  arg1 : Byte
  arg2 : Byte
  deriving DecidableEq, Repr

/-- The Event Log (R182). -/
structure EventLog where
  /-- The records, oldest first. -/
  records : List EventRec
  overflow : Bool
  /-- Whole seconds since reset release. -/
  uptime : Nat
  /-- LOSC cycles into the second. -/
  phase : Nat
  deriving DecidableEq, Repr

/-- The READ frame in progress (R179). Places count the bytes of one pass over the records, from 0. -/
inductive Reading where
  /-- No READ frame is in progress. -/
  | closed
  /-- Its record address is above 33. -/
  | blank
  /-- The next data byte is the one at `place`, and a fresh capture is taken for it. -/
  | before (place : Nat)
  /-- The next data byte is the one at `place`, of the last capture. -/
  | within (place : Nat)
  deriving DecidableEq, Repr

/-- A frame on SPI: CSN has fallen and not risen (R178). -/
structure SpiFrame where
  /-- The bits that SDI has carried, oldest first. -/
  bits : List Bool
  /-- SCK is high. -/
  high : Bool
  deriving DecidableEq, Repr

/-- The Controller Port (R178, R179). -/
structure Port where
  /-- The bytes driven on SDO in the last command frame, up to the end of its answer (`Port.sdoByte` gives the rest). -/
  sdo : List Byte
  /-- The record bytes of the last capture. -/
  snapshot : List Byte
  reading : Reading
  /-- The frame in progress, bit by bit (R178). -/
  frame : Option SpiFrame
  deriving DecidableEq, Repr

/-! ### The machine -/

/-- The state of the block, and the queue of the commands that wait. -/
structure State where
  /-- The kind of the reset being held, if one is (R167). -/
  hold : Option ResetKind
  /-- The reset cause (R167). -/
  cause : ResetKind
  /-- The pin levels as last sampled. -/
  pins : Pins
  loader : Loader
  monitors : Vector Monitor 6
  records : Vector InputRec 6
  selector : Selector
  follower : Follower
  peers : PeerTable
  announcer : Announcer
  bus : Bus
  log : EventLog
  port : Port
  /-- The waiting commands, first in, first out. -/
  pending : List Instr
  deriving DecidableEq, Repr

/-- The spec gives the block no machine fault: a bad image, a bad frame, a refused command and a lost peer are all
states, counters, result codes or event records. So no meaning raises a fault, which is safe. -/
inductive Fault where
  deriving DecidableEq, Repr

/-- Why a command has no meaning. -/
inductive Refusal where
  /-- The command's meaning is not in the model. Raised by no arm of `exec`: every command has its meaning. It would be
  safe: the model would stop where the part goes on. -/
  | notModelled (mnemonic : String)
  deriving DecidableEq, Repr

/-! ### After a reset -/

/-- No reason (R45). -/
def Reasons.empty : Reasons :=
  { signal := false, freq := false, grade := false, loop := false, range := false, lockout := false }

/-- The fields of an input that no image has given: OFF, nothing else of meaning (R165, the buffer emptied). -/
def InputCfg.empty : InputCfg :=
  { use := .off, freq := 0, fixedGrade := 0, bound := 0, ceiling := 0, priority := 0, holdOff := 0, wtr := 0,
    losMode := .ignored }

/-- The emptied buffer (R165). -/
def Image.empty : Image :=
  { interval := 0, trust := 0, revertive := false, accept := 0, reject := 0, pull := 0, settle := 0, floor := 0,
    warmup := 0, age1 := 0, age2 := 0, age3 := 0, grade1 := 0, grade2 := 0, grade3 := 0, limit := 0,
    inputs := Vector.replicate 6 InputCfg.empty }

/-- The Image Loader while a reset is held; R166 gives the part state, the cause and the own address at the release. -/
def Loader.init : Loader :=
  { partState := .loading, cause := .none, buffer := Image.empty, held := false, viaPort := false, clampCount := 0,
    eeprom := .idle, transfer := [], ownAddress := 0, controllerMode := false }

/-- A stopped gate (R40). -/
def Gate.stopped : Gate := { run := false, elapsed := 0, edges := 0 }

/-- A monitor after a reset (R40), its accepted LOS level being the sample of the release. -/
def Monitor.init (losHigh : Bool) : Monitor :=
  { losLevel := losHigh, losCount := 0, present := false, activityRun := 0, msPhase := 0, losCause := false,
    activityCause := false, signal := false, gate := Gate.stopped, window := [], lastOffset := none, freq := false,
    check := .none }

/-- An input record after a reset and before START (R67). -/
def InputRec.init : InputRec :=
  { state := .off, origin := none, reasons := Reasons.empty, hardSeen := false, holdOff := none, wtr := .none,
    raw := 15, effective := 15, hop := 0, path := [] }

/-- The Selector after a reset (R69). -/
def Selector.init : Selector := { active := none, force := .none }

/-- The invalid holdover value record (R102). -/
def HoldValue.invalid : HoldValue := { valid := false, value := 0, base := 15, ageCycles := 0, source := none }

/-- The Output Follower after a reset (R112), with its warm-up flag. -/
def Follower.init (warm : Bool) : Follower :=
  { output := .freeRun, settle := none, bridging := none, history := [], value := HoldValue.invalid, warm := warm,
    warmCount := 0 }

/-- The Peer Table after a reset (R147). -/
def PeerTable.init : PeerTable :=
  { entries := Vector.replicate 24 none, windows := Vector.replicate 24 none, untrusted := 0, rateDiscarded := 0,
    seqDiscarded := 0 }

/-- The Announcer after a reset (R134). -/
def Announcer.init : Announcer :=
  { mode := .off, last := none, periodicFlag := false, eventFlag := false, queryFlag := false, periodicTimer := none,
    spacingTimer := none, seq := 0, restart := false, queries := [], frame := none, withdrawWait := none,
    waitOver := false }

/-- The Bus Interface after a reset (R130). -/
def Bus.init : Bus :=
  { rx := .off, tx := .off, line := .quiet, idle := none, driven := 0, rest := false, clashRun := 0, duplicate := false,
    intact := 0, bad := 0, clashes := 0, sent := 0 }

/-- The Event Log after a reset (R182). -/
def EventLog.init : EventLog := { records := [], overflow := false, uptime := 0, phase := 0 }

/-- The Controller Port after a reset: no frame has begun. -/
def Port.init : Port := { sdo := [], snapshot := [], reading := .closed, frame := none }

/-- The block while a reset of kind `kind` is held, at pins `pins`: every unit holds the values its chapter gives after
a reset, and RESET_RELEASE adds what is taken at the release. -/
def State.cleared (kind : ResetKind) (pins : Pins) (pending : List Instr) : State :=
  { hold := some kind, cause := kind, pins := pins, loader := Loader.init,
    monitors := Vector.replicate 6 (Monitor.init false), records := Vector.replicate 6 InputRec.init,
    selector := Selector.init, follower := Follower.init false, peers := PeerTable.init, announcer := Announcer.init,
    bus := Bus.init, log := EventLog.init, port := Port.init, pending := pending }

/-- The machine at power-on, its POWER reset held: the straps and the LOS lines are sampled at RESET_RELEASE
(DESIGN CHOICE, notes/assumptions/4.md). -/
def State.reset : State :=
  State.cleared .power Pins.low []

end Sys2Proof.Machine
end

