-- ==== Sys2Proof/Machine/Flags.lean ====
section
/-! DEFINITION. What the units read of one another: the configuration, the conditions of inputs, the peer entry behind
an input, the holdover grade, the own grade, the output offset, the current content, and the Announcer's want. -/

namespace Sys2Proof.Machine

/-! ### The part and its configuration -/

/-- The part is RUNNING and no reset is held. -/
def running (s : State) : Bool := s.hold.isNone && decide (s.loader.partState = .running)

/-- The clamped image every unit works from (R174, R175). -/
def cfg (s : State) : Image := s.loader.buffer

/-- The clamped fields of an input. -/
def inputCfg (s : State) (i : Inp) : InputCfg := s.loader.buffer.inputs[i]

/-- An input is used when its configured use is FIXED or PEER (R43). -/
def used (s : State) (i : Inp) : Bool := decide ((inputCfg s i).use ≠ .off)

/-- The measuring layer of an input works (R17). -/
def measuring (s : State) (i : Inp) : Bool := running s && used s i

/-- The address of a station slot. -/
def address (k : Slot) : Nat := k.val + 1

/-- The slot of an address 1 to 24. -/
def slotOf (a : Nat) : Option Slot := if h : 1 ≤ a ∧ a ≤ 24 then some ⟨a - 1, by omega⟩ else none

/-- The number of an input, 1 to 6. -/
def inputNumber (i : Inp) : Nat := i.val + 1

/-- The input a number 1 to 6 names. -/
def inputOf (n : Byte) : Option Inp :=
  if h : 1 ≤ n.toNat ∧ n.toNat ≤ 6 then some ⟨n.toNat - 1, by omega⟩ else none

/-! ### Reasons and input states -/

/-- No reason is present. -/
def Reasons.none (r : Reasons) : Bool := decide (r = Reasons.empty)

/-- A hard reason, SIGNAL or FREQ, is present (R45). -/
def Reasons.hard (r : Reasons) : Bool := r.signal || r.freq

/-- The set is exactly {SIGNAL} (R44, R48). -/
def Reasons.onlySignal (r : Reasons) : Bool := decide (r = { Reasons.empty with signal := true })

/-- The bits of a reason set (R186). -/
def Reasons.bits (r : Reasons) : Nat :=
  r.signal.toNat + 2 * r.freq.toNat + 4 * r.grade.toNat + 8 * r.loop.toNat + 16 * r.range.toNat +
    32 * r.lockout.toNat

/-- The record is that of the active input (R43): ACTIVE, or SUSPECT with origin ACTIVE. -/
def InputRec.isActive (r : InputRec) : Bool :=
  decide (r.state = .active ∨ (r.state = .suspect ∧ r.origin = some .active))

/-- The states from which the Selector may choose (R71, first condition). -/
def InputRec.fit (r : InputRec) : Bool :=
  decide (r.state = .ready ∨ r.state = .active ∨ r.state = .suspect)

/-- The window of an input is full (R26); the record's window-full field mirrors it (R65). -/
def windowFull (s : State) (i : Inp) : Bool := decide (s.monitors[i].window.length = 8)

/-! ### The peer behind an input -/

/-- The entry of an address (R147). -/
def entryOf (s : State) (a : Nat) : Option PeerEntry :=
  match slotOf a with
  | some k => s.peers.entries[k]
  | none => none

/-- The input is a PEER input bound to station `a`. -/
def boundTo (s : State) (a : Nat) (i : Inp) : Bool :=
  decide ((inputCfg s i).use = .peer ∧ (inputCfg s i).bound = a)

/-- The class is HOLDOVER or FREE_RUN (R9). -/
def AnnClass.ownOscillator : AnnClass → Bool
  | .fixedLock => false
  | .peerLock => false
  | .holdover => true
  | .freeRun => true

/-- The class group of the entry behind a PEER input (R72, R78). -/
def boundGroup (s : State) (i : Inp) : Option Bool :=
  if (inputCfg s i).use = .peer then (entryOf s (inputCfg s i).bound).map fun e => e.cls.ownOscillator else none

/-! ### Holdover -/

/-- The holdover value's age in whole seconds (R104). -/
def HoldValue.age (v : HoldValue) : Nat := v.ageCycles / second

/-- R105, steps 1 and 2: the base grade worsened by the last step the age has reached. -/
def steppedGrade (c : Image) (base age : Nat) : Nat :=
  if c.age3 ≤ age ∧ c.age1 ≤ age then max base c.grade3
  else if c.age2 ≤ age ∧ c.age1 ≤ age then max base c.grade2
  else if c.age1 ≤ age then max base c.grade1
  else base

/-- The holdover grade of a valid record (R105). -/
def holdoverGradeAt (c : Image) (base age : Nat) : Nat := min (steppedGrade c base age) c.floor

/-- The holdover grade, 15 while the record is invalid (R109). -/
def holdoverGrade (s : State) : Nat :=
  if s.follower.value.valid then holdoverGradeAt (cfg s) s.follower.value.base s.follower.value.age else unfit

/-- A holdover value is available (R77). -/
def available (s : State) : Bool :=
  s.follower.value.valid || decide (s.follower.output = .locked ∧ s.follower.history.length = 16)

/-- The output offset O (R99). -/
def outputOffset (s : State) : Int :=
  match s.follower.output with
  | .freeRun => 0
  | .holdover => s.follower.value.value
  | .acquiring | .locked | .bridging =>
    match s.selector.active with
    | some i => s.monitors[i].lastOffset.getD 0
    | none => 0

/-- What the Follower tells the synthesizer (R93). -/
inductive SynthCommand where
  | follow (input : Inp)
  | holdAt (offset : Int)
  | corrected (offset : Int)
  | uncorrected
  deriving DecidableEq, Repr

/-- The synthesizer's command in the present state (R93). -/
def synthCommand (s : State) : SynthCommand :=
  match s.follower.output with
  | .freeRun => .uncorrected
  | .holdover => .corrected s.follower.value.value
  | .bridging => .holdAt (outputOffset s)
  | .acquiring | .locked =>
    match s.selector.active with
    | some i => .follow i
    | none => .uncorrected

/-! ### Grades -/

/-- The floor grade, or 15 while warm-up runs (R13, R70). -/
def floorOrWarm (s : State) : Nat := if s.follower.warm then unfit else (cfg s).floor

/-- The own grade H (R70). -/
def ownGrade (s : State) : Nat :=
  if s.follower.output = .holdover then holdoverGrade s else floorOrWarm s

/-! ### The current content (R10 to R13) -/

/-- The content announced on the own oscillator, uncorrected (R13). -/
def freeRunContent (s : State) : Content :=
  { cls := .freeRun, grade := floorOrWarm s, interval := (cfg s).interval, path := [s.loader.ownAddress] }

/-- The content of a station timed from input `i` (R10, R11). -/
def lockContent (s : State) (i : Inp) : Content :=
  if (inputCfg s i).use = .peer then
    { cls := .peerLock, grade := s.records[i].effective, interval := (cfg s).interval,
      path := s.records[i].path ++ [s.loader.ownAddress] }
  else
    { cls := .fixedLock, grade := s.records[i].effective, interval := (cfg s).interval,
      path := [s.loader.ownAddress] }

/-- The current content (R9 to R13). -/
def currentContent (s : State) : Content :=
  match s.follower.output with
  | .freeRun => freeRunContent s
  | .holdover =>
    { cls := .holdover, grade := holdoverGrade s, interval := (cfg s).interval, path := [s.loader.ownAddress] }
  | .acquiring | .locked | .bridging =>
    match s.selector.active with
    | some i => lockContent s i
    | none => freeRunContent s

/-! ### The Announcer's want -/

/-- An ANNOUNCE is ready: a flag set and the spacing timer stopped (R134). -/
def announceReady (a : Announcer) : Bool :=
  (a.periodicFlag || a.eventFlag || a.queryFlag) && a.spacingTimer.isNone

/-- The Announcer wants a frame (R141, R146). -/
def wantsFrame (a : Announcer) : Bool :=
  match a.mode with
  | .off => false
  | .announcing => announceReady a || !a.queries.isEmpty
  | .withdrawing => true

/-- R122, R124: the access threshold in LOSC cycles. -/
def threshold (s : State) : Nat := if s.bus.rest then restTime else (4 + s.loader.ownAddress) * charTime

/-- The receiver collects a frame (R118). -/
def assembling (b : Bus) : Bool :=
  match b.rx with
  | .assemble _ => true
  | .off => false
  | .hunt => false

/-- R121: the line after a character with a framing error: held active for `held` LOSC cycles more, or by a fault. -/
def heldLine (held : Option Nat) : Line := if held = some 0 then .quiet else .heldActive held

/-- R121: the line has stood at the idle level for at least `n` LOSC cycles, and no character is on it. -/
def idleFor (n : Nat) (b : Bus) : Bool :=
  decide (b.line = .quiet) &&
    (match b.idle with
    | some m => decide (n ≤ m)
    | none => false)

/-- R114: the receiver looks for a start bit: outside a character and, after a framing error, once the line is back at
the idle level. A start bit that follows a fault says that the fault has ended (notes/assumptions/12.md). -/
def awaitsStart : Line → Bool
  | .quiet => true
  | .character _ _ => false
  | .heldActive (some _) => false
  | .heldActive none => true

/-- R119: the frame being collected is over: the line has been idle for more than 2 character times. -/
def gapOver (b : Bus) : Bool := assembling b && idleFor (2 * charTime + 1) b

/-- R120, R122, R124: the transmitter may start now: it is deferring, no frame is being collected, and the line has been
idle for the access threshold. -/
def mayStart (s : State) : Bool :=
  decide (s.bus.tx = .deferring) && !assembling s.bus && idleFor (threshold s) s.bus

/-- R124: the rest can end now: it is in force, nothing is being sent, and the line has been idle for 30 character
times. -/
def restOver (b : Bus) : Bool := b.rest && decide (b.tx ≠ .sending) && idleFor restTime b

/-- R124: the rest as it stands once a start bit, or a frame, has come on the line: one that has been idle for 30
character times before it has ended the rest, and a shorter run leaves it in force. -/
def restKept (b : Bus) : Bool := b.rest && !restOver b

/-! ### Counts that have come to their point

An event of the same moment can start these counts anew, or a law of the spec rests on their length, so the rows of
their points test them (notes/assumptions/1.md). -/

/-- A count that waits one LOSC cycle short of its point `limit` has come to it. -/
def reached (limit n : Nat) : Bool := decide (limit ≤ n + 1)

/-- A timer that counts down has run out. -/
def ranOut (timer : Option Nat) : Bool := decide (timer = some 0)

/-- The age at which an entry's next deadline lies, in seconds (R159, R160). -/
def PeerEntry.deadline (e : PeerEntry) : Nat := if e.state = .stale then 6 * e.interval else 3 * e.interval

/-- R159, R160, R162: the entry's age has come to its next deadline. -/
def PeerEntry.due (e : PeerEntry) : Bool := reached (e.deadline * second) e.ageCycles

/-- R104: the holdover value is valid and its age has come to the limit. -/
def valueDue (s : State) : Bool :=
  s.follower.value.valid && reached ((cfg s).limit * second) s.follower.value.ageCycles

/-- The ALERT output (R184). -/
def alert (s : State) : Bool := !s.log.records.isEmpty

end Sys2Proof.Machine
end

