-- ==== Sys2Proof/Machine/Frame.lean ====
section
/-! DEFINITION. The characters of TXB frames: the CRC-8 (R116), the frames received (R115, R118), the ANNOUNCE payload
read and built (R153, R186), the frames sent, and the characters on the line (R114). -/

namespace Sys2Proof

/-! ### Characters on the line (R114) -/

/-- The eleven levels of a character, bit 0 the first on the line: the start bit at the active level 0, the data bits,
least significant first, the mark bit, and the stop bit at the idle level 1. -/
def charLevels (data : Byte) (mark : Bool) : BitVec 11 := 1#1 ++ BitVec.ofBool mark ++ data ++ 0#1

/-- The character that carries `data` and `mark`, as it is driven. -/
def LineChar.sent (data : Byte) (mark : Bool) : LineChar := { levels := charLevels data mark, held := none }

/-- The start bit is still at the active level at its middle; otherwise the pulse was too short to be one. -/
def LineChar.start (c : LineChar) : Bool := !c.levels.getLsbD 0

/-- The data byte. -/
def LineChar.data (c : LineChar) : Byte := c.levels.extractLsb' 1 8

/-- The mark bit. -/
def LineChar.mark (c : LineChar) : Bool := c.levels.getLsbD 9

/-- The stop bit is at the idle level: no framing error. -/
def LineChar.stopGood (c : LineChar) : Bool := c.levels.getLsbD 10

end Sys2Proof

namespace Sys2Proof.Machine

/-! ### The check character (R116) -/

/-- One bit of the division by x⁸ + x² + x + 1. -/
def crcBit (reg : Byte) : Byte := if reg.msb then (reg <<< 1) ^^^ 0x07 else reg <<< 1

/-- One byte into the CRC register, most significant bit first. -/
def crcByte (reg byte : Byte) : Byte :=
  crcBit (crcBit (crcBit (crcBit (crcBit (crcBit (crcBit (crcBit (reg ^^^ byte))))))))

/-- The CRC-8 of a byte sequence, from a register at 0 (R116). -/
def crc8 (bytes : List Byte) : Byte := bytes.foldl crcByte 0

/-! ### Frames received -/

/-- Kind bytes (R186). -/
def kindAnnounce : Byte := 0x01
/-- Kind byte of QUERY (R186). -/
def kindQuery : Byte := 0x02
/-- Kind byte of WITHDRAW (R186). -/
def kindWithdraw : Byte := 0x03

/-- The kind is one of the three (R152). -/
def knownKind (kind : Byte) : Bool := kind == kindAnnounce || kind == kindQuery || kind == kindWithdraw

/-- The characters of a frame before its check, in frame order (R115). -/
def headBytes (kind : Byte) (f : RxFrame) : List Byte :=
  [f.dest, kind, f.source, f.seq, BitVec.ofNat 8 f.payload.length] ++ f.payload

/-- The payload length is one a frame may have, 0 to 12 (R115, R118). -/
def lengthOk (f : RxFrame) : Bool := decide (f.payload.length ≤ 12)

/-- The frame is intact: the CRC over all its bytes, the check included, is 0 (R116). -/
def intact (kind : Byte) (f : RxFrame) : Bool := crc8 (headBytes kind f ++ [f.check]) == 0

/-! ### The ANNOUNCE payload (R153, R186) -/

/-- Class codes (R186). -/
def classCode : AnnClass → Nat
  | .fixedLock => 1
  | .peerLock => 2
  | .holdover => 3
  | .freeRun => 4

/-- The class a code names (R153). -/
def classOf (code : Nat) : Option AnnClass :=
  if code = 1 then some .fixedLock
  else if code = 2 then some .peerLock
  else if code = 3 then some .holdover
  else if code = 4 then some .freeRun
  else none

/-- What a valid ANNOUNCE payload carries. -/
structure Announced where
  content : Content
  restart : Bool
  deriving DecidableEq, Repr

/-- The path conditions of R7: 1 to 8 addresses, each 1 to 24, none twice, the last the announcing station's. -/
def validPath (path : List Nat) (station : Nat) : Bool :=
  decide (1 ≤ path.length ∧ path.length ≤ 8) && path.all (fun a => decide (1 ≤ a ∧ a ≤ 24)) &&
    decide path.Nodup && decide (path.getLast? = some station)

/-- The payload fields as they stand, before R153 judges them. -/
def payloadByte (payload : List Byte) (k : Nat) : Nat := (payload.getD k 0).toNat

/-- Bits 0 to 3 of payload byte 2: the interval (R186). -/
def payloadInterval (payload : List Byte) : Nat := payloadByte payload 2 % 16

/-- Bit 7 of payload byte 2: RESTART (R186). -/
def payloadRestart (payload : List Byte) : Bool := decide (128 ≤ payloadByte payload 2)

/-- The path bytes of a payload (R186). -/
def payloadPath (payload : List Byte) : List Nat := (payload.drop 4).map BitVec.toNat

/-- R153: the content of an ANNOUNCE from `source`, when it is valid. -/
def readAnnounce (source : Nat) (payload : List Byte) : Option Announced :=
  match classOf (payloadByte payload 0) with
  | none => none
  | some cls =>
    if (1 ≤ payloadByte payload 1 ∧ payloadByte payload 1 ≤ 15) ∧
        (1 ≤ payloadInterval payload ∧ payloadInterval payload ≤ 8) ∧
        (1 ≤ payloadByte payload 3 ∧ payloadByte payload 3 ≤ 8) ∧
        payload.length = 4 + payloadByte payload 3 ∧
        validPath (payloadPath payload) source = true then
      some { content := { cls := cls, grade := payloadByte payload 1, interval := payloadInterval payload,
                          path := payloadPath payload },
             restart := payloadRestart payload }
    else none

/-! ### Frames sent -/

/-- The payload of an ANNOUNCE (R186). -/
def announcePayload (c : Content) (restart : Bool) : List Byte :=
  [BitVec.ofNat 8 (classCode c.cls), BitVec.ofNat 8 c.grade,
    BitVec.ofNat 8 (c.interval + if restart then 128 else 0), BitVec.ofNat 8 c.path.length] ++
  c.path.map (BitVec.ofNat 8)

/-- Destination, kind, sequence and payload of a frame sent (R141, R146). -/
def txParts : TxFrame → Nat × Byte × Byte × List Byte
  | .announce c restart seq => (0, kindAnnounce, seq, announcePayload c restart)
  | .query dest seq => (dest, kindQuery, seq, [])
  | .withdraw seq => (0, kindWithdraw, seq, [])

/-- The frame sent by station `own`, as a receiver collects it, with its check (R115, R116). -/
def txAsReceived (own : Nat) (f : TxFrame) : Byte × RxFrame :=
  let p := txParts f
  let head : RxFrame :=
    { dest := BitVec.ofNat 8 p.1, source := BitVec.ofNat 8 own, seq := p.2.2.1, payload := p.2.2.2, check := 0 }
  (p.2.1, { head with check := crc8 (headBytes p.2.1 head) })

/-- The characters of a frame sent, in the order they are driven (R115, R186). -/
def txBytes (own : Nat) (f : TxFrame) : List Byte :=
  headBytes (txAsReceived own f).1 (txAsReceived own f).2 ++ [(txAsReceived own f).2.check]

/-- The characters of a frame sent: the first, its header, is a mark character, and every other has its mark bit at 0
(R114, R115). -/
def txChars (own : Nat) (f : TxFrame) : List LineChar :=
  (txBytes own f).mapIdx fun k byte => LineChar.sent byte (decide (k = 0))

/-- The levels that a frame sent drives on the line, bit by bit in order (R114). -/
def txLevels (own : Nat) (f : TxFrame) : List Bool :=
  (txChars own f).flatMap fun c => (List.range 11).map c.levels.getLsbD

/-- The duration of a frame on the line in LOSC cycles: 6 + L characters back to back (R115, R123). -/
def txDuration (f : TxFrame) : Nat := (6 + (txParts f).2.2.2.length) * charTime

end Sys2Proof.Machine
end

