-- ==== Sys2Proof/Machine/Operands.lean ====
section
/-! DEFINITION. Operands: the bytes of numbers (R186), and the configuration image read, checked and clamped
(R169 to R172). -/

namespace Sys2Proof.Machine

/-! ### Numbers and bytes (R186: most significant byte first, signed in two's complement) -/

/-- Byte `k` of a list, 0 beyond its end. -/
def byteAt (bytes : List Byte) (k : Nat) : Nat := (bytes.getD k 0).toNat

/-- The 2-byte number at offset `k`. -/
def word2 (bytes : List Byte) (k : Nat) : Nat := byteAt bytes k * 256 + byteAt bytes (k + 1)

/-- The 3-byte number at offset `k`. -/
def word3 (bytes : List Byte) (k : Nat) : Nat := word2 bytes k * 256 + byteAt bytes (k + 2)

/-- The 4-byte number at offset `k`. -/
def word4 (bytes : List Byte) (k : Nat) : Nat := word3 bytes k * 256 + byteAt bytes (k + 3)

/-- A number in one byte. -/
def be1 (n : Nat) : List Byte := [BitVec.ofNat 8 n]

/-- A number in two bytes. -/
def be2 (n : Nat) : List Byte := [BitVec.ofNat 8 (n / 256), BitVec.ofNat 8 n]

/-- A number in three bytes. -/
def be3 (n : Nat) : List Byte := BitVec.ofNat 8 (n / 65536) :: be2 n

/-- A number in four bytes. -/
def be4 (n : Nat) : List Byte := BitVec.ofNat 8 (n / 16777216) :: be3 n

/-- A signed number in two bytes. -/
def signed2 (n : Int) : List Byte := be2 (BitVec.ofInt 16 n).toNat

/-! ### Clamps (R170 to R172) -/

/-- A field brought into `low` to `high`. -/
def clampTo (low high n : Nat) : Nat := max low (min high n)

/-- 1 when a clamp altered the field (R170: once, however many of its clamps alter it). -/
def altered (before after : Nat) : Nat := if before = after then 0 else 1

/-- The use code (R171): codes above 2 name none. -/
def useOfCode (code : Nat) : Option InputUse :=
  if code = 0 then some .off else if code = 1 then some .fixed else if code = 2 then some .peer else none

/-- The LOS mode code (R171): codes above 2 are brought to "ignored". -/
def losModeOfCode (code : Nat) : LosMode :=
  if code = 1 then .activeHigh else if code = 2 then .activeLow else .ignored

/-- The LOS mode clamp counts when the code is above 2 (R171). -/
def losModeAltered (code : Nat) : Nat := if 2 < code then 1 else 0

/-- R171, first stage: the use, and 1 when it was altered. -/
def settleUse (own code bound : Nat) : InputUse × Nat :=
  match useOfCode code with
  | none => (.off, 1)
  | some .peer => if bound = 0 ∨ 24 < bound ∨ bound = own then (.off, 1) else (.peer, 0)
  | some use => (use, 0)

/-- R171: the clamped fields of the input laid out at offset `k`, and how many were altered. -/
def readInput (own : Nat) (image : List Byte) (k : Nat) : InputCfg × Nat :=
  let bound := byteAt image (k + 6)
  let use := settleUse own (byteAt image k) bound
  let raw : InputCfg :=
    { use := use.1, freq := word4 image (k + 1), fixedGrade := byteAt image (k + 5), bound := bound,
      ceiling := byteAt image (k + 7), priority := byteAt image (k + 8), holdOff := byteAt image (k + 9),
      wtr := word2 image (k + 10), losMode := losModeOfCode (byteAt image (k + 12)) }
  if use.1 = .off then (raw, use.2)
  else
    let c : InputCfg :=
      { raw with
        freq := clampTo 8000 100000000 raw.freq
        fixedGrade := clampTo 1 15 raw.fixedGrade
        bound := if use.1 = .fixed ∧ 24 < bound then 0 else bound
        ceiling := clampTo 1 15 raw.ceiling
        priority := clampTo 1 8 raw.priority
        holdOff := clampTo 0 50 raw.holdOff
        wtr := clampTo 0 900 raw.wtr }
    (c, altered raw.freq c.freq + altered raw.fixedGrade c.fixedGrade + altered raw.bound c.bound +
        altered raw.ceiling c.ceiling + altered raw.priority c.priority + altered raw.holdOff c.holdOff +
        altered raw.wtr c.wtr + losModeAltered (byteAt image (k + 12)))

/-- The offset of input `i` in the image (R186). -/
def inputOffset (i : Inp) : Nat := 32 + 13 * i.val

/-- The trust mask (R186: bit `k` of byte 3 + j is address 8j + k + 1), the own address's bit cleared (R170). -/
def readTrust (own : Nat) (image : List Byte) : BitVec 24 :=
  let mask := BitVec.ofNat 24 (byteAt image 3 + 256 * byteAt image 4 + 65536 * byteAt image 5)
  if own = 0 then mask else mask &&& ~~~(BitVec.ofNat 24 (2 ^ (own - 1)))

/-- R170 to R172: the clamped image and its clamp count. -/
def clampImage (own : Nat) (image : List Byte) : Image × Nat :=
  let interval := byteAt image 2
  let accept := word2 image 7
  let reject := word2 image 9
  let pull := word2 image 11
  let settle := byteAt image 13
  let floor := byteAt image 14
  let warmup := word2 image 15
  let limit := word3 image 29
  let reject' := clampTo 1 32767 reject
  let accept' := min (clampTo 1 32767 accept) reject'
  let limit' := max 1 limit
  let age1' := min limit' (word3 image 17)
  let age2' := max age1' (min limit' (word3 image 21))
  let age3' := max age2' (min limit' (word3 image 25))
  let grade1' := clampTo 1 15 (byteAt image 20)
  let grade2' := max grade1' (clampTo 1 15 (byteAt image 24))
  let grade3' := max grade2' (clampTo 1 15 (byteAt image 28))
  let inputs := Vector.ofFn fun i : Inp => readInput own image (inputOffset i)
  let c : Image :=
    { interval := clampTo 1 8 interval, trust := readTrust own image,
      revertive := decide (byteAt image 6 % 2 = 1), accept := accept', reject := reject',
      pull := clampTo 1 32767 pull, settle := clampTo 1 60 settle, floor := clampTo 1 15 floor,
      warmup := min 3600 warmup, age1 := age1', age2 := age2', age3 := age3', grade1 := grade1', grade2 := grade2',
      grade3 := grade3', limit := limit', inputs := inputs.map Prod.fst }
  (c, altered interval c.interval + altered accept c.accept + altered reject c.reject + altered pull c.pull +
      altered settle c.settle + altered floor c.floor + altered warmup c.warmup + altered (word3 image 17) age1' +
      altered (word3 image 21) age2' + altered (word3 image 25) age3' + altered (byteAt image 20) grade1' +
      altered (byteAt image 24) grade2' + altered (byteAt image 28) grade3' + altered limit limit' +
      (inputs.map Prod.snd).toList.sum)

/-- R169: the cause of an image's failure, or its clamped contents and clamp count. -/
def validateImage (own : Nat) (image : List Byte) : Except LoadCause (Image × Nat) :=
  if byteAt image 0 ≠ 0xB4 then .error .signature
  else if byteAt image 1 ≠ 0x01 then .error .format
  else .ok (clampImage own image)

end Sys2Proof.Machine
end

