-- ==== Sys2Proof/Machine/Ops.lean ====
section
/-! DEFINITION. The named updates of the state, the Event Log's append, the counters and the port's answers. -/

namespace Sys2Proof.Machine

/-! ### Named updates -/

/-- The state with another Image Loader. -/
def State.withLoader (s : State) (x : Loader) : State := { s with loader := x }

/-- The state with other pin levels. -/
def State.withPins (s : State) (x : Pins) : State := { s with pins := x }

/-- The state with another Selector. -/
def State.withSelector (s : State) (x : Selector) : State := { s with selector := x }

/-- The state with another Output Follower. -/
def State.withFollower (s : State) (x : Follower) : State := { s with follower := x }

/-- The state with another Peer Table. -/
def State.withPeers (s : State) (x : PeerTable) : State := { s with peers := x }

/-- The state with another Announcer. -/
def State.withAnnouncer (s : State) (x : Announcer) : State := { s with announcer := x }

/-- The state with another Bus Interface. -/
def State.withBus (s : State) (x : Bus) : State := { s with bus := x }

/-- The state with another Event Log. -/
def State.withLog (s : State) (x : EventLog) : State := { s with log := x }

/-- The state with another Controller Port. -/
def State.withPort (s : State) (x : Port) : State := { s with port := x }

/-- The state with another monitor of input `i`. -/
def State.withMonitor (s : State) (i : Inp) (m : Monitor) : State := { s with monitors := s.monitors.set i m }

/-- The state with another record of input `i`. -/
def State.withRecord (s : State) (i : Inp) (r : InputRec) : State := { s with records := s.records.set i r }

/-- The state with another entry at the place of station `k`. -/
def State.withEntry (s : State) (k : Slot) (e : Option PeerEntry) : State :=
  { s with peers := { s.peers with entries := s.peers.entries.set k e } }

/-- The state with another rate window of station `k`. -/
def State.withWindow (s : State) (k : Slot) (w : Option RateWindow) : State :=
  { s with peers := { s.peers with windows := s.peers.windows.set k w } }

/-- The state with another active input. -/
def State.withActive (s : State) (a : Option Inp) : State := { s with selector := { s.selector with active := a } }

/-- The state with another force setting. -/
def State.withForce (s : State) (f : Force) : State := { s with selector := { s.selector with force := f } }

/-! ### Counters -/

/-- A 16-bit counter advanced, stopping at 65,535 (R133, R147, R185). -/
def bump (n : Nat) : Nat := min 65535 (n + 1)

/-- One more in the check/framing/malformed counter. -/
def countBad (s : State) : State := s.withBus { s.bus with bad := bump s.bus.bad }

/-- One more in the untrusted counter. -/
def countUntrusted (s : State) : State := s.withPeers { s.peers with untrusted := bump s.peers.untrusted }

/-- One more in the rate-discarded counter. -/
def countRate (s : State) : State := s.withPeers { s.peers with rateDiscarded := bump s.peers.rateDiscarded }

/-- One more in the sequence-discarded counter. -/
def countSequence (s : State) : State := s.withPeers { s.peers with seqDiscarded := bump s.peers.seqDiscarded }

/-! ### The Event Log (R182) -/

/-- A record appended to the log, or discarded with OVERFLOW set when the list holds 32 (R182). -/
def EventLog.append (l : EventLog) (kind : EventKind) (arg1 arg2 : Nat) : EventLog :=
  if l.records.length < 32 then
    { l with records := l.records ++
        [{ uptime := l.uptime, kind := kind, arg1 := BitVec.ofNat 8 arg1, arg2 := BitVec.ofNat 8 arg2 }] }
  else { l with overflow := true }

/-- A block appends a record (R182). -/
def logEvent (kind : EventKind) (arg1 arg2 : Nat) (s : State) : State := s.withLog (s.log.append kind arg1 arg2)

/-! ### The codes of event arguments (R186) -/

/-- WTR status codes (R186). -/
def Wtr.code : Wtr → Nat
  | .none => 0
  | .running _ => 1
  | .served => 2
  | .met => 3
  | .waived => 4

/-- Output state codes (R186). -/
def Output.code : Output → Nat
  | .freeRun => 0
  | .acquiring => 1
  | .locked => 2
  | .bridging => 3
  | .holdover => 4

/-- Peer state codes (R186). -/
def PeerState.code : PeerState → Nat
  | .fresh => 1
  | .stale => 2
  | .withdrawn => 3

/-! ### The Controller Port's answers (R178) -/

/-- The bytes of one frame on SDO: 0x00 while the command and its `args` argument bytes are clocked, then the answer. -/
def answer (args : Nat) (bytes : List Byte) (s : State) : State :=
  s.withPort { s.port with sdo := List.replicate (1 + args) 0 ++ bytes, reading := .closed }

/-- Byte `k` that SDO drives in a frame, from the first: past the answer it is 0x00 (R178). -/
def Port.sdoByte (p : Port) (k : Nat) : Byte := p.sdo.getD k 0x00

/-- The port takes commands unless a reset is held (R178). -/
def portOpen (s : State) : Bool := s.hold.isNone

end Sys2Proof.Machine
end

