-- ==== Sys2Proof/Machine/Records.lean ====
section
/-! DEFINITION. The records of READ, byte by byte (R15, R39, R65, R109, R133, R164, R177, R179, R185, R186). -/

namespace Sys2Proof.Machine

/-! ### Codes (R186) -/

/-- Part state codes. -/
def PartState.code : PartState → Nat
  | .loading => 0
  | .awaitImage => 1
  | .cfgFault => 2
  | .running => 3

/-- Load cause codes. -/
def LoadCause.code : LoadCause → Nat
  | .none => 0
  | .signature => 1
  | .format => 2
  | .eepromAbsent => 3
  | .address => 4

/-- Reset cause codes. -/
def ResetKind.code : ResetKind → Nat
  | .power => 1
  | .pin => 2
  | .soft => 3

/-- Use codes. -/
def InputUse.code : InputUse → Nat
  | .off => 0
  | .fixed => 1
  | .peer => 2

/-- Input state codes. -/
def InputState.code : InputState → Nat
  | .off => 0
  | .barred => 1
  | .proving => 2
  | .ready => 3
  | .active => 4
  | .suspect => 5

/-- SUSPECT origin codes. -/
def originCode : Option Origin → Nat
  | none => 0
  | some .ready => 3
  | some .active => 4

/-- Last check result codes. -/
def CheckResult.code : CheckResult → Nat
  | .none => 0
  | .clear => 1
  | .hold => 2
  | .absolute => 3
  | .relative => 4
  | .both => 5

/-- Force target codes. -/
def Force.code : Force → Nat
  | .none => 0
  | .input n => n.val + 1
  | .holdover => 7

/-- Bridging origin codes of the holdover record. -/
def bridgeCode : Option BridgeOrigin → Nat
  | none => 0
  | some .acquiring => 1
  | some .locked => 2

/-- Event kind codes, in the order of the table of R186. -/
def EventKind.code : EventKind → Nat
  | .started => 1
  | .switched => 2
  | .inputBarred => 3
  | .inputReady => 4
  | .outputLocked => 5
  | .peerLost => 6
  | .peerWithdrawn => 7
  | .peerGone => 8
  | .duplicate => 9
  | .forceCleared => 10
  | .holdoverExpired => 11
  | .warmupDone => 12

/-- An input's number, 0 for none. -/
def inputCode : Option Inp → Nat
  | some i => inputNumber i
  | none => 0

/-! ### The records -/

/-- A path in 8 bytes, unused ones 0 (R186). -/
def pathBytes (path : List Nat) : List Byte := (List.range 8).map fun k => BitVec.ofNat 8 (path.getD k 0)

/-- An event record (R186): uptime, kind and arguments. -/
def eventBytes (e : EventRec) : List Byte := be4 e.uptime ++ be1 e.kind.code ++ [e.arg1, e.arg2]

/-- The empty event record: kind NONE (R183). -/
def emptyEvent : List Byte := List.replicate 7 0

/-- The flags of the status record (R186). -/
def statusFlags (s : State) : Nat :=
  s.bus.duplicate.toNat + 2 * s.follower.warm.toNat + 4 * s.log.overflow.toNat +
    8 * (decide (s.selector.force ≠ .none)).toNat + 16 * s.loader.held.toNat + 32 * s.loader.controllerMode.toNat

/-- The announced content in the status record (R15): the last transmitted, or zeros while absent. -/
def announcedBytes : Option Content → List Byte
  | some c => be1 (classCode c.cls) ++ be1 c.grade ++ be1 c.path.length ++ pathBytes c.path
  | none => List.replicate 11 0

/-- Record 0, the status record. -/
def statusRecord (s : State) : List Byte :=
  be1 s.loader.partState.code ++ be1 s.loader.cause.code ++ be1 s.cause.code ++ be1 (statusFlags s) ++
    be1 s.loader.ownAddress ++ be1 s.follower.output.code ++ be1 (inputCode s.selector.active) ++
    be1 s.selector.force.code ++ signed2 (outputOffset s) ++ announcedBytes s.announcer.last ++ be4 s.log.uptime ++
    be1 s.log.records.length

/-- The use shown in an input record: OFF before START (R39, R177). -/
def shownUse (s : State) (i : Inp) : InputUse := if running s then (inputCfg s i).use else .off

/-- The bound station shown in an input record (R65, R177): 0 before START; free for an OFF input while RUNNING. -/
def shownBound (s : State) (i : Inp) : Byte :=
  if running s then
    if (inputCfg s i).use = .off then Config.offBoundShown (inputCfg s i).bound
    else BitVec.ofNat 8 (inputCfg s i).bound
  else 0

/-- The hold-off remaining in milliseconds (R65); a part of a millisecond is shown up or down, which is free. -/
def holdOffMs : Option Nat → Nat
  | none => 0
  | some cycles =>
    if cycles % millisecond = 0 then cycles / millisecond
    else cycles / millisecond + (Config.holdOffRoundsUp cycles).toNat

/-- The whole seconds elapsed of a running WTR (R53, R65). -/
def wtrSeconds : Wtr → Nat
  | .running cycles => cycles / second
  | .none => 0
  | .served => 0
  | .met => 0
  | .waived => 0

/-- The flags of an input record (R186). -/
def inputFlags (m : Monitor) (r : InputRec) : Nat :=
  r.hardSeen.toNat + 2 * m.losLevel.toNat + 4 * m.losCause.toNat + 8 * m.present.toNat + 16 * m.signal.toNat +
    32 * m.freq.toNat + 64 * m.lastOffset.isSome.toNat

/-- Records 1 to 6, the input records. -/
def inputRecord (s : State) (i : Inp) : List Byte :=
  let m := s.monitors[i]
  let r := s.records[i]
  be1 (inputNumber i) ++ be1 (shownUse s i).code ++ [shownBound s i] ++ be1 r.state.code ++ be1 (originCode r.origin) ++
    be1 r.reasons.bits ++ be1 (inputFlags m r) ++ be2 (holdOffMs r.holdOff) ++ be1 r.wtr.code ++
    be2 (wtrSeconds r.wtr) ++ be1 r.raw ++ be1 r.effective ++ be1 r.hop ++ be1 m.window.length ++
    signed2 (m.lastOffset.getD 0) ++ be1 m.check.code

/-- The count of a rate window, 0 when closed (R164). -/
def windowCount : Option RateWindow → Nat
  | some w => w.count
  | none => 0

/-- An entry's age in whole seconds (R147). -/
def PeerEntry.age (e : PeerEntry) : Nat := e.ageCycles / second

/-- Records 7 to 30, the peer records. -/
def peerRecord (s : State) (k : Slot) : List Byte :=
  match s.peers.entries[k] with
  | some e =>
    be1 (address k) ++ be1 e.state.code ++ [e.lastSeq] ++ be1 (classCode e.cls) ++ be1 e.grade ++ be1 e.interval ++
      be1 e.age ++ be1 (windowCount s.peers.windows[k]) ++ be1 e.path.length ++ pathBytes e.path
  | none => be1 (address k) ++ List.replicate 16 0

/-- Whole seconds left of the settle timer, 0 when stopped (R109). -/
def settleSeconds : Option Nat → Nat
  | some left => left / second
  | none => 0

/-- Record 31, the holdover record (R109). -/
def holdoverRecord (s : State) : List Byte :=
  let v := s.follower.value
  be1 v.valid.toNat ++ signed2 v.value ++ be1 v.base ++ be3 v.age ++ be1 (inputCode v.source) ++
    be1 (holdoverGrade s) ++ be1 s.follower.history.length ++ be1 (bridgeCode s.follower.bridging) ++
    be1 (settleSeconds s.follower.settle) ++ be2 s.follower.warmCount

/-- Record 32, the counters record (R185). -/
def countersRecord (s : State) : List Byte :=
  be2 s.bus.intact ++ be2 s.bus.bad ++ be2 s.peers.untrusted ++ be2 s.peers.rateDiscarded ++ be2 s.peers.seqDiscarded ++
    be2 s.bus.clashes ++ be2 s.bus.sent ++ be2 s.loader.clampCount

/-- The oldest event record, or the empty one (R183, R184). -/
def oldestEvent (l : EventLog) : List Byte :=
  match l.records with
  | e :: _ => eventBytes e
  | [] => emptyEvent

/-- Record 33, the event head record (R184). -/
def eventHeadRecord (s : State) : List Byte :=
  be1 s.log.records.length ++ be1 s.log.overflow.toNat ++ oldestEvent s.log

/-- The capture of every record, in address order (R179). -/
def capture (s : State) : List Byte :=
  statusRecord s ++ (List.finRange 6).flatMap (inputRecord s) ++ (List.finRange 24).flatMap (peerRecord s) ++
    holdoverRecord s ++ countersRecord s ++ eventHeadRecord s

/-- The length of a record, by its address (R179). -/
def recordLength (a : Nat) : Nat :=
  if a = 0 then 26 else if a ≤ 6 then 19 else if a ≤ 30 then 17 else if a = 31 then 14 else if a = 32 then 16 else 9

/-- The bytes of all records, one pass of the stream (R179). -/
def passLength : Nat := 587

/-- Where a record begins in a pass (R179). -/
def recordOffset (a : Nat) : Nat := ((List.range a).map recordLength).sum

/-- The stream of READ from the byte at `place` of a pass: to the end of record 33 the bytes of the capture `first`, and
past it those of the capture `fresh`, from the first of record 0 (R179). -/
def readStream (first fresh : List Byte) (place count : Nat) : List Byte :=
  (List.range count).map fun k =>
    if place + k < passLength then first.getD (place + k) 0 else fresh.getD ((place + k) % passLength) 0

end Sys2Proof.Machine
end

