-- ==== Sys2Proof/Machine/Resets.lean ====
section
/-! DEFINITION. The resets: POWER_RESET, PIN_RESET, RESET_RELEASE, and the soft reset taking place (R131, R166, R167). -/

namespace Sys2Proof.Machine

/-- A strap value is an address a station may carry (R166). -/
def strapGood (addr : Nat) : Bool := decide (1 ≤ addr ∧ addr ≤ 24)

/-- R166: the Image Loader at a release, by the straps. -/
def loaderAtRelease (pins : Pins) : Loader :=
  let l : Loader := { Loader.init with controllerMode := pins.controllerMode }
  if strapGood pins.addrStrap.toNat then
    if pins.controllerMode then { l with partState := .awaitImage, ownAddress := pins.addrStrap.toNat }
    else { l with partState := .loading, eeprom := .attempt 1 0, ownAddress := pins.addrStrap.toNat }
  else { l with partState := .cfgFault, cause := .address }

/-- The level of LOS line `i` (R18). -/
def losPin (pins : Pins) (i : Inp) : Bool := pins.los.getLsbD i.val

/-- The release of a reset of kind `kind` at pins `pins`: every unit at its values after that reset (R40, R67, R69, R112,
R130, R134, R147, R166, R182), the detectors' first sample taken (R18), warm-up begun after POWER (R107). -/
def released (kind : ResetKind) (pins : Pins) (port : Port) (pending : List Instr) : State :=
  { State.cleared kind pins pending with
    hold := none
    loader := loaderAtRelease pins
    monitors := Vector.ofFn fun i : Inp => Monitor.init (losPin pins i)
    follower := Follower.init (decide (kind = .power))
    port := port }

/-- A reset of kind `kind` begins: every unit is cleared and the reset is held (R130, R167). -/
def beginReset (kind : ResetKind) (s : State) : State := State.cleared kind s.pins s.pending

/-- R131: the SOFT reset takes place and is released at once (R167), the straps and LOS lines sampled at levels `pins`
(R18, R166; notes/assumptions/5.md). The bytes the port has shifted out in the command's frame stay seen; the capture is
gone, and a READ frame in progress is cut short (R178). -/
def softResetNow (pins : Pins) (s : State) : State := released .soft pins { Port.init with sdo := s.port.sdo } s.pending

/-- POWER_RESET (R167): a POWER reset begins, over a held PIN reset too. -/
def execPowerReset (s : State) : Host.Outcome State Fault Refusal := .next (beginReset .power s)

/-- PIN_RESET (R167): a PIN reset begins; while a reset is held, no new reset begins. -/
def execPinReset (s : State) : Host.Outcome State Fault Refusal :=
  .next (if s.hold.isSome then s else beginReset .pin s)

/-- RESET_RELEASE (R166, R167): the held reset ends with the pins at the given levels. -/
def execResetRelease (addrStrap : BitVec 5) (controllerMode : Bool) (los : BitVec 6) (s : State) :
    Host.Outcome State Fault Refusal :=
  .next (match s.hold with
    | some kind =>
      released kind { addrStrap := addrStrap, controllerMode := controllerMode, los := los } Port.init s.pending
    | none => s)

end Sys2Proof.Machine
end

