-- ==== Sys2Proof/Machine/Frequency.lean ====
section
/-! DEFINITION. The frequency arithmetic: rounding (00_scope.md 4.5), the windowed offset (R28, R29), the frequency
check (R33 to R35) and the holdover mean (R103). -/

namespace Sys2Proof.Machine

/-- `num / den` rounded to the nearest integer, halves away from zero (00_scope.md 4.5), for `den > 0`. -/
def roundDiv (num : Int) (den : Nat) : Int :=
  if 0 ≤ num then (2 * num + den) / (2 * den) else -((2 * (-num) + den) / (2 * den))

/-- An offset clamped to −32767 to +32767 (R29). -/
def clampOffset (n : Int) : Int := max (-offsetMax) (min offsetMax n)

/-- D = S − 8F (R28). -/
def windowDifference (window : List Nat) (freq : Nat) : Int := (window.sum : Int) - 8 * (freq : Int)

/-- The windowed offset (R29). -/
def windowedOffset (window : List Nat) (freq : Nat) : Int :=
  clampOffset (roundDiv (windowDifference window freq * 12500000) freq)

/-- A window with a count joined to it, at most the last 8 kept (R26). -/
def joinWindow (window : List Nat) (count : Nat) : List Nat :=
  (window ++ [count]).drop (window.length + 1 - 8)

/-- The outcome of the relative part (R34, R35). -/
inductive Relative where
  | notApplying | passes | undecided | fails
  deriving DecidableEq, Repr

/-- The absolute part (R33): it fails when the magnitude is above the pull limit, and never in warm-up. -/
def absoluteFails (warm : Bool) (pull : Nat) (offset : Int) : Bool :=
  !warm && decide ((pull : Int) < offset.natAbs)

/-- The relative part (R34), against the output offset `o`. -/
def relativePart (applies : Bool) (accept reject : Nat) (offset o : Int) : Relative :=
  if !applies then .notApplying
  else if reject < (offset - o).natAbs then .fails
  else if (offset - o).natAbs ≤ accept then .passes
  else .undecided

/-- R35: the FREQ status after the check and the last check result. -/
def combineChecks (absFails : Bool) (rel : Relative) (before : Bool) : Bool × CheckResult :=
  match absFails, rel with
  | true, .fails => (true, .both)
  | true, .passes => (true, .absolute)
  | true, .undecided => (true, .absolute)
  | true, .notApplying => (true, .absolute)
  | false, .fails => (true, .relative)
  | false, .passes => (false, .clear)
  | false, .notApplying => (false, .clear)
  | false, .undecided => (before, .hold)

/-- The holdover value: the mean of the 16 offsets, rounded (R103). -/
def holdoverMean (history : List Int) : Int := roundDiv history.sum 16

end Sys2Proof.Machine
end

