-- ==== Sys2Proof/Machine/Qualify.lean ====
section
/-! DEFINITION. The Qualifier's moves of an input on its reason set (R46 to R55), what the Output Follower does in the
same event (R96, R97, R102), and the recomputation of the inputs bound to a station (R6). -/

namespace Sys2Proof.Machine

/-! ### One record -/

/-- What a move of a record appends to the log (R64). -/
inductive Notice where
  | nothing
  | barred
  | ready (status : Wtr)
  deriving DecidableEq, Repr

/-- The input becomes BARRED with a reason set; hard-seen follows R46, timers and origin go. -/
def InputRec.bar (r : InputRec) (reasons : Reasons) : InputRec :=
  { r with state := .barred, origin := none, reasons := reasons, hardSeen := reasons.hard, holdOff := none,
           wtr := .none }

/-- The WTR status lets the input pass (R54). -/
def Wtr.passes : Wtr → Bool
  | .none => false
  | .running _ => false
  | .served => true
  | .met => true
  | .waived => true

/-- R54: a PROVING input passes to READY when its WTR status lets it and its window is full. -/
def InputRec.promote (r : InputRec) (full : Bool) : InputRec × Notice :=
  if r.state = .proving ∧ full = true ∧ r.wtr.passes = true then
    ({ r with state := .ready, wtr := .none }, .ready r.wtr)
  else (r, .nothing)

/-- R52: the WTR status at entry to PROVING from BARRED. -/
def entryWtr (hardSeen : Bool) (configured : Nat) : Wtr :=
  if hardSeen then (if configured = 0 then .served else .running 0) else .met

/-- R52: an emptied reason set moves a BARRED input to PROVING, and on to READY in the same event when it may. -/
def InputRec.prove (r : InputRec) (c : InputCfg) (full : Bool) : InputRec × Notice :=
  ({ r with state := .proving, reasons := Reasons.empty, hardSeen := false,
            wtr := entryWtr r.hardSeen c.wtr } : InputRec).promote full

/-- R48: the input enters SUSPECT from READY or ACTIVE and its hold-off timer starts. -/
def InputRec.suspend (r : InputRec) (c : InputCfg) (origin : Origin) : InputRec :=
  { r with state := .suspect, origin := some origin, reasons := { Reasons.empty with signal := true },
           holdOff := some (c.holdOff * (100 * millisecond)) }

/-- R50: the input returns from SUSPECT to its origin. -/
def InputRec.resume (r : InputRec) : InputRec :=
  { r with state := (match r.origin with | some .active => .active | _ => .ready), origin := none,
           reasons := Reasons.empty, holdOff := none }

/-- A reason set reaches a READY or ACTIVE input (R47, R48). -/
def InputRec.usableMove (r : InputRec) (c : InputCfg) (origin : Origin) (reasons : Reasons) : InputRec × Notice :=
  if reasons.none then (r, .nothing)
  else if reasons.onlySignal ∧ 0 < c.holdOff then (r.suspend c origin, .nothing)
  else (r.bar reasons, .barred)

/-- The Qualifier moves an input once, on the reason set that an event leaves it (R45, R47, R48, R50 to R52). -/
def InputRec.move (r : InputRec) (c : InputCfg) (full : Bool) (reasons : Reasons) : InputRec × Notice :=
  match r.state with
  | .off => (r, .nothing)
  | .barred =>
    if reasons.none then r.prove c full
    else ({ r with reasons := reasons, hardSeen := r.hardSeen || reasons.hard }, .nothing)
  | .proving => if reasons.none then r.promote full else (r.bar reasons, .barred)
  | .ready => r.usableMove c .ready reasons
  | .active => r.usableMove c .active reasons
  | .suspect =>
    if reasons.none then (r.resume, .nothing)
    else if reasons.onlySignal then (r, .nothing)
    else (r.bar reasons, .barred)

/-! ### The Output Follower beside the Qualifier -/

/-- R102: the holdover value is computed when the output is LOCKED with 16 offsets, from the history of input `a`, with
the effective grade of `a` as the event leaves it. -/
def computeValue (a : Option Inp) (s : State) : State :=
  match a with
  | some i =>
    if s.follower.output = .locked ∧ s.follower.history.length = 16 then
      s.withFollower { s.follower with
        value := { valid := true, value := holdoverMean s.follower.history, base := s.records[i].effective,
                   ageCycles := 0, source := some i } }
    else s
  | none => s

/-- R96: the active input `i` has entered SUSPECT, and the output enters BRIDGING. -/
def enterBridging (i : Inp) (s : State) : State :=
  let s1 := computeValue (some i) s
  s1.withFollower { s1.follower with
    output := .bridging, settle := none,
    bridging := some (if s.follower.output = .locked then .locked else .acquiring) }

/-- The settle timer started for the configured settle time (R94, R97). -/
def settleStart (s : State) : Option Nat := some ((cfg s).settle * second)

/-- R97: the active input has returned from SUSPECT, and the output leaves BRIDGING by its origin. -/
def leaveBridging (s : State) : State :=
  if s.follower.bridging = some .locked then
    s.withFollower { s.follower with output := .locked, bridging := none }
  else
    s.withFollower { s.follower with output := .acquiring, bridging := none, settle := settleStart s }

/-! ### The move in the state -/

/-- The record of R64 that a move appends. -/
def logNotice (i : Inp) (r : InputRec) (n : Notice) (s : State) : State :=
  match n with
  | .nothing => s
  | .barred => logEvent .inputBarred (inputNumber i) r.reasons.bits s
  | .ready w => logEvent .inputReady (inputNumber i) w.code s

/-- R58: the Output Follower and the Selector's active input follow the move of input `i` from `r` to `r'`. -/
def followMove (i : Inp) (r r' : InputRec) (s : State) : State :=
  if r.state = .active ∧ r'.state = .suspect then enterBridging i s
  else if r.state = .suspect ∧ r'.state = .active then leaveBridging s
  else if r.isActive = true ∧ r'.state = .barred then s.withActive none
  else s

/-- A moved record is put in place, with what follows in the same event. -/
def applyMove (i : Inp) (m : InputRec × Notice) (s : State) : State :=
  followMove i s.records[i] m.1 (logNotice i m.1 m.2 (s.withRecord i m.1))

/-- The Qualifier moves input `i` on a new reason set. -/
def qualify (i : Inp) (reasons : Reasons) (s : State) : State :=
  applyMove i (s.records[i].move (inputCfg s i) (windowFull s i) reasons) s

/-! ### Inputs bound to a station (R3 to R6, R59, R60) -/

/-- R3: the raw grade of a PEER input from its bound entry. -/
def peerRaw : Option PeerEntry → Nat
  | some e => if e.state = .fresh then e.grade else unfit
  | none => unfit

/-- R5: the bound path of a PEER input. -/
def peerPath : Option PeerEntry → List Nat
  | some e => e.path
  | none => []

/-- R59, R60: the three soft reasons that a grade and a path decide. -/
def pathReasons (own effective : Nat) (path : List Nat) (r : Reasons) : Reasons :=
  { r with grade := decide (effective = unfit), loop := path.contains own, range := decide (path.length = 8) }

/-- R6: the record of PEER input `i` recomputed from its bound entry and moved once. -/
def recompute (i : Inp) (s : State) : State :=
  let e := entryOf s (inputCfg s i).bound
  let r := s.records[i]
  let effective := max (peerRaw e) (inputCfg s i).ceiling
  let s1 := s.withRecord i
    { r with raw := peerRaw e, effective := effective, hop := (peerPath e).length, path := peerPath e }
  qualify i (pathReasons s.loader.ownAddress effective (peerPath e) r.reasons) s1

/-- R6: every input bound to station `a` recomputed, in ascending input number. -/
def recomputeBound (a : Nat) (s : State) : State :=
  (List.finRange 6).foldl (fun t i => if boundTo s a i then recompute i t else t) s

end Sys2Proof.Machine
end

