-- ==== Sys2Proof/Machine/Select.lean ====
section
/-! DEFINITION. The Selector: the eligible set (R71), the ranking (R73), the decision (R74), carrying it out (R81, R94,
R98), and the end of every event: force cleared (R86), evaluation (R78, R79), SWITCHED (R82), the event flag (R136) and
the transmitter's want (R122). -/

namespace Sys2Proof.Machine

/-! ### Eligibility and ranking -/

/-- R71, third condition, with the own-oscillator strict rule (R72). -/
def passesOwnGrade (s : State) (i : Inp) : Bool :=
  if boundGroup s i = some true then decide (s.records[i].effective < ownGrade s)
  else decide (s.records[i].effective ≤ ownGrade s)

/-- R71: the input is in the eligible set. -/
def eligible (s : State) (i : Inp) : Bool :=
  s.records[i].fit && decide (s.records[i].effective ≤ 14) && passesOwnGrade s i

/-- R73: input `i` ranks ahead of input `j`. -/
def ranksAhead (s : State) (i j : Inp) : Bool :=
  let a := s.records[i]
  let b := s.records[j]
  decide (a.effective < b.effective ∨ (a.effective = b.effective ∧
    (a.hop < b.hop ∨ (a.hop = b.hop ∧
      ((inputCfg s i).priority < (inputCfg s j).priority ∨ ((inputCfg s i).priority = (inputCfg s j).priority ∧
        i < j))))))

/-- The better ranked of the best so far and the next input, if it is eligible. -/
def betterOf (s : State) (best : Option Inp) (i : Inp) : Option Inp :=
  if eligible s i then
    match best with
    | none => some i
    | some b => if ranksAhead s i b then some i else some b
  else best

/-- The input that ranks first in the eligible set (R73). -/
def bestInput (s : State) : Option Inp := (List.finRange 6).foldl (betterOf s) none

/-! ### The decision -/

/-- A source of the shelf's timing (R82). -/
inductive Source where
  | input (n : Inp) | holdover | freeRun
  deriving DecidableEq, Repr

/-- The seven causes of a switch (R82). -/
inductive Cause where
  | forced | failed | ineligible | better | reverted | available | expired
  deriving DecidableEq, Repr

/-- Source codes (R186). -/
def Source.code : Source → Nat
  | .input n => n.val + 1
  | .holdover => 7
  | .freeRun => 8

/-- Cause codes (R186). -/
def Cause.code : Cause → Nat
  | .forced => 1
  | .failed => 2
  | .ineligible => 3
  | .better => 4
  | .reverted => 5
  | .available => 6
  | .expired => 7

/-- The source the shelf is on (R82). -/
def sourceOf (s : State) : Source :=
  match s.selector.active with
  | some i => .input i
  | none => if s.follower.output = .holdover then .holdover else .freeRun

/-- R77: the own-oscillator state that an own-oscillator decision gives. -/
def ownOscillator (s : State) : Source :=
  match s.follower.output with
  | .holdover => .holdover
  | .freeRun => .freeRun
  | .acquiring | .locked | .bridging => if available s then .holdover else .freeRun

/-- R74, step 3: a fit active input `a` that is in the eligible set, against the first-ranked `b`. -/
def keepOrLeave (s : State) (a b : Inp) : Source × Cause :=
  if s.records[b].effective < s.records[a].effective then (.input b, .better)
  else if (cfg s).revertive ∧ b ≠ a then (.input b, .reverted)
  else (.input a, .reverted)

/-- R74: the decision, with the cause that R82 gives when it changes the source. `barred`: the active input was barred
in this event. -/
def decision (s : State) (barred : Bool) : Source × Cause :=
  match s.selector.force with
  | .input f => (.input f, .forced)
  | .holdover => (.holdover, .forced)
  | .none =>
    match bestInput s with
    | none => (ownOscillator s, if barred then .failed else .ineligible)
    | some b =>
      match s.selector.active with
      | some a => if eligible s a then keepOrLeave s a b else (.input b, .ineligible)
      | none => (.input b, if barred then .failed else .available)

/-! ### Carrying it out -/

/-- R57: the record of an active input that the Selector gives up. -/
def InputRec.giveUp (r : InputRec) : InputRec :=
  if r.state = .active then { r with state := .ready }
  else if r.state = .suspect then { r with origin := some .ready }
  else r

/-- R56: the record of an input that the Selector takes. -/
def InputRec.take (r : InputRec) : InputRec :=
  if r.state = .ready then { r with state := .active }
  else if r.state = .suspect then { r with origin := some .active }
  else r

/-- R57: the active input, if there is one, is given up. -/
def giveUpActive (s : State) : State :=
  match s.selector.active with
  | some a => (s.withRecord a s.records[a].giveUp).withActive none
  | none => s

/-- R94, second and third step: the output for a new input, by its record. -/
def outputFor (s : State) (i : Inp) : Follower :=
  if s.records[i].state = .suspect then
    { s.follower with output := .bridging, settle := none, bridging := some .acquiring, history := [] }
  else
    { s.follower with output := .acquiring, settle := settleStart s, bridging := none, history := [] }

/-- R81, R94: input `i` is taken; `leaver` is the input whose history stands. -/
def takeInput (leaver : Option Inp) (i : Inp) (s : State) : State :=
  let s1 := giveUpActive (computeValue leaver s)
  let s2 := (s1.withRecord i s1.records[i].take).withActive (some i)
  s2.withFollower (outputFor s2 i)

/-- R81, R98: the shelf goes to its own oscillator, in output state `o`. -/
def takeOwn (leaver : Option Inp) (o : Output) (s : State) : State :=
  let s1 := giveUpActive (computeValue leaver s)
  s1.withFollower { s1.follower with output := o, settle := none, bridging := none, history := [] }

/-- R81: a decision that differs from the current one is carried out; one that does not changes nothing. -/
def carryOut (leaver : Option Inp) (d : Source) (s : State) : State :=
  match d with
  | .input i => if s.selector.active = some i then s else takeInput leaver i s
  | .holdover =>
    if s.selector.active = none ∧ s.follower.output = .holdover then s else takeOwn leaver .holdover s
  | .freeRun =>
    if s.selector.active = none ∧ s.follower.output = .freeRun then s else takeOwn leaver .freeRun s

/-- R79: the second decision of an event, when the first took the output into HOLDOVER or out of it. -/
def decideAgain (first : Source × Cause) (before s : State) : State :=
  if first.2 ≠ .forced ∧ (before.follower.output = .holdover) ≠ (s.follower.output = .holdover) then
    carryOut s.selector.active (decision s false).1 s
  else s

/-- One evaluation (R74, R79), in an event that began with active input `leaver`: the state after it and the cause of
its first change. -/
def evaluate (leaver : Option Inp) (s : State) : State × Cause :=
  let d := decision s (leaver.isSome && s.selector.active.isNone)
  (decideAgain d s (carryOut leaver d.1 s), d.2)

/-! ### The end of an event -/

/-- R78: what the decision reads has changed between the state before the event and the state now. -/
def evaluationDue (before s : State) : Bool :=
  (List.finRange 6).any (fun i =>
    decide (before.records[i].state ≠ s.records[i].state) || decide (before.records[i].origin ≠ s.records[i].origin) ||
    decide (before.records[i].effective ≠ s.records[i].effective) ||
    decide (before.records[i].hop ≠ s.records[i].hop) ||
    decide (boundGroup before i = some true ∧ boundGroup s i = some false) ||
    decide (boundGroup before i = some false ∧ boundGroup s i = some true)) ||
  decide (ownGrade before ≠ ownGrade s) || decide (before.selector.force ≠ s.selector.force)

/-- R86: a force naming an input that is now BARRED is cleared. -/
def clearBarredForce (s : State) : State :=
  match s.selector.force with
  | .input f =>
    if s.records[f].state = .barred then logEvent .forceCleared (inputNumber f) 1 (s.withForce .none) else s
  | .none => s
  | .holdover => s

/-- R82: SWITCHED when the source after the event is not the source before it. -/
def logSwitch (before : State) (cause : Cause) (s : State) : State :=
  if sourceOf before = sourceOf s then s
  else logEvent .switched (16 * (sourceOf before).code + (sourceOf s).code) cause.code s

/-- R136: the event flag, when the event changed the current content and it differs from the last transmitted. -/
def raiseEvent (before s : State) : State :=
  if s.announcer.mode ≠ .off ∧ currentContent before ≠ currentContent s ∧
      s.announcer.last ≠ some (currentContent s) then
    s.withAnnouncer { s.announcer with eventFlag := true }
  else s

/-- R122: the want moves the transmitter between IDLE and DEFERRING. -/
def syncWant (s : State) : State :=
  match s.bus.tx with
  | .idle => if wantsFrame s.announcer then s.withBus { s.bus with tx := .deferring } else s
  | .deferring => if wantsFrame s.announcer then s else s.withBus { s.bus with tx := .idle }
  | .off | .sending | .silent => s

/-- The Selector's part of the end of an event: it evaluates when R78 asks for it, or when `must` says the owning rule
does, and the source's change is recorded, with cause EXPIRED when `expired` (R87). -/
def selectorTurn (before : State) (must expired : Bool) (s : State) : State :=
  if must || evaluationDue before s then
    let e := evaluate before.selector.active s
    logSwitch before (if expired then .expired else e.2) e.1
  else s

/-- The end of an event that began in `before` and whose owning block has finished its changes (R58, R78, R81). -/
def settleEvent (before : State) (must expired : Bool) (s : State) : State :=
  syncWant (raiseEvent before (selectorTurn before must expired (clearBarredForce s)))

end Sys2Proof.Machine
end

