-- ==== Sys2Proof/Machine/Controller.lean ====
section
/-! DEFINITION. The remaining commands of the Controller Port: READ (R179), FORCE (R83, R84), UNFORCE (R88), POP_EVENT
(R183), SOFT_RESET (R181), UNKNOWN_COMMAND (R178). -/

namespace Sys2Proof.Machine

/-- R179: the frame after a data byte that ended just before `place`: at the wrap a fresh capture is due. -/
def readingAt (place : Nat) : Reading :=
  if place % passLength = 0 then .before 0 else .within (place % passLength)

/-- R179: `count` data bytes from the byte at `place` of the pass captured in `first`. At the wrap a fresh capture is
taken, which shows the part as it then stands. -/
def shiftRecords (first : List Byte) (place count : Nat) (s : State) : State :=
  if count = 0 then s
  else
    s.withPort { s.port with
      sdo := s.port.sdo ++ readStream first (capture s) place count
      snapshot := if place + count ≤ passLength then first else capture s
      reading := readingAt (place + count) }

/-- R179: `count` more data bytes of the READ frame in progress. -/
def readOn (count : Nat) (s : State) : State :=
  match s.port.reading with
  | .closed => s
  | .blank => s.withPort { s.port with sdo := s.port.sdo ++ List.replicate count 0xFF }
  | .before place => shiftRecords (capture s) place count s
  | .within place => shiftRecords s.port.snapshot place count s

/-- R179: a READ frame at record `a`, its command and argument bytes clocked: the first data byte will take a capture. -/
def openRead (a : Nat) (s : State) : State :=
  let s1 := answer 1 [] s
  s1.withPort { s1.port with reading := if 33 < a then .blank else .before (recordOffset a) }

/-- READ (R179): a new frame, or more of the one in progress (notes/assumptions/13.md). -/
def execRead (place : ReadFrom) (count : Nat) (s : State) : Host.Outcome State Fault Refusal :=
  .next (if portOpen s then
      match place with
      | .record a => readOn count (openRead a.toNat s)
      | .onward => readOn count s
    else s)

/-- The force setting that a FORCE argument names (R83). -/
def forceTarget (n : Byte) : Option Force :=
  match inputOf n with
  | some i => some (.input i)
  | none => if n.toNat = 7 then some .holdover else none

/-- R83, R84: the force can be set now. The input already forced, while it is SUSPECT, is REFUSED like any other
(DESIGN CHOICE, notes/assumptions/26.md). -/
def forceable (s : State) (f : Force) : Bool :=
  match f with
  | .input i => decide (s.records[i].state = .ready ∨ s.records[i].state = .active)
  | .holdover => available s
  | .none => false

/-- The result of FORCE (R83, R84). -/
def forceResult (n : Byte) (s : State) : Byte :=
  match forceTarget n with
  | none => resInvalid
  | some f => if running s && forceable s f then resDone else resRefused

/-- R83, R84, R88: the force setting is replaced and the Selector evaluates; a setting that stands changes nothing. -/
def setForce (f : Force) (s : State) : State :=
  if s.selector.force = f then s else settleEvent s false false (s.withForce f)

/-- FORCE (R83, R84). -/
def execForce (n : Byte) (s : State) : Host.Outcome State Fault Refusal :=
  .next (if portOpen s then
      answer 1 [forceResult n s]
        (match forceTarget n with
        | some f => if running s && forceable s f then setForce f s else s
        | none => s)
    else s)

/-- UNFORCE (R88). -/
def execUnforce (s : State) : Host.Outcome State Fault Refusal :=
  .next (if portOpen s then
      answer 0 [if running s then resDone else resRefused] (if running s then setForce .none s else s)
    else s)

/-- R183: the oldest record leaves the list; OVERFLOW is cleared when the list is then empty. -/
def EventLog.pop (l : EventLog) : EventLog :=
  { l with records := l.records.tail, overflow := l.overflow && !l.records.tail.isEmpty }

/-- POP_EVENT (R183). -/
def execPopEvent (s : State) : Host.Outcome State Fault Refusal :=
  .next (if portOpen s then answer 0 (resDone :: oldestEvent s.log) (s.withLog s.log.pop) else s)

/-- R131, R146: the Announcer enters WITHDRAWING and wants a WITHDRAW; the 50 ms begin. -/
def beginWithdraw (s : State) : State :=
  syncWant (s.withAnnouncer { s.announcer with mode := .withdrawing, withdrawWait := some withdrawTime, waitOver := false })

/-- R181: what SOFT RESET does when it is taken. A second one while the first is pending changes nothing. -/
def softResetTaken (pins : Pins) (s : State) : State :=
  if running s && decide (s.announcer.mode = .withdrawing) then s
  else if running s && !s.bus.duplicate then beginWithdraw s
  else softResetNow pins s

/-- SOFT_RESET (R181): DONE, and the reset at once, at the given pin levels, or after a WITHDRAW. -/
def execSoftReset (s : State) (pins : Pins := Pins.low) : Host.Outcome State Fault Refusal :=
  .next (if portOpen s then softResetTaken pins (answer 0 [resDone] s) else s)

/-- UNKNOWN_COMMAND (R178): a code outside the table is answered INVALID; a code of the table is not this command. -/
def execUnknownCommand (code : Byte) (s : State) : Host.Outcome State Fault Refusal :=
  .next (if portOpen s && !knownCommand code then answer 0 [resInvalid] s else s)

end Sys2Proof.Machine
end

