-- ==== Sys2Proof/Machine/Holdover.lean ====
section
/-! DEFINITION. The Output Follower's own events: SETTLE_EXPIRY (R95), VALUE_EXPIRY (R104), STEP_AGE_REACHED (R105),
WARMUP_END (R107, R108). -/

namespace Sys2Proof.Machine

/-- The active input's number and effective grade, the arguments of OUTPUT_LOCKED (R110). -/
def lockedArgs (s : State) : Nat × Nat :=
  match s.selector.active with
  | some i => (inputNumber i, s.records[i].effective)
  | none => (0, 0)

/-- R95: the output goes from ACQUIRING to LOCKED. -/
def settleEnd (s : State) : State :=
  logEvent .outputLocked (lockedArgs s).1 (lockedArgs s).2
    (s.withFollower { s.follower with output := .locked, settle := none })

/-- SETTLE_EXPIRY (R95). A cancelled timer does not expire, nor one that a take of the same moment has started anew. -/
def execSettleExpiry (s : State) : Host.Outcome State Fault Refusal :=
  .next (if running s && decide (s.follower.output = .acquiring) && ranOut s.follower.settle then settleEnd s else s)

/-- R104: the record becomes invalid, and in HOLDOVER the output goes to FREE_RUN. -/
def expireValue (s : State) : State :=
  logEvent .holdoverExpired s.follower.value.base s.follower.output.code
    (s.withFollower { s.follower with
      value := HoldValue.invalid
      output := if s.follower.output = .holdover then .freeRun else s.follower.output })

/-- R87: a force to HOLDOVER is cleared when the value expires. -/
def clearHoldoverForce (s : State) : State :=
  if s.selector.force = .holdover then logEvent .forceCleared 7 2 (s.withForce .none) else s

/-- R87, R104: the Selector evaluates with cause EXPIRED when the expiry moved the output or cleared a force. -/
def expiryMoves (s : State) : Bool := decide (s.follower.output = .holdover ∨ s.selector.force = .holdover)

/-- R104: the value expires, with all that follows in the event. -/
def valueEnd (s : State) : State :=
  settleEvent s (expiryMoves s) (expiryMoves s) (clearHoldoverForce (expireValue s))

/-- VALUE_EXPIRY (R104). An invalid record has no age, and a record computed in the same moment has not come to the
limit. -/
def execValueExpiry (s : State) : Host.Outcome State Fault Refusal :=
  .next (if running s && valueDue s then valueEnd s else s)

/-- R105, R106: the value's age comes in the next cycle to a step age, below the limit, which is the expiry's. -/
def stepComes (c : Image) (ageCycles : Nat) : Bool :=
  [c.age1 * second, c.age2 * second, c.age3 * second].contains (ageCycles + 1) &&
    decide (ageCycles + 1 < c.limit * second)

/-- R105: the value's age reaches a step age. -/
def stepAge (age : Nat) (s : State) : State :=
  settleEvent s false false
    (s.withFollower { s.follower with value := { s.follower.value with ageCycles := age } })

/-- STEP_AGE_REACHED (R105): the age reaches the step age that lies one cycle on. A step age equal to L is the expiry's
(R106). -/
def execStepAgeReached (s : State) : Host.Outcome State Fault Refusal :=
  .next (if running s && s.follower.value.valid && stepComes (cfg s) s.follower.value.ageCycles then
      stepAge (s.follower.value.ageCycles + 1) s
    else s)

/-- R107, R108: the warm-up flag is cleared, the count having reached the configured length. -/
def clearWarmup (s : State) : State :=
  logEvent .warmupDone ((cfg s).warmup / 256) ((cfg s).warmup % 256)
    (s.withFollower { s.follower with warm := false, warmCount := max s.follower.warmCount (cfg s).warmup })

/-- R108: warm-up ends and the Selector evaluates. -/
def warmupFinish (s : State) : State := settleEvent s true false (clearWarmup s)

/-- WARMUP_END (R107). -/
def execWarmupEnd (s : State) : Host.Outcome State Fault Refusal :=
  .next (if running s && s.follower.warm then warmupFinish s else s)

end Sys2Proof.Machine
end

