-- ==== Sys2Proof/Machine/Inputs.lean ====
section
/-! DEFINITION. The Qualifier's timers and the operator's lockout: HOLD_OFF_EXPIRY (R49), WTR_EXPIRY (R53), LOCKOUT
(R62), RELEASE (R63). -/

namespace Sys2Proof.Machine

/-- R49: a SUSPECT input's hold-off has expired; it is barred with its reason set. -/
def holdOffEnd (i : Inp) (s : State) : State :=
  settleEvent s false false (applyMove i (s.records[i].bar s.records[i].reasons, .barred) s)

/-- HOLD_OFF_EXPIRY (R49). A cancelled timer does not expire (R50, R51). -/
def execHoldOffExpiry (i : Inp) (s : State) : Host.Outcome State Fault Refusal :=
  .next (if running s && decide (s.records[i].state = .suspect) && s.records[i].holdOff.isSome then holdOffEnd i s
    else s)

/-- The WTR timer runs (R53). -/
def Wtr.isRunning : Wtr → Bool
  | .running _ => true
  | .none => false
  | .served => false
  | .met => false
  | .waived => false

/-- R53, R54: the WTR of a PROVING input is served, and the input passes to READY when its window is full. -/
def wtrEnd (i : Inp) (s : State) : State :=
  settleEvent s false false
    (applyMove i (({ s.records[i] with wtr := .served } : InputRec).promote (windowFull s i)) s)

/-- WTR_EXPIRY (R53). A cancelled timer does not expire (R55). -/
def execWtrExpiry (i : Inp) (s : State) : Host.Outcome State Fault Refusal :=
  .next (if running s && decide (s.records[i].state = .proving) && s.records[i].wtr.isRunning then wtrEnd i s else s)

/-- The result of LOCKOUT and RELEASE (R62, R63). -/
def lockResult (n : Byte) (s : State) : Byte :=
  match inputOf n with
  | none => resInvalid
  | some i => if measuring s i then resDone else resRefused

/-- R62: LOCKOUT enters the reason set of input `i`. -/
def lockInput (i : Inp) (s : State) : State :=
  if s.records[i].reasons.lockout then s
  else settleEvent s false false (qualify i { s.records[i].reasons with lockout := true } s)

/-- R63: LOCKOUT leaves the reason set of input `i`. A monitor report or Peer Table change at the same moment comes
before or after it, each by R46 to R52, though the record may then differ by the order (DESIGN CHOICE,
notes/assumptions/28.md). -/
def releaseInput (i : Inp) (s : State) : State :=
  if s.records[i].reasons.lockout then
    settleEvent s false false (qualify i { s.records[i].reasons with lockout := false } s)
  else s

/-- LOCKOUT (R62). -/
def execLockout (n : Byte) (s : State) : Host.Outcome State Fault Refusal :=
  .next (if portOpen s then
      answer 1 [lockResult n s]
        (match inputOf n with
        | some i => if measuring s i then lockInput i s else s
        | none => s)
    else s)

/-- RELEASE (R63). -/
def execRelease (n : Byte) (s : State) : Host.Outcome State Fault Refusal :=
  .next (if portOpen s then
      answer 1 [lockResult n s]
        (match inputOf n with
        | some i => if measuring s i then releaseInput i s else s
        | none => s)
    else s)

end Sys2Proof.Machine
end

