-- ==== Sys2Proof/Machine/Eeprom.lean ====
section
/-! DEFINITION. The I2C transfers of the EEPROM read (R168): the one that reads the image, those that fail, and the time
each takes at least. -/

namespace Sys2Proof.Machine

/-- The EEPROM's device address. -/
def eepromDevice : BitVec 7 := 0x50

/-- The transfer up to its data bytes: a start condition, the device address with the write direction, the memory address
0x00, a repeated start and the device address with the read direction, each acknowledged. -/
def readHead : List I2cAction :=
  [.start, .device eepromDevice false true, .memory 0x00 true, .start, .device eepromDevice true true]

/-- The data bytes read in turn: the part acknowledges each but the last of the 110. -/
def dataActions (bytes : List Byte) : List I2cAction := bytes.mapIdx fun k byte => .data byte (decide (k ≠ 109))

/-- The transfer of an attempt that reads the image, ended by a stop condition. -/
def wholeRead (image : List Byte) : List I2cAction := readHead ++ dataActions image ++ [.stop]

/-- The bit times of clock that an action takes: eight bits and the acknowledgement. -/
def I2cAction.bits : I2cAction → Nat
  | .device _ _ _ => 9
  | .memory _ _ => 9
  | .data _ _ => 9
  | .start => 0
  | .stop => 0

/-- The bit times of clock of a transfer. -/
def transferBits (actions : List I2cAction) : Nat := (actions.map I2cAction.bits).sum

/-- What stands before byte `n` of the transfer, its start conditions made; `read` are the data bytes. -/
def actionsBefore (read : List Byte) : Nat → List I2cAction
  | 0 => readHead.take 1
  | 1 => readHead.take 2
  | 2 => readHead.take 4
  | n + 3 => readHead ++ dataActions (read.take n)

/-- The transfer of a failed attempt, up to the event that fails it. -/
def failedActions : AttemptFailure → List I2cAction
  | .writeAddress => actionsBefore [] 0 ++ [.device eepromDevice false false]
  | .memoryAddress => actionsBefore [] 1 ++ [.memory 0x00 false]
  | .readAddress => actionsBefore [] 2 ++ [.device eepromDevice true false]
  | .heldLow none _ => []
  | .heldLow (some bit) read => actionsBefore read (bit.val / 9)

/-- The transfer of a failed attempt, with the stop condition if the bus lets the part generate it. -/
def failedTransfer (failure : AttemptFailure) (stop : Bool) : List I2cAction :=
  failedActions failure ++ if stop then [.stop] else []

/-- The LOSC cycles that reading the whole image takes at least: its bit times of clock. -/
def readTime : Nat := readBits * i2cBit

/-- The LOSC cycles that an attempt takes at least before this event fails it: the bits clocked until then, and more than
1 ms of a line held low. -/
def failureTime : AttemptFailure → Nat
  | .writeAddress => 9 * i2cBit
  | .memoryAddress => 18 * i2cBit
  | .readAddress => 27 * i2cBit
  | .heldLow none _ => millisecond + 1
  | .heldLow (some bit) _ => bit.val * i2cBit + millisecond + 1

end Sys2Proof.Machine
end

