-- ==== Sys2Proof/Machine/Monitors.lean ====
section
/-! DEFINITION. The Input Monitors: MS_POINT (R18 to R21, R25, R27) and GATE_COMPLETION (R23 to R37, R100). -/

namespace Sys2Proof.Machine

/-! ### The detectors -/

/-- R18: the LOS debounce at a 1 ms point. -/
def losSample (m : Monitor) (high : Bool) : Monitor :=
  if high = m.losLevel then { m with losCount := 0 }
  else if 8 ≤ m.losCount + 1 then { m with losLevel := high, losCount := 0 }
  else { m with losCount := m.losCount + 1 }

/-- R20: the activity detector at a 1 ms point. -/
def activitySample (m : Monitor) (edge : Bool) : Monitor :=
  if m.present then (if edge then m else { m with present := false, activityRun := 0 })
  else if edge then
    if 8 ≤ m.activityRun + 1 then { m with present := true, activityRun := 0 }
    else { m with activityRun := m.activityRun + 1 }
  else { m with activityRun := 0 }

/-- R18, R20: both detectors at a 1 ms point, which restarts the millisecond. -/
def detect (m : Monitor) (high edge : Bool) : Monitor :=
  { activitySample (losSample m high) edge with msPhase := 0 }

/-- R19: the accepted level is the one the LOS mode names as asserted. -/
def losAsserted (mode : LosMode) (level : Bool) : Bool :=
  match mode with
  | .ignored => false
  | .activeHigh => level
  | .activeLow => !level

/-- R19 to R21: the sub-causes and SIGNAL as the detectors stand. -/
def judgeSignal (m : Monitor) (mode : LosMode) : Monitor :=
  { m with losCause := losAsserted mode m.losLevel, activityCause := !m.present,
           signal := losAsserted mode m.losLevel || !m.present }

/-- A gate that starts (R23). -/
def Gate.begun : Gate := { run := true, elapsed := 0, edges := 0 }

/-- R25, R27: SIGNAL has arisen; the gate is abandoned and the window emptied. -/
def abandonGate (m : Monitor) : Monitor := { m with gate := Gate.stopped, window := [] }

/-- R25: SIGNAL has cleared; a gate starts. -/
def beginGate (m : Monitor) : Monitor := { m with gate := Gate.begun }

/-- The reason set of an input with SIGNAL as given. -/
def withSignal (r : Reasons) (present : Bool) : Reasons := { r with signal := present }

/-- R21: the change of SIGNAL, from `before` to the judged monitor `m`, at its monitor and at the Qualifier. -/
def reportSignal (i : Inp) (before : Bool) (m : Monitor) (s : State) : State :=
  if !before && m.signal then
    settleEvent s false false
      (qualify i (withSignal s.records[i].reasons true) (s.withMonitor i (abandonGate m)))
  else if before && !m.signal then
    settleEvent s false false
      (qualify i (withSignal s.records[i].reasons false) (s.withMonitor i (beginGate m)))
  else s.withMonitor i m

/-- The LOS pin of input `i` at a level. -/
def setLosPin (pins : Pins) (i : Inp) (high : Bool) : Pins :=
  { pins with los := if high then pins.los ||| BitVec.twoPow 6 i.val else pins.los &&& ~~~(BitVec.twoPow 6 i.val) }

/-- MS_POINT (R21): the detectors of a monitor at a 1 ms point, and for a used input while RUNNING the SIGNAL
condition. The detectors run whenever no reset is held (R17). -/
def execMsPoint (i : Inp) (losHigh edge : Bool) (s : State) : Host.Outcome State Fault Refusal :=
  .next (if s.hold.isSome then s
    else
      let s1 := s.withPins (setLosPin s.pins i losHigh)
      let m := detect s.monitors[i] losHigh edge
      if measuring s i then reportSignal i m.signal (judgeSignal m (inputCfg s i).losMode) s1
      else s1.withMonitor i m)

/-! ### The gate -/

/-- R24: the count of the gate that completes. -/
def gateCount (g : Gate) (edges : Nat) : Nat := min gateMax (g.edges + edges)

/-- R34: the relative part applies to input `i`. -/
def relativeApplies (s : State) (i : Inp) : Bool :=
  decide (s.selector.active ≠ some i ∧ s.follower.output ≠ .freeRun)

/-- R33 to R35: the check of a windowed offset of input `i`. -/
def frequencyCheck (s : State) (i : Inp) (offset : Int) (before : Bool) : Bool × CheckResult :=
  combineChecks (absoluteFails s.follower.warm (cfg s).pull offset)
    (relativePart (relativeApplies s i) (cfg s).accept (cfg s).reject offset (outputOffset s)) before

/-- R31: the monitor of input `i` after a completion with count `count`, the next gate started. -/
def completeGate (s : State) (i : Inp) (m : Monitor) (count : Nat) : Monitor :=
  let window := joinWindow m.window count
  if window.length = 8 then
    let offset := windowedOffset window (inputCfg s i).freq
    let check := frequencyCheck s i offset m.freq
    { m with gate := Gate.begun, window := window, lastOffset := some offset, freq := check.1, check := check.2 }
  else { m with gate := Gate.begun, window := window }

/-- R100: the offset joins the history, at most the last 16 kept. -/
def joinHistory (history : List Int) (offset : Int) : List Int :=
  (history ++ [offset]).drop (history.length + 1 - 16)

/-- R100: the Follower takes the windowed offset of the active input. -/
def takeOffset (i : Inp) (m : Monitor) (s : State) : State :=
  if s.selector.active = some i ∧ s.follower.output = .locked ∧ m.window.length = 8 ∧ m.freq = false ∧
      s.follower.warm = false then
    s.withFollower { s.follower with history := joinHistory s.follower.history (m.lastOffset.getD 0) }
  else s

/-- R37: the reason set after a check, FREQ changed when the status changed. -/
def freqReasons (r : Reasons) (before after : Bool) : Reasons :=
  if before = after then r else { r with freq := after }

/-- GATE_COMPLETION (R31) of an input whose gate runs. -/
def completion (i : Inp) (edges : Nat) (s : State) : State :=
  let m := s.monitors[i]
  let m' := completeGate s i m (gateCount m.gate edges)
  settleEvent s false false
    (qualify i (freqReasons s.records[i].reasons m.freq m'.freq) (takeOffset i m' (s.withMonitor i m')))

/-- R25: the gate of a monitor can complete now: it runs, and no 1 ms point is due in the same LOSC cycle, which is
taken first. -/
def gateMayComplete (m : Monitor) : Bool := m.gate.run && decide (m.msPhase < millisecond)

/-- GATE_COMPLETION (R31). -/
def execGateCompletion (i : Inp) (edges : Nat) (s : State) : Host.Outcome State Fault Refusal :=
  .next (if measuring s i && gateMayComplete s.monitors[i] then completion i edges s else s)

end Sys2Proof.Machine
end

