-- ==== Sys2Proof/Machine/Loading.lean ====
section
/-! DEFINITION. The Image Loader: START (R22, R41, R68, R91, R113, R132, R135, R174, R175), EEPROM_READ_DONE,
EEPROM_ATTEMPT_FAILED, EEPROM_RETRY (R168), LOAD_IMAGE (R173). -/

namespace Sys2Proof.Machine

/-! ### The START event -/

/-- R22, R41: the monitor of an input at START. -/
def monitorAtStart (m : Monitor) (c : InputCfg) : Monitor :=
  let fresh : Monitor := { m with window := [], lastOffset := none, freq := false, check := .none, gate := Gate.stopped }
  if c.use = .off then { fresh with losCause := false, activityCause := false, signal := false }
  else
    let judged := judgeSignal fresh c.losMode
    if judged.signal then judged else beginGate judged

/-- R6: the raw grade of an input at START. -/
def rawAtStart (c : InputCfg) : Nat := if c.use = .fixed then c.fixedGrade else unfit

/-- R68: the record of an input as START begins, in PROVING with the waiver when it is used. -/
def recordAtStart (c : InputCfg) : InputRec :=
  if c.use = .off then InputRec.init
  else { InputRec.init with state := .proving, wtr := .waived, raw := rawAtStart c,
                            effective := max (rawAtStart c) c.ceiling }

/-- R68: the reasons present at START. -/
def reasonsAtStart (signal : Bool) (r : InputRec) : Reasons :=
  { Reasons.empty with signal := signal, grade := decide (r.effective = unfit) }

/-- R68: the reasons present reach input `i` in the START event. -/
def startInput (i : Inp) (s : State) : State :=
  if used s i then qualify i (reasonsAtStart s.monitors[i].signal s.records[i]) s else s

/-- R68: all six inputs, in ascending number (R64). -/
def startInputs (s : State) : State := (List.finRange 6).foldl (fun t i => startInput i t) s

/-- R135: the Announcer at START. -/
def announcerAtStart : Announcer :=
  { Announcer.init with mode := .announcing, eventFlag := true, spacingTimer := some spacingTime, restart := true,
                        queries := [0] }

/-- R132: the Bus Interface at START. The idle count starts from 0, and grows once the line is at the idle level (R121);
`held` is the time until it is (notes/assumptions/29.md). -/
def busAtStart (held : Option Nat) : Bus :=
  { Bus.init with rx := .hunt, tx := .idle, line := heldLine held, idle := some 0 }

/-- R113: the Output Follower at START, its warm-up flag and count kept. -/
def followerAtStart (f : Follower) : Follower :=
  { Follower.init f.warm with warmCount := f.warmCount }

/-- Every unit as START sets it, before the reasons present take effect (R175). -/
def startUnits (held : Option Nat) (s : State) : State :=
  { s with
    loader := { s.loader with partState := .running, eeprom := .idle }
    monitors := Vector.ofFn fun i : Inp => monitorAtStart s.monitors[i] (inputCfg s i)
    records := Vector.ofFn fun i : Inp => recordAtStart (inputCfg s i)
    selector := Selector.init
    follower := followerAtStart s.follower
    peers := PeerTable.init
    announcer := announcerAtStart
    bus := busAtStart held }

/-- R175: STARTED, with the way the image arrived and the clamp count. -/
def logStarted (s : State) : State := logEvent .started s.loader.viaPort.toNat s.loader.clampCount s

/-- R107: warm-up ends in the START event when the count has already reached the configured length. -/
def warmupAtStart (s : State) : State :=
  if s.follower.warm = true ∧ (cfg s).warmup ≤ s.follower.warmCount then clearWarmup s else s

/-- R174, R175: the START event, the bus line being at the idle level `held` LOSC cycles after it; R91: the Selector
evaluates once; R122: the want of the broadcast QUERY. -/
def startPart (held : Option Nat) (s : State) : State :=
  syncWant (evaluate none (warmupAtStart (startInputs (logStarted (startUnits held s))))).1

/-! ### Holding an image -/

/-- R169: a valid image is held, its clamp count taken and the load cause NONE. -/
def holdImage (viaPort : Bool) (image : Image) (clamped : Nat) (s : State) : State :=
  s.withLoader { s.loader with buffer := image, held := true, viaPort := viaPort, clampCount := clamped, cause := .none }

/-- CFG_FAULT with a cause (R168, R169). -/
def cfgFaultWith (cause : LoadCause) (s : State) : State :=
  s.withLoader { s.loader with partState := .cfgFault, cause := cause, eeprom := .idle }

/-! ### The EEPROM (R168) -/

/-- The number of the EEPROM attempt in progress in LOADING, once it has lasted `time` LOSC cycles. An attempt that a
reset of the same moment has begun has lasted none, so the end of the one it abandoned is not taken for its own (R168,
R176; notes/assumptions/18.md). -/
def attemptLasting (time : Nat) (s : State) : Option Nat :=
  if s.hold.isNone ∧ s.loader.partState = .loading then
    match s.loader.eeprom with
    | .attempt n elapsed => if time ≤ elapsed then some n else none
    | .idle => none
    | .waiting _ _ => none
  else none

/-- R168: the transfer of an attempt has ended and is off the line. -/
def transferred (actions : List I2cAction) (s : State) : State := s.withLoader { s.loader with transfer := actions }

/-- R168, R174: the bytes read are validated; a valid image starts the part in the same event. -/
def imageRead (image : List Byte) (held : Option Nat) (s : State) : State :=
  match validateImage s.loader.ownAddress image with
  | .error cause => cfgFaultWith cause s
  | .ok (c, n) => startPart held (holdImage false c n s)

/-- EEPROM_READ_DONE (R168): an attempt in progress has read all 110 bytes. -/
def execEepromReadDone (image : List Byte) (s : State) (held : Option Nat := some 0) :
    Host.Outcome State Fault Refusal :=
  .next (if (attemptLasting readTime s).isSome ∧ image.length = 110 then
      imageRead image held (transferred (wholeRead image) s)
    else s)

/-- R168: attempt `n` has failed; the third failure is EEPROM_ABSENT, otherwise 5 ms are waited. -/
def attemptEnd (n : Nat) (s : State) : State :=
  if 3 ≤ n then cfgFaultWith .eepromAbsent s
  else s.withLoader { s.loader with eeprom := .waiting n eepromWait }

/-- EEPROM_ATTEMPT_FAILED (R168). -/
def execEepromAttemptFailed (s : State) (failure : AttemptFailure := .writeAddress) (stop : Bool := true) :
    Host.Outcome State Fault Refusal :=
  .next (match attemptLasting (failureTime failure) s with
    | some n => attemptEnd n (transferred (failedTransfer failure stop) s)
    | none => s)

/-- EEPROM_RETRY (R168): the wait ends and the next attempt begins. -/
def execEepromRetry (s : State) : Host.Outcome State Fault Refusal :=
  .next (if s.hold.isNone ∧ s.loader.partState = .loading then
      match s.loader.eeprom with
      | .waiting n _ => s.withLoader { s.loader with eeprom := .attempt (n + 1) 0, transfer := [] }
      | .idle => s
      | .attempt _ _ => s
    else s)

/-! ### LOAD IMAGE and START (R173, R174) -/

/-- R173: the part state takes an image. -/
def takesImage (l : Loader) : Bool :=
  decide (l.partState = .awaitImage ∨ (l.partState = .cfgFault ∧ l.cause ≠ .address))

/-- R173: the result and the effect of a LOAD IMAGE with all its bytes. -/
def loadResult (image : List Byte) (s : State) : Byte × State :=
  if takesImage s.loader then
    match validateImage s.loader.ownAddress (image.take 110) with
    | .error cause => (resInvalid, s.withLoader { s.loader with cause := cause })
    | .ok (c, n) =>
      let s1 := holdImage true c n s
      (resDone, s1.withLoader { s1.loader with partState := .awaitImage })
  else (resRefused, s)

/-- LOAD_IMAGE (R173). A short one is INVALID, changes nothing, and its result cannot be clocked out. -/
def execLoadImage (image : List Byte) (s : State) : Host.Outcome State Fault Refusal :=
  .next (if portOpen s then
      if image.length < 110 then answer image.length [] s
      else answer 110 [(loadResult image s).1] (loadResult image s).2
    else s)

/-- R174: the START command starts the part. -/
def startable (s : State) : Bool := decide (s.loader.partState = .awaitImage) && s.loader.held

/-- START (R174). -/
def execStart (s : State) (held : Option Nat := some 0) : Host.Outcome State Fault Refusal :=
  .next (if portOpen s then
      answer 0 [if startable s then resDone else resRefused] (if startable s then startPart held s else s)
    else s)

end Sys2Proof.Machine
end

