-- ==== Sys2Proof/Machine/Peers.lean ====
section
/-! DEFINITION. Reception and the Peer Table: the receiver (R117 to R120), the acceptance checks (R149 to R155), what
accepted frames do (R156 to R158), ageing (R159, R160), and DUPLICATE (R128). -/

namespace Sys2Proof.Machine

/-! ### The receiver -/

/-- The receiver takes characters: RUNNING, and the own transmitter not sending (R120). -/
def listening (s : State) : Bool := running s && decide (s.bus.tx ≠ .sending)

/-- The header test of R117: destination 0 or the own address. -/
def forUs (s : State) (dest : Byte) : Bool := decide (dest.toNat = 0 ∨ dest.toNat = s.loader.ownAddress)

/-- The receiver after a header (R117). -/
def afterHeader (s : State) (dest : Byte) : Receiver := if forUs s dest then .assemble [dest] else .hunt

/-- A character has just ended on the line, at the idle level: the idle count starts again from 0 (R121). A rest that had
run out before the character began is over (R124). -/
def lineFree (rx : Receiver) (s : State) : State :=
  s.withBus { s.bus with rx := rx, line := .quiet, idle := some 0, rest := restKept s.bus }

/-- R118: the full length of the frame being collected, once its length character is there. -/
def fullLength (chars : List Byte) : Option Nat :=
  if 5 ≤ chars.length then some (6 + (chars.getD 4 0).toNat) else none

/-- The next character would be past the end of the frame being collected. -/
def frameFull (chars : List Byte) : Bool :=
  match fullLength chars with
  | some n => decide (n ≤ chars.length)
  | none => false

/-- The character is the length character and out of range (R119). -/
def badLengthChar (chars : List Byte) (data : Byte) : Bool := decide (chars.length = 4 ∧ 12 < data.toNat)

/-- R117: the receiver in HUNT takes a character: a header, or ignored. -/
def headerTaken (s : State) (c : LineChar) : Receiver :=
  if c.mark && c.stopGood then afterHeader s c.data else .hunt

/-- R117, R118: the receiver takes a character. A character that ends the frame being collected leaves the collection
to the row of that end (notes/assumptions/11.md). -/
def takeChar (s : State) (c : LineChar) : Receiver :=
  match s.bus.rx with
  | .off => .off
  | .hunt => headerTaken s c
  | .assemble chars =>
    if c.mark || !c.stopGood || frameFull chars || badLengthChar chars c.data then .assemble chars
    else .assemble (chars ++ [c.data])

/-- R121: a foreign start bit and its character. The idle count returns to 0; a rest that has run out is over (R124). -/
def foreignChar (c : LineChar) (s : State) : State :=
  s.withBus { s.bus with
    rx := if s.bus.tx = .sending then s.bus.rx else takeChar s c
    line := .character charTime c
    idle := some 0
    rest := restKept s.bus }

/-- The receiver, the line and the idle count after an abandonment (R119, R121). -/
def abandon (cause : AbandonCause) (s : State) : State :=
  match cause with
  | .newMark dest => lineFree (afterHeader s dest) s
  | .idleGap => s.withBus { s.bus with rx := .hunt }
  | .framingError held =>
    s.withBus { s.bus with rx := .hunt, line := heldLine held, idle := some 0, rest := restKept s.bus }
  | .badLength => lineFree .hunt s

/-- R119: the frame being collected meets the event that abandons it: the gap once the line has been idle for that long,
the others at the end of a character. -/
def abandons (cause : AbandonCause) (b : Bus) : Bool :=
  match cause with
  | .idleGap => gapOver b
  | .newMark _ => assembling b
  | .framingError _ => assembling b
  | .badLength => assembling b

/-- R119: the frame being collected, if the event abandons it, is dropped and counted, once. -/
def dropFrame (cause : AbandonCause) (s : State) : State :=
  if listening s && abandons cause s.bus then countBad (abandon cause s) else s

/-- FRAME_ABANDONED (R119); in HUNT there is no frame to abandon. -/
def execFrameAbandoned (cause : AbandonCause) (s : State) : Host.Outcome State Fault Refusal :=
  .next (dropFrame cause s)

/-- FOREIGN_START_BIT (R121). Before START no character is taken and the idle count does not run; a pulse that is no
start bit, or one where the receiver looks for none, changes nothing (R114); after more than 2 character times of idle
line the frame in collection is abandoned first (R119; notes/assumptions/11.md). -/
def execForeignStartBit (c : LineChar) (s : State) : Host.Outcome State Fault Refusal :=
  .next (if running s && c.start && awaitsStart s.bus.line then foreignChar c (dropFrame .idleGap s) else s)

/-- The receiver hears a whole frame for this station: it is listening, the length is one a frame has, and the header
test of R117 is met. -/
def hears (s : State) (f : RxFrame) : Bool := listening s && lengthOk f && forUs s f.dest

/-- R119: what is in collection is not this frame, whose characters are `bytes`: a gap had ended it, or it began
otherwise, and this frame's header has abandoned it. -/
def displaces (bytes : List Byte) (b : Bus) : Bool :=
  match b.rx with
  | .assemble chars => gapOver b || !chars.isPrefixOf bytes
  | .off => false
  | .hunt => false

/-- R118, R119: a whole frame has been heard, the line is free after it, and another frame that was in collection has
been abandoned and counted. -/
def frameHeard (kind : Byte) (f : RxFrame) (s : State) : State :=
  lineFree .hunt (if displaces (headBytes kind f ++ [f.check]) s.bus then countBad s else s)

/-- BAD_FRAME (R118): a frame for this station whose check fails is counted and discarded. -/
def execBadFrame (kind : Byte) (f : RxFrame) (s : State) : Host.Outcome State Fault Refusal :=
  .next (if hears s f && !intact kind f then countBad (frameHeard kind f s) else s)

/-! ### Acceptance (R149) -/

/-- The outcome of the acceptance checks, named by the counter of a discarded frame. -/
inductive Verdict where
  /-- Steps 2, 5 and 6. -/
  | malformed
  /-- Step 3: the own address as source. -/
  | ownSource
  /-- Step 4. -/
  | untrusted
  /-- Step 7. -/
  | rate
  /-- Step 8, having passed step 7. -/
  | sequence
  /-- All eight passed. -/
  | accepted
  deriving DecidableEq, Repr

/-- Step 4 (R151): the source's bit in the trust mask. -/
def trusted (s : State) (k : Slot) : Bool := (cfg s).trust.getLsbD k.val

/-- Step 5 (R152): the kind is known, and suits the length and the destination. -/
def kindFits (kind : Byte) (f : RxFrame) : Bool :=
  if kind = kindQuery then f.payload.isEmpty
  else if kind = kindWithdraw then f.payload.isEmpty && decide (f.dest.toNat = 0)
  else if kind = kindAnnounce then decide (5 ≤ f.payload.length ∧ f.payload.length ≤ 12 ∧ f.dest.toNat = 0)
  else false

/-- Step 6 (R153): an ANNOUNCE's content is valid; other kinds pass. -/
def contentFits (kind : Byte) (f : RxFrame) : Bool :=
  if kind = kindAnnounce then (readAnnounce f.source.toNat f.payload).isSome else true

/-- Step 7 (R154): the source's rate window is not exhausted. -/
def rateAllows (w : Option RateWindow) : Bool :=
  match w with
  | none => true
  | some w => decide (w.count < 6)

/-- R154: the rate window after a frame that passed step 7. -/
def rateCounted (w : Option RateWindow) : Option RateWindow :=
  match w with
  | none => some { count := 1, left := second }
  | some w => some { w with count := w.count + 1 }

/-- R155: the sequence difference is in 1 to 127. -/
def seqNewer (seq last : Byte) : Bool :=
  decide (1 ≤ (seq - last).toNat ∧ (seq - last).toNat ≤ 127)

/-- The RESTART flag of an ANNOUNCE frame (R155). -/
def hasRestart (kind : Byte) (f : RxFrame) : Bool := decide (kind = kindAnnounce) && payloadRestart f.payload

/-- Step 8 (R155): the sequence is acceptable, and for a WITHDRAW an entry exists. -/
def sequenceAllows (kind : Byte) (f : RxFrame) (e : Option PeerEntry) : Bool :=
  if kind = kindQuery then true
  else
    match e with
    | none => decide (kind = kindAnnounce)
    | some e => decide (e.state ≠ .fresh) || seqNewer f.seq e.lastSeq || hasRestart kind f

/-- Steps 4 to 8 for a source `k` other than the own address. -/
def judgeSource (s : State) (kind : Byte) (f : RxFrame) (k : Slot) : Verdict :=
  if !trusted s k then .untrusted
  else if !kindFits kind f then .malformed
  else if !contentFits kind f then .malformed
  else if !rateAllows s.peers.windows[k] then .rate
  else if !sequenceAllows kind f s.peers.entries[k] then .sequence
  else .accepted

/-- The checks in order, stopping at the first that fails (R149). -/
def verdict (s : State) (kind : Byte) (f : RxFrame) : Verdict :=
  match slotOf f.source.toNat with
  | none => .malformed
  | some k => if f.source.toNat = s.loader.ownAddress then .ownSource else judgeSource s kind f k

/-! ### DUPLICATE (R128, R129) -/

/-- R128: DUPLICATE is set, the transmitter goes SILENT and the record is appended; nothing when it is set already. -/
def setDuplicate (cause arg : Nat) (s : State) : State :=
  if s.bus.duplicate then s
  else logEvent .duplicate cause arg (s.withBus { s.bus with duplicate := true, tx := .silent })

/-! ### Accepted frames -/

/-- An entry is put in the table at station `k`, and the change handed on (R161), the table's own record first. -/
def changeEntry (k : Slot) (e : Option PeerEntry) (record : State → State) (s : State) : State :=
  settleEvent s false false (recomputeBound (address k) (record (s.withEntry k e)))

/-- R156: the entry an accepted ANNOUNCE leaves. -/
def announcedEntry (f : RxFrame) (a : Announced) : PeerEntry :=
  { state := .fresh, lastSeq := f.seq, cls := a.content.cls, grade := a.content.grade,
    interval := a.content.interval, path := a.content.path, ageCycles := 0 }

/-- R156: an accepted ANNOUNCE of station `k`. -/
def acceptAnnounce (k : Slot) (f : RxFrame) (s : State) : State :=
  match readAnnounce f.source.toNat f.payload with
  | some a => changeEntry k (some (announcedEntry f a)) id s
  | none => s

/-- R157: an accepted QUERY sets the query flag. -/
def acceptQuery (s : State) : State := syncWant (s.withAnnouncer { s.announcer with queryFlag := true })

/-- R158: an accepted WITHDRAW of station `k`. -/
def acceptWithdraw (k : Slot) (f : RxFrame) (s : State) : State :=
  match s.peers.entries[k] with
  | some e =>
    changeEntry k (some { e with state := .withdrawn, lastSeq := f.seq, ageCycles := 0 })
      (fun t => if e.state = .withdrawn then t else logEvent .peerWithdrawn (address k) e.state.code t) s
  | none => s

/-- An accepted frame acts by its kind (R149). -/
def actOn (kind : Byte) (f : RxFrame) (k : Slot) (s : State) : State :=
  if kind = kindAnnounce then acceptAnnounce k f s
  else if kind = kindQuery then acceptQuery s
  else acceptWithdraw k f s

/-- The source's rate window counts a frame that passed step 7 (R154). -/
def countWindow (k : Slot) (s : State) : State := s.withWindow k (rateCounted s.peers.windows[k])

/-- What a frame that passed step 7 does (R154, R155). -/
def passRate (v : Verdict) (kind : Byte) (f : RxFrame) (k : Slot) (s : State) : State :=
  if v = .accepted then actOn kind f k (countWindow k s) else countSequence (countWindow k s)

/-- The effect of a verdict (R149). -/
def applyVerdict (v : Verdict) (kind : Byte) (f : RxFrame) (s : State) : State :=
  match v with
  | .malformed => countBad s
  | .ownSource => setDuplicate 2 kind.toNat (countUntrusted s)
  | .untrusted => countUntrusted s
  | .rate => countRate s
  | .sequence | .accepted =>
    match slotOf f.source.toNat with
    | some k => passRate v kind f k s
    | none => s

/-- R118: an intact frame is counted and handed to the Peer Table, and the receiver returns to HUNT. -/
def handOver (kind : Byte) (f : RxFrame) (s : State) : State :=
  let s1 := frameHeard kind f s
  let s2 := s1.withBus { s1.bus with intact := bump s1.bus.intact }
  applyVerdict (verdict s2 kind f) kind f s2

/-- A whole frame is received (R117, R118): taken when the receiver hears it and its check is right. -/
def receive (kind : Byte) (f : RxFrame) (s : State) : State :=
  if hears s f && intact kind f then handOver kind f s else s

/-- ANNOUNCE_RECEIVED (R156). -/
def execAnnounceReceived (f : RxFrame) (s : State) : Host.Outcome State Fault Refusal :=
  .next (receive kindAnnounce f s)

/-- QUERY_RECEIVED (R157). -/
def execQueryReceived (f : RxFrame) (s : State) : Host.Outcome State Fault Refusal := .next (receive kindQuery f s)

/-- WITHDRAW_RECEIVED (R158). -/
def execWithdrawReceived (f : RxFrame) (s : State) : Host.Outcome State Fault Refusal :=
  .next (receive kindWithdraw f s)

/-- MALFORMED_FRAME (R152): an intact frame of a kind that is none of the three. -/
def execMalformedFrame (kind : Byte) (f : RxFrame) (s : State) : Host.Outcome State Fault Refusal :=
  .next (if knownKind kind then s else receive kind f s)

/-! ### Ageing -/

/-- The age in LOSC cycles after `n` seconds. -/
def atSeconds (n : Nat) : Nat := n * second

/-- A destination joins the query list at its end, once (R144). -/
def joinQueries (queries : List Nat) (dest : Nat) : List Nat :=
  if queries.contains dest then queries else queries ++ [dest]

/-- Some used input is bound to station `a` (R159). -/
def anyBound (s : State) (a : Nat) : Bool := (List.finRange 6).any fun i => boundTo s a i

/-- R144, R159: a directed QUERY is made pending when a used input is bound to the station. -/
def queryLost (a : Nat) (s : State) : State :=
  if anyBound s a then
    s.withAnnouncer { s.announcer with queries := joinQueries s.announcer.queries a }
  else s

/-- R159: the entry of station `k` goes STALE. -/
def goStale (k : Slot) (e : PeerEntry) (s : State) : State :=
  changeEntry k (some { e with state := .stale, ageCycles := atSeconds (3 * e.interval) })
    (fun t => queryLost (address k) (logEvent .peerLost (address k) (classCode e.cls) t)) s

/-- ENTRY_STALE (R159): of a FRESH entry whose age has come to 3 × its interval; a frame of the same moment that restarted
the age has put the deadline off (R162). -/
def execEntryStale (k : Slot) (s : State) : Host.Outcome State Fault Refusal :=
  .next (match s.peers.entries[k] with
    | some e => if running s && decide (e.state = .fresh) && e.due then goStale k e s else s
    | none => s)

/-- R160: the entry of station `k` leaves the table. -/
def removeEntry (k : Slot) (e : PeerEntry) (s : State) : State :=
  changeEntry k none (logEvent .peerGone (address k) e.state.code) s

/-- ENTRY_REMOVAL (R160): of a STALE or WITHDRAWN entry whose age has come to its removal; a WITHDRAW of the same moment
has restarted the age (R162). -/
def execEntryRemoval (k : Slot) (s : State) : Host.Outcome State Fault Refusal :=
  .next (match s.peers.entries[k] with
    | some e => if running s && decide (e.state ≠ .fresh) && e.due then removeEntry k e s else s
    | none => s)

/-- RATE_WINDOW_END (R154): the source's rate window closes. -/
def execRateWindowEnd (k : Slot) (s : State) : Host.Outcome State Fault Refusal :=
  .next (if running s then s.withWindow k none else s)

end Sys2Proof.Machine
end

