-- ==== Sys2Proof/Machine/Transmit.lean ====
section
/-! DEFINITION. Transmission and announcing: TRANSMISSION_START (R123, R141), the completions (R124, R142, R144, R131),
CLASH (R125, R143), the rest (R124) and the Announcer's timers (R137, R139, R131). -/

namespace Sys2Proof.Machine

/-! ### The transmission start -/

/-- Address `a` is a station whose entry is FRESH (R141). -/
def freshStation (s : State) (a : Nat) : Bool :=
  match entryOf s a with
  | some e => decide (e.state = .fresh)
  | none => false

/-- R141, step 2: destinations that are FRESH again leave the list from its head. -/
def pruneQueries (s : State) : List Nat := s.announcer.queries.dropWhile (freshStation s)

/-- R141, step 1: a ready ANNOUNCE is handed, and not dropped. -/
def announceDue (s : State) : Bool :=
  announceReady s.announcer &&
    (s.announcer.periodicFlag || s.announcer.queryFlag || decide (s.announcer.last ≠ some (currentContent s)))

/-- R141, steps 2 and 3: the frame from the query list, once no ANNOUNCE is handed. -/
def queryFrame (s : State) (queries : List Nat) : Option TxFrame :=
  match queries with
  | d :: _ => some (.query d s.announcer.seq)
  | [] => none

/-- R141, R146: the Announcer's decision at a transmission start, its state after it and the frame handed. -/
def buildFrame (s : State) : Announcer :=
  let a := s.announcer
  match a.mode with
  | .off => { a with frame := none }
  | .withdrawing => { a with frame := some (.withdraw a.seq) }
  | .announcing =>
    if announceDue s then { a with frame := some (.announce (currentContent s) a.restart a.seq) }
    else
      { a with eventFlag := a.eventFlag && !announceReady a, queries := pruneQueries s,
               frame := queryFrame s (pruneQueries s) }

/-- R123: the transmitter at a transmission start: SENDING with a frame, otherwise as the want leaves it. A rest in force
has ended, since the line has been idle for 30 character times (R124). -/
def startTransmission (s : State) : State :=
  let s1 := s.withAnnouncer (buildFrame s)
  if s1.announcer.frame.isSome then
    s1.withBus { s1.bus with tx := .sending, rx := .hunt, idle := some 0, driven := 0, rest := false }
  else syncWant (s1.withBus { s1.bus with rest := false })

/-- TRANSMISSION_START (R141): a deferring transmitter has reached its access threshold (R122). -/
def execTransmissionStart (s : State) : Host.Outcome State Fault Refusal :=
  .next (if running s && mayStart s then startTransmission s else s)

/-- REST_END (R124): the idle count has reached 30 character times. -/
def execRestEnd (s : State) : Host.Outcome State Fault Refusal :=
  .next (if running s && restOver s.bus then s.withBus { s.bus with rest := false } else s)

/-! ### The end of an attempt -/

/-- R120, R127: the receiver when an attempt ends: in HUNT, which a foreign start bit at the same moment finds as any
other does. -/
def receiverFreed (s : State) : Receiver :=
  match s.bus.line with
  | .character left c => if left = charTime then headerTaken s c else .hunt
  | .quiet => .hunt
  | .heldActive _ => .hunt

/-- R123, R124: the Bus Interface when a frame completes; the want decides IDLE or DEFERRING. -/
def busCompletion (s : State) : State :=
  syncWant (s.withBus { s.bus with
    tx := .idle, rx := receiverFreed s, idle := some 0, rest := true, clashRun := 0, sent := bump s.bus.sent })

/-- R142: the Announcer when an ANNOUNCE with content `c` completes; the spacing runs from its transmission start (R139). -/
def announceDone (c : Content) (s : State) : State :=
  s.withAnnouncer { s.announcer with
    last := some c, seq := s.announcer.seq + 1, restart := false, periodicFlag := false, queryFlag := false,
    eventFlag := decide (currentContent s ≠ c), periodicTimer := some ((cfg s).interval * second),
    spacingTimer := some (spacingTime - s.bus.driven), frame := none }

/-- ANNOUNCE_COMPLETION (R142). -/
def execAnnounceCompletion (s : State) : Host.Outcome State Fault Refusal :=
  .next (match s.announcer.frame with
    | some (.announce c _ _) =>
      if running s && decide (s.bus.tx = .sending) then busCompletion (announceDone c s) else s
    | some (.query _ _) => s
    | some (.withdraw _) => s
    | none => s)

/-- R144: the destination of a QUERY that completes leaves the list. -/
def queryDone (dest : Nat) (s : State) : State :=
  s.withAnnouncer { s.announcer with queries := s.announcer.queries.erase dest, frame := none }

/-- QUERY_COMPLETION (R144). -/
def execQueryCompletion (s : State) : Host.Outcome State Fault Refusal :=
  .next (match s.announcer.frame with
    | some (.query d _) =>
      if running s && decide (s.bus.tx = .sending) then busCompletion (queryDone d s) else s
    | some (.announce _ _ _) => s
    | some (.withdraw _) => s
    | none => s)

/-- The frame on the line is a WITHDRAW. -/
def sendingWithdraw (s : State) : Bool :=
  decide (s.bus.tx = .sending) &&
    (match s.announcer.frame with
    | some (.withdraw _) => true
    | some (.announce _ _ _) => false
    | some (.query _ _) => false
    | none => false)

/-- WITHDRAW_COMPLETION (R131): the soft reset takes place, released at the given pin levels. -/
def execWithdrawCompletion (s : State) (pins : Pins := Pins.low) : Host.Outcome State Fault Refusal :=
  .next (if running s && sendingWithdraw s then softResetNow pins s else s)

/-- R125, R143: the Bus Interface and the Announcer at a clash: counted, the frame gone, every reason kept; IDLE or
DEFERRING by the want, with the ordinary threshold. The line stays as the other station holds it: a character of it that
the clash cuts into ends at its nominal 880 cycles, and the idle count stays 0 until then (DESIGN CHOICE,
notes/assumptions/30.md). What the attempt's start had dropped or pruned (R141) stays so (DESIGN CHOICE,
notes/assumptions/27.md). -/
def clashEnd (s : State) : State :=
  syncWant ((s.withAnnouncer { s.announcer with frame := none }).withBus { s.bus with
    tx := .idle, rx := receiverFreed s, idle := some 0, rest := false, clashRun := s.bus.clashRun + 1,
    clashes := bump s.bus.clashes })

/-- R128: the eighth consecutive clash sets DUPLICATE. -/
def clashDuplicate (s : State) : State := if 8 ≤ s.bus.clashRun then setDuplicate 1 8 s else s

/-- R131: after a clash, the pending soft reset takes place when DUPLICATE is now set, or when the clash ended a
WITHDRAW attempt that the 50 ms had already run out on. -/
def resetAfterClash (before s : State) : Bool :=
  decide (before.announcer.mode = .withdrawing) && (s.bus.duplicate || (sendingWithdraw before && before.announcer.waitOver))

/-- CLASH (R125) of an attempt in progress. -/
def clashNow (pins : Pins) (s : State) : State :=
  let s1 := clashDuplicate (clashEnd s)
  if resetAfterClash s s1 then softResetNow pins s1 else s1

/-- CLASH (R125). -/
def execClash (s : State) (pins : Pins := Pins.low) : Host.Outcome State Fault Refusal :=
  .next (if running s && decide (s.bus.tx = .sending) then clashNow pins s else s)

/-! ### The Announcer's timers -/

/-- PERIODIC_TIMER_EXPIRY (R137). A completion of the same moment has started the timer anew. -/
def execPeriodicTimerExpiry (s : State) : Host.Outcome State Fault Refusal :=
  .next (if running s && ranOut s.announcer.periodicTimer then
      syncWant (s.withAnnouncer { s.announcer with periodicTimer := none, periodicFlag := true })
    else s)

/-- SPACING_EXPIRY (R139). With time left the timer runs on, so no two ANNOUNCE frames begin less than 250 ms apart
(R140). -/
def execSpacingExpiry (s : State) : Host.Outcome State Fault Refusal :=
  .next (if running s && ranOut s.announcer.spacingTimer then
      syncWant (s.withAnnouncer { s.announcer with spacingTimer := none })
    else s)

/-- R131: the 50 ms have run out; the reset takes place unless a WITHDRAW attempt is on the line, which it then waits
for. -/
def withdrawWaitEnd (pins : Pins) (s : State) : State :=
  if sendingWithdraw s then s.withAnnouncer { s.announcer with withdrawWait := none, waitOver := true }
  else softResetNow pins s

/-- WITHDRAW_WAIT_EXPIRY (R131). -/
def execWithdrawWaitExpiry (s : State) (pins : Pins := Pins.low) : Host.Outcome State Fault Refusal :=
  .next (if running s && decide (s.announcer.mode = .withdrawing) && s.announcer.withdrawWait.isSome then
      withdrawWaitEnd pins s
    else s)

end Sys2Proof.Machine
end

