-- ==== Sys2Proof/Machine/Dispatch.lean ====
section
/-! DEFINITION. The dispatch: one arm per command, each one direct call of its meaning. -/

namespace Sys2Proof.Machine

def exec (i : Instr) (s : State) : Host.Outcome State Fault Refusal :=
  match i with
  | .powerReset => Sys2Proof.Machine.execPowerReset s
  | .pinReset => Sys2Proof.Machine.execPinReset s
  | .resetRelease addrStrap controllerMode los => Sys2Proof.Machine.execResetRelease addrStrap controllerMode los s
  | .msPoint n losHigh edge => Sys2Proof.Machine.execMsPoint n losHigh edge s
  | .gateCompletion n edges => Sys2Proof.Machine.execGateCompletion n edges s
  | .holdOffExpiry n => Sys2Proof.Machine.execHoldOffExpiry n s
  | .wtrExpiry n => Sys2Proof.Machine.execWtrExpiry n s
  | .settleExpiry => Sys2Proof.Machine.execSettleExpiry s
  | .valueExpiry => Sys2Proof.Machine.execValueExpiry s
  | .stepAgeReached => Sys2Proof.Machine.execStepAgeReached s
  | .warmupEnd => Sys2Proof.Machine.execWarmupEnd s
  | .announceReceived f => Sys2Proof.Machine.execAnnounceReceived f s
  | .queryReceived f => Sys2Proof.Machine.execQueryReceived f s
  | .withdrawReceived f => Sys2Proof.Machine.execWithdrawReceived f s
  | .badFrame kind f => Sys2Proof.Machine.execBadFrame kind f s
  | .frameAbandoned c => Sys2Proof.Machine.execFrameAbandoned c s
  | .entryStale k => Sys2Proof.Machine.execEntryStale k s
  | .entryRemoval k => Sys2Proof.Machine.execEntryRemoval k s
  | .rateWindowEnd k => Sys2Proof.Machine.execRateWindowEnd k s
  | .transmissionStart => Sys2Proof.Machine.execTransmissionStart s
  | .restEnd => Sys2Proof.Machine.execRestEnd s
  | .announceCompletion => Sys2Proof.Machine.execAnnounceCompletion s
  | .queryCompletion => Sys2Proof.Machine.execQueryCompletion s
  | .withdrawCompletion pins => Sys2Proof.Machine.execWithdrawCompletion s pins
  | .clash pins => Sys2Proof.Machine.execClash s pins
  | .periodicTimerExpiry => Sys2Proof.Machine.execPeriodicTimerExpiry s
  | .spacingExpiry => Sys2Proof.Machine.execSpacingExpiry s
  | .withdrawWaitExpiry pins => Sys2Proof.Machine.execWithdrawWaitExpiry s pins
  | .eepromReadDone b held => Sys2Proof.Machine.execEepromReadDone b s held
  | .eepromAttemptFailed failure stop => Sys2Proof.Machine.execEepromAttemptFailed s failure stop
  | .eepromRetry => Sys2Proof.Machine.execEepromRetry s
  | .read place count => Sys2Proof.Machine.execRead place count s
  | .loadImage b => Sys2Proof.Machine.execLoadImage b s
  | .start held => Sys2Proof.Machine.execStart s held
  | .force n => Sys2Proof.Machine.execForce n s
  | .unforce => Sys2Proof.Machine.execUnforce s
  | .lockout n => Sys2Proof.Machine.execLockout n s
  | .release n => Sys2Proof.Machine.execRelease n s
  | .popEvent => Sys2Proof.Machine.execPopEvent s
  | .softReset pins => Sys2Proof.Machine.execSoftReset s pins
  | .unknownCommand c => Sys2Proof.Machine.execUnknownCommand c s
  | .foreignStartBit c => Sys2Proof.Machine.execForeignStartBit c s
  | .malformedFrame kind f => Sys2Proof.Machine.execMalformedFrame kind f s

end Sys2Proof.Machine
end

