-- ==== Sys2Proof/Machine/Tick.lean ====
section
/-! DEFINITION. One LOSC cycle with no command (DESIGN CHOICE, notes/assumptions/2.md): every running count moves by one
cycle, and waits at a point for which the table has a row, or just short of it; the point is that row's to take
(notes/assumptions/3.md). -/

namespace Sys2Proof.Machine

/-- A count one cycle on, waiting short of the point `limit`. -/
def stepShort (limit n : Nat) : Nat := if reached limit n then n else n + 1

/-- The uptime counter (R182): whole seconds, stopping at 4,294,967,295. -/
def tickLog (l : EventLog) : EventLog :=
  if second ≤ l.phase + 1 then { l with uptime := min 4294967295 (l.uptime + 1), phase := 0 }
  else { l with phase := l.phase + 1 }

/-- A second of the uptime counter ends in this cycle. -/
def secondEnds (s : State) : Bool := decide (second ≤ s.log.phase + 1)

/-- The millisecond and the gate of a monitor (R18, R23). -/
def tickMonitor (m : Monitor) : Monitor :=
  { m with
    msPhase := min millisecond (m.msPhase + 1)
    gate := if m.gate.run then { m.gate with elapsed := min second (m.gate.elapsed + 1) } else m.gate }

/-- A running WTR timer (R53), with the configured WTR in seconds. -/
def tickWtr (configured : Nat) : Wtr → Wtr
  | .running cycles => .running (stepShort (configured * second) cycles)
  | .none => .none
  | .served => .served
  | .met => .met
  | .waived => .waived

/-- The hold-off and WTR timers of a record (R48, R53). -/
def tickRecord (c : InputCfg) (r : InputRec) : InputRec :=
  { r with holdOff := r.holdOff.map (· - 1), wtr := tickWtr c.wtr r.wtr }

/-- The holdover value's age (R104), short of the limit and of every step age. -/
def tickAge (c : Image) (n : Nat) : Nat :=
  if [c.age1 * second, c.age2 * second, c.age3 * second].contains (n + 1) then n else stepShort (c.limit * second) n

/-- The warm-up count at a second (R107): it runs after a POWER reset, up to 3600, and while RUNNING in warm-up stays
short of the configured length. -/
def tickWarm (s : State) : Nat :=
  if s.cause = .power then
    if running s && s.follower.warm then min 3600 (stepShort (cfg s).warmup s.follower.warmCount)
    else min 3600 (s.follower.warmCount + 1)
  else s.follower.warmCount

/-- The Follower's settle timer, value age and warm-up count. -/
def tickFollower (s : State) : Follower :=
  { s.follower with
    settle := s.follower.settle.map (· - 1)
    value :=
      if s.follower.value.valid then
        { s.follower.value with ageCycles := tickAge (cfg s) s.follower.value.ageCycles }
      else s.follower.value
    warmCount := if secondEnds s then tickWarm s else s.follower.warmCount }

/-- An entry's age, short of its deadline. -/
def tickEntry (e : PeerEntry) : PeerEntry := { e with ageCycles := stepShort (e.deadline * second) e.ageCycles }

/-- The ages and the rate windows of the Peer Table. -/
def tickPeers (p : PeerTable) : PeerTable :=
  { p with
    entries := p.entries.map (Option.map tickEntry)
    windows := p.windows.map (Option.map fun w => { w with left := w.left - 1 }) }

/-- The Announcer's timers. -/
def tickAnnouncer (a : Announcer) : Announcer :=
  { a with
    periodicTimer := a.periodicTimer.map (· - 1)
    spacingTimer := a.spacingTimer.map (· - 1)
    withdrawWait := a.withdrawWait.map (· - 1) }

/-- A count one cycle on, waiting at the point `limit`. -/
def stepTo (limit n : Nat) : Nat := if limit ≤ n then n else n + 1

/-- The idle count waits at the gap that abandons a frame, at the threshold of a deferring transmitter and at the end of
the rest. -/
def idleStep (s : State) (n : Nat) : Nat :=
  if assembling s.bus then stepTo (2 * charTime + 1) n
  else if s.bus.tx = .deferring then stepTo (threshold s) n
  else if s.bus.rest then stepTo restTime n
  else n + 1

/-- The line at the end of a character (R114): at the idle level, or held active after a framing error. -/
def lineAfter (c : LineChar) : Line := if c.stopGood then .quiet else heldLine c.held

/-- The line one cycle on. -/
def tickLine : Line → Line
  | .quiet => .quiet
  | .character left c => if left ≤ 1 then lineAfter c else .character (left - 1) c
  | .heldActive none => .heldActive none
  | .heldActive (some left) => heldLine (some (left - 1))

/-- The time from a transmission start one cycle on, which waits at the frame's end for its completion (R123). -/
def drivenStep (frame : Option TxFrame) (n : Nat) : Nat :=
  match frame with
  | some f => stepTo (txDuration f) n
  | none => n

/-- The line, the idle count (R121) and the time from the transmission start (R123): the idle count grows only at the
idle level and outside a character, the own ones included, and that time only while SENDING. -/
def tickBus (s : State) : Bus :=
  { s.bus with
    line := tickLine s.bus.line
    idle := if s.bus.line = .quiet ∧ s.bus.tx ≠ .sending then s.bus.idle.map (idleStep s) else s.bus.idle
    driven := if s.bus.tx = .sending then drivenStep s.announcer.frame s.bus.driven else s.bus.driven }

/-- The attempt and the 5 ms wait of the EEPROM read (R168). -/
def tickLoader (l : Loader) : Loader :=
  match l.eeprom with
  | .waiting n left => { l with eeprom := .waiting n (left - 1) }
  | .idle => l
  | .attempt n elapsed => { l with eeprom := .attempt n (elapsed + 1) }

/-- One LOSC cycle of every unit; nothing moves while a reset is held. -/
def tick (s : State) : State :=
  if s.hold.isSome then s
  else
    { s with
      loader := tickLoader s.loader
      monitors := s.monitors.map tickMonitor
      records := Vector.ofFn fun i : Inp => tickRecord (inputCfg s i) s.records[i]
      follower := tickFollower s
      peers := tickPeers s.peers
      announcer := tickAnnouncer s.announcer
      bus := tickBus s
      log := tickLog s.log }

end Sys2Proof.Machine
end

