-- ==== Sys2Proof/Machine/Serial.lean ====
section
/-! DEFINITION. The SPI line of the Controller Port (R178, R179, R181): the bits of a frame, the edge that takes its
command, and the level on SDO. The table has no row for an edge: one moves the frame of the port and puts the command it
takes in the queue (notes/assumptions/14.md). -/

namespace Sys2Proof.Machine

/-! ### Bits and bytes -/

/-- The bits of a byte in the order of the line, most significant first. -/
def spiBits (byte : Byte) : List Bool := (List.range 8).map fun k => byte.getLsbD (7 - k)

/-- The byte of eight bits, the first the most significant. -/
def spiByte (b7 b6 b5 b4 b3 b2 b1 b0 : Bool) : Byte :=
  BitVec.ofBool b7 ++ BitVec.ofBool b6 ++ BitVec.ofBool b5 ++ BitVec.ofBool b4 ++ BitVec.ofBool b3 ++ BitVec.ofBool b2 ++
    BitVec.ofBool b1 ++ BitVec.ofBool b0

/-- The whole bytes that have arrived. -/
def spiBytes : List Bool → List Byte
  | b7 :: b6 :: b5 :: b4 :: b3 :: b2 :: b1 :: b0 :: rest => spiByte b7 b6 b5 b4 b3 b2 b1 b0 :: spiBytes rest
  | _ => []

/-! ### When a command is taken -/

/-- The number of argument bytes that a command takes (R178). -/
def argumentCount (code : Byte) : Nat :=
  match code.toNat with
  | 1 | 4 | 6 | 7 => 1
  | 2 => 110
  | _ => 0

/-- The code of SOFT RESET (R178). -/
def codeSoftReset : Byte := 0x09

/-- R178: the command that the last of these bits takes: it is the eighth bit of the last argument, or of a command byte
without arguments. SOFT RESET waits for the rise of CSN. -/
def takenWith (held : Option Nat) (bits : List Bool) : Option Instr :=
  match spiBytes bits with
  | [] => none
  | code :: args =>
    if bits.length = 8 * (1 + argumentCount code) ∧ code ≠ codeSoftReset then commandOf Pins.low held (code :: args)
    else none

/-- R178, R181: the command that the rise of CSN after these bits takes: SOFT RESET, or a short LOAD IMAGE. -/
def takenAtRise (pins : Pins) (bits : List Bool) : Option Instr :=
  match spiBytes bits with
  | [] => none
  | code :: args =>
    if code = codeSoftReset ∨ (code = 0x02 ∧ args.length < argumentCount code) then
      commandOf pins none (code :: args)
    else none

/-- R179: with SCK falling after these bits, a data byte of a READ frame begins to shift out. -/
def dataBegins (bits : List Bool) : Bool :=
  decide ((spiBytes bits).head? = some 0x01 ∧ 16 ≤ bits.length ∧ bits.length % 8 = 0)

/-! ### The edges -/

/-- The edges on the port's inputs that it acts on. -/
inductive SpiEdge where
  /-- A frame begins. -/
  | csnFalls
  /-- A frame ends, with the levels of the straps and the LOS lines then, for SOFT RESET (R181). -/
  | csnRises (pins : Pins)
  /-- SCK rises with SDI at this level; `held` is the time until the bus line is idle, for START (R121). -/
  | sckRises (sdi : Bool) (held : Option Nat)
  /-- SCK falls. -/
  | sckFalls
  deriving DecidableEq, Repr

/-- The command that an edge takes, if it takes one, waits behind those already waiting. -/
def enqueue (c : Option Instr) (s : State) : State := { s with pending := s.pending ++ c.toList }

/-- The port with another frame in progress. -/
def withFrame (f : Option SpiFrame) (s : State) : State := s.withPort { s.port with frame := f }

/-- R178: CSN falls: a new frame, with 0x00 on SDO until a command is taken. -/
def frameBegins (s : State) : State :=
  s.withPort { s.port with sdo := [], reading := .closed, frame := some { bits := [], high := false } }

/-- R181: SOFT RESET's DONE stands in byte 2, before the command is taken. -/
def showDone (bits : List Bool) (s : State) : State :=
  if bits = spiBits codeSoftReset then s.withPort { s.port with sdo := [0x00, resDone] } else s

/-- R178: a bit of SDI is sampled. -/
def bitArrives (sdi : Bool) (held : Option Nat) (f : SpiFrame) (s : State) : State :=
  enqueue (takenWith held (f.bits ++ [sdi]))
    (showDone (f.bits ++ [sdi]) (withFrame (some { bits := f.bits ++ [sdi], high := true }) s))

/-- R178, R179: SCK falls in a frame, and SDO changes. -/
def clockFalls (f : SpiFrame) (s : State) : State :=
  enqueue (if dataBegins f.bits then some (.read .onward 1) else none) (withFrame (some { f with high := false }) s)

/-- An edge at the port (R178). While a reset is held CSN is ignored; outside a frame SCK is. -/
def portEdge (e : SpiEdge) (s : State) : State :=
  if portOpen s then
    match e, s.port.frame with
    | .csnFalls, _ => frameBegins s
    | .csnRises pins, some f => enqueue (takenAtRise pins f.bits) (withFrame none s)
    | .sckRises sdi held, some f => if f.high then s else bitArrives sdi held f s
    | .sckFalls, some f => if f.high then clockFalls f s else s
    | .csnRises _, none => s
    | .sckRises _ _, none => s
    | .sckFalls, none => s
  else s

/-- The edges of these bits on SDI, each sampled on a rise of SCK that a fall follows (SPI mode 0). -/
def clockBits (held : Option Nat) (bits : List Bool) (s : State) : State :=
  bits.foldl (fun t b => portEdge .sckFalls (portEdge (.sckRises b held) t)) s

/-! ### The level on SDO -/

/-- The number of the bit on SDO: SDO has changed on each fall of SCK. -/
def SpiFrame.place (f : SpiFrame) : Nat := f.bits.length - f.high.toNat

/-- The level on SDO, most significant bit first; none where the port drives none: while a reset is held (R178), and, as
far as the model says, outside a frame (notes/assumptions/14.md). -/
def sdoLevel (s : State) : Option Bool :=
  if portOpen s then
    s.port.frame.map fun f => (s.port.sdoByte (f.place / 8)).getLsbD (7 - f.place % 8)
  else none

end Sys2Proof.Machine
end

