-- ==== Sys2Proof/Safety.lean ====
section
/-! DEFINITION. What a sound state of the block is: the laws that the spec states of every state, as decidable
predicates of State. -/

namespace Sys2Proof

open Machine

/-- R179: the place in a pass of the next data byte of a READ frame at a record. -/
abbrev readPlace : Reading → Option Nat
  | .closed => none
  | .blank => none
  | .before place => some place
  | .within place => some place

/-- R179: the next data byte of a READ frame is one of the 587 of a pass, and a capture holds them all. -/
abbrev ReadingLaw (p : Port) : Prop :=
  ∀ place ∈ readPlace p.reading, place < 587 ∧ (p.reading = .within place → p.snapshot.length = 587)

/-- The lists and counts stay within the sizes the spec gives them: the log (R182), the history (R101), the counters
(R133, R147), the windows and their counts (R24, R26), the debounce and run counts (R18, R20), the place in a pass of
READ (R179). -/
abbrev Bounded (s : State) : Prop :=
  ReadingLaw s.port ∧
  s.log.records.length ≤ 32 ∧ s.log.uptime ≤ 4294967295 ∧ s.follower.history.length ≤ 16 ∧
  (s.bus.intact ≤ 65535 ∧ s.bus.bad ≤ 65535 ∧ s.bus.clashes ≤ 65535 ∧ s.bus.sent ≤ 65535) ∧
  (s.peers.untrusted ≤ 65535 ∧ s.peers.rateDiscarded ≤ 65535 ∧ s.peers.seqDiscarded ≤ 65535) ∧
  ∀ i : Inp, s.monitors[i].window.length ≤ 8 ∧ (∀ n ∈ s.monitors[i].window, n ≤ 268435455) ∧
    s.monitors[i].losCount ≤ 7 ∧ s.monitors[i].activityRun ≤ 7

/-- A record with no reason, no flag and no timer beside it (R44, the rows OFF, READY and ACTIVE). -/
abbrev RecordBare (r : InputRec) : Prop :=
  r.reasons = Reasons.empty ∧ r.hardSeen = false ∧ r.holdOff = none ∧ r.wtr = .none ∧ r.origin = none

/-- R44: what a record holds in each state; in BARRED a hard reason present has been seen (R46). -/
abbrev RecordLaw (r : InputRec) : Prop :=
  (r.state = .off ∨ r.state = .ready ∨ r.state = .active → RecordBare r) ∧
  (r.state = .barred → r.reasons ≠ Reasons.empty ∧ r.holdOff = none ∧ r.wtr = .none ∧ r.origin = none ∧
    (r.reasons.hard = true → r.hardSeen = true)) ∧
  (r.state = .proving → r.reasons = Reasons.empty ∧ r.hardSeen = false ∧ r.holdOff = none ∧ r.wtr ≠ .none ∧
    r.origin = none) ∧
  (r.state = .suspect → r.reasons = { Reasons.empty with signal := true } ∧ r.hardSeen = false ∧ r.holdOff ≠ none ∧
    r.wtr = .none ∧ r.origin ≠ none)

/-- R44 for the six records. -/
abbrev RecordsLawful (s : State) : Prop := ∀ i : Inp, RecordLaw s.records[i]

/-- R69: the record of an input is ACTIVE, or SUSPECT with origin ACTIVE, exactly when it is the Selector's active
input. -/
abbrev ActiveAgrees (s : State) : Prop := ∀ i : Inp, s.records[i].isActive = true ↔ s.selector.active = some i

/-- R92: the output is FREE_RUN or HOLDOVER exactly when there is no active input, and it is BRIDGING exactly when the
active input's record is SUSPECT. -/
abbrev OutputAgrees (s : State) : Prop :=
  (s.selector.active = none ↔ s.follower.output = .freeRun ∨ s.follower.output = .holdover) ∧
  ∀ i : Inp, s.selector.active = some i → (s.follower.output = .bridging ↔ s.records[i].state = .suspect)

/-- R92: the history is empty in FREE_RUN, ACQUIRING and HOLDOVER, and while bridging from ACQUIRING; the settle timer
runs exactly in ACQUIRING, and the bridging origin is present exactly in BRIDGING. -/
abbrev FollowerShape (f : Follower) : Prop :=
  (f.output = .freeRun ∨ f.output = .acquiring ∨ f.output = .holdover ∨ f.bridging = some .acquiring →
    f.history = []) ∧
  (f.settle ≠ none ↔ f.output = .acquiring) ∧ (f.bridging ≠ none ↔ f.output = .bridging)

/-- R98: in FREE_RUN the holdover value record is invalid; in HOLDOVER it is valid. -/
abbrev ValueLaw (f : Follower) : Prop :=
  (f.output = .freeRun → f.value.valid = false) ∧ (f.output = .holdover → f.value.valid = true)

/-- R85: an input that is forced is the active input, and while HOLDOVER is forced the output is in it. -/
abbrev ForceLaw (s : State) : Prop :=
  (∀ f : Inp, s.selector.force = .input f → s.selector.active = some f) ∧
  (s.selector.force = .holdover → s.follower.output = .holdover)

/-- The laws that tie the Selector, the records and the Output Follower together. -/
abbrev SelectionLaw (s : State) : Prop :=
  ActiveAgrees s ∧ OutputAgrees s ∧ FollowerShape s.follower ∧ ValueLaw s.follower ∧ ForceLaw s

/-- R128, R129: DUPLICATE and SILENT go together. -/
abbrev SilentLaw (s : State) : Prop := s.bus.duplicate = true ↔ s.bus.tx = .silent

/-- The ranges of a used input's fields after clamping (R171). -/
abbrev InputInRange (c : InputCfg) : Prop :=
  c.use ≠ .off → (8000 ≤ c.freq ∧ c.freq ≤ 100000000) ∧ (1 ≤ c.fixedGrade ∧ c.fixedGrade ≤ 15) ∧ c.bound ≤ 24 ∧
    (1 ≤ c.ceiling ∧ c.ceiling ≤ 15) ∧ (1 ≤ c.priority ∧ c.priority ≤ 8) ∧ c.holdOff ≤ 50 ∧ c.wtr ≤ 900

/-- The ranges of the image after clamping (R170 to R172), at own address `own`. -/
abbrev ImageInRange (own : Nat) (c : Image) : Prop :=
  (1 ≤ c.interval ∧ c.interval ≤ 8) ∧ (1 ≤ c.accept ∧ c.accept ≤ c.reject ∧ c.reject ≤ 32767) ∧
  (1 ≤ c.pull ∧ c.pull ≤ 32767) ∧ (1 ≤ c.settle ∧ c.settle ≤ 60) ∧ (1 ≤ c.floor ∧ c.floor ≤ 15) ∧ c.warmup ≤ 3600 ∧
  (c.age1 ≤ c.age2 ∧ c.age2 ≤ c.age3 ∧ c.age3 ≤ c.limit) ∧ (1 ≤ c.limit ∧ c.limit ≤ 16777215) ∧
  (1 ≤ c.grade1 ∧ c.grade1 ≤ c.grade2 ∧ c.grade2 ≤ c.grade3 ∧ c.grade3 ≤ 15) ∧
  ∀ i : Inp, InputInRange c.inputs[i] ∧
    (c.inputs[i].use = .peer → 1 ≤ c.inputs[i].bound ∧ c.inputs[i].bound ≠ own)

/-- R165, R166, R174: the own address is 1 to 24 but with cause ADDRESS, where it is 0 and the part is in CFG_FAULT; a
RUNNING part holds an image; a held image is in range, with a clamp count of at most 62. -/
abbrev LoaderLaw (s : State) : Prop :=
  s.hold = none →
    s.loader.ownAddress ≤ 24 ∧ (s.loader.ownAddress = 0 ↔ s.loader.cause = .address) ∧
    (s.loader.cause = .address → s.loader.partState = .cfgFault) ∧
    (s.loader.partState = .running → s.loader.held = true) ∧
    (s.loader.held = true → ImageInRange s.loader.ownAddress s.loader.buffer ∧ s.loader.clampCount ≤ 62)

/-- R148: no entry for the own address, and every stored entry in range, with a valid path ending with its address. -/
abbrev TableLaw (s : State) : Prop :=
  ∀ k : Slot, ∀ e ∈ s.peers.entries[k], address k ≠ s.loader.ownAddress ∧ validPath e.path (address k) = true ∧
    (1 ≤ e.grade ∧ e.grade ≤ 15) ∧ (1 ≤ e.interval ∧ e.interval ≤ 8)

/-- The raw grade an input has by its use and its bound entry (R3). -/
def rawOf (s : State) (i : Inp) : Nat :=
  match (inputCfg s i).use with
  | .off => unfit
  | .fixed => (inputCfg s i).fixedGrade
  | .peer => peerRaw (entryOf s (inputCfg s i).bound)

/-- The bound path an input has by its use and its bound entry (R5). -/
def pathOf (s : State) (i : Inp) : List Nat :=
  match (inputCfg s i).use with
  | .off => []
  | .fixed => []
  | .peer => peerPath (entryOf s (inputCfg s i).bound)

/-- R54: the WTR status lets an input leave PROVING. -/
def mayPass : Wtr → Bool
  | .served | .met | .waived => true
  | .none | .running _ => false

/-- R3 to R6, R45, R54: while RUNNING the record of an OFF input is untouched, and the record of a used input agrees
with its bound entry and its monitor; an input whose WTR status lets it pass is not left in PROVING beside a full
window. -/
abbrev RecordAgrees (s : State) (i : Inp) : Prop :=
  ((inputCfg s i).use = .off → s.records[i] = InputRec.init) ∧
  ((inputCfg s i).use ≠ .off →
    s.records[i].state ≠ .off ∧ s.records[i].raw = rawOf s i ∧
    s.records[i].effective = max (rawOf s i) (inputCfg s i).ceiling ∧ s.records[i].path = pathOf s i ∧
    s.records[i].hop = (pathOf s i).length ∧
    s.records[i].reasons.grade = decide (s.records[i].effective = 15) ∧
    s.records[i].reasons.loop = (pathOf s i).contains s.loader.ownAddress ∧
    s.records[i].reasons.range = decide ((pathOf s i).length = 8) ∧
    s.records[i].reasons.signal = s.monitors[i].signal ∧ s.records[i].reasons.freq = s.monitors[i].freq ∧
    (s.records[i].state = .proving → s.monitors[i].window.length = 8 → mayPass s.records[i].wtr = false))

/-- R6: the records and the Peer Table agree. -/
abbrev Agreement (s : State) : Prop := running s = true → ∀ i : Inp, RecordAgrees s i

/-- An offset the part may hold (00_scope.md 4.2). -/
abbrev OffsetInRange (n : Int) : Prop := -32767 ≤ n ∧ n ≤ 32767

/-- R30, R99: an input from which the Selector may choose has a last offset, and a full window has given one; and
every offset held is in range. -/
abbrev OffsetsLaw (s : State) : Prop :=
  (∀ i : Inp, (s.records[i].fit = true ∨ s.monitors[i].window.length = 8 → s.monitors[i].lastOffset ≠ none) ∧
    ∀ n ∈ s.monitors[i].lastOffset, OffsetInRange n) ∧
  (∀ n ∈ s.follower.history, OffsetInRange n) ∧ OffsetInRange s.follower.value.value

/-- R17, R25, R27: a used input's gate runs exactly while SIGNAL is clear, its window is empty while SIGNAL is present,
and the measuring layer of any other input is stopped. -/
abbrev MeasuringLaw (s : State) : Prop :=
  ∀ i : Inp,
    (measuring s i = true → (s.monitors[i].gate.run = true ↔ s.monitors[i].signal = false) ∧
      (s.monitors[i].signal = true → s.monitors[i].window = []) ∧
      (s.monitors[i].signal = true ↔ s.monitors[i].losCause = true ∨ s.monitors[i].activityCause = true)) ∧
    (measuring s i = false → s.monitors[i].gate.run = false ∧ s.monitors[i].window = [] ∧
      s.monitors[i].lastOffset = none ∧ s.monitors[i].freq = false ∧ s.monitors[i].check = .none ∧
      s.monitors[i].signal = false)

/-- R101, R102: the 16 offsets' input and the value's source agree with the record's validity. -/
abbrev ValueShape (v : HoldValue) : Prop :=
  (v.valid = true ↔ v.source ≠ none) ∧ (v.valid = false → v = HoldValue.invalid)

/-- R117, R121, R122, R130, R134: the Announcer, the transmitter, the receiver and the idle count are off or stopped
exactly while the part is not RUNNING; a frame is on the line exactly while the transmitter is SENDING; and the want
decides between IDLE and DEFERRING. -/
abbrev BusLaw (s : State) : Prop :=
  (running s = true ↔ s.announcer.mode ≠ .off) ∧ (running s = true ↔ s.bus.tx ≠ .off) ∧
  (running s = true ↔ s.bus.rx ≠ .off) ∧ (running s = true ↔ s.bus.idle ≠ none) ∧
  (s.bus.tx = .sending ↔ s.announcer.frame ≠ none) ∧
  (s.bus.tx = .idle → wantsFrame s.announcer = false) ∧ (s.bus.tx = .deferring → wantsFrame s.announcer = true)

/-- R1, R4, R102: the effective grade of every input is 1 to 15, and so is the base grade of a valid holdover value. -/
abbrev GradesLaw (s : State) : Prop :=
  (∀ i : Inp, 1 ≤ s.records[i].effective ∧ s.records[i].effective ≤ 15) ∧
  (s.follower.value.valid = true → 1 ≤ s.follower.value.base ∧ s.follower.value.base ≤ 15)

/-- Every law of the state at once. -/
abbrev Lawful (s : State) : Prop :=
  Bounded s ∧ RecordsLawful s ∧ SelectionLaw s ∧ SilentLaw s ∧ BusLaw s ∧ LoaderLaw s ∧ TableLaw s ∧ Agreement s ∧
  OffsetsLaw s ∧ MeasuringLaw s ∧ GradesLaw s

/-- R78: while RUNNING the source is the one that the decision of R74, taken on the state as it stands, gives. -/
abbrev Settled (s : State) : Prop := running s = true → sourceOf s = (decision s false).1

/-! ### What a command is answered by, and what it leaves alone -/

/-- The command is answered by a next state, of which `P` holds. -/
abbrev Answers (c : Instr) (s : State) (P : State → Prop) : Prop := ∃ t : State, exec c s = .next t ∧ P t

/-- The reset logic, the pins, the Image Loader and the queue are as they were. -/
abbrev SamePart (s t : State) : Prop :=
  t.hold = s.hold ∧ t.cause = s.cause ∧ t.pins = s.pins ∧ t.loader = s.loader ∧ t.pending = s.pending

/-- The Event Log has only grown at its end, at the same uptime (R182). -/
abbrev LogGrown (s t : State) : Prop :=
  s.log.records <+: t.log.records ∧ t.log.uptime = s.log.uptime ∧ t.log.phase = s.log.phase

/-- The Announcer is as it was, but that the event flag may have been set (R136). -/
abbrev SameAnnouncer (s t : State) : Prop :=
  t.announcer = { s.announcer with eventFlag := t.announcer.eventFlag } ∧
  (s.announcer.eventFlag = true → t.announcer.eventFlag = true)

/-- The Bus Interface is as it was, but that the want may have moved the transmitter (R122). -/
abbrev SameBus (s t : State) : Prop := t.bus = { s.bus with tx := t.bus.tx }

/-- Warm-up stands as it was (R107). -/
abbrev SameWarm (s t : State) : Prop :=
  t.follower.warm = s.follower.warm ∧ t.follower.warmCount = s.follower.warmCount

/-- A record is as it was, but that the Selector may have taken or given up its input (R56, R57). -/
abbrev OnlySelected (r r' : InputRec) : Prop := r' = { r with state := r'.state, origin := r'.origin }

/-- The monitors and records of the inputs other than `i` are as they were, but for the Selector's moves. -/
abbrev SameOthers (i : Inp) (s t : State) : Prop :=
  ∀ j : Inp, j ≠ i → t.monitors[j] = s.monitors[j] ∧ OnlySelected s.records[j] t.records[j]

/-- The frame of an event of input `i`: beside that input, only the Selector, the Output Follower's state and the log
may have moved, with the event flag and the want. -/
abbrev InputEventFrame (i : Inp) (s t : State) : Prop :=
  SamePart s t ∧ LogGrown s t ∧ SameAnnouncer s t ∧ SameBus s t ∧ SameWarm s t ∧ t.peers = s.peers ∧ SameOthers i s t

/-- The units that the Selector and the Follower's events do not touch. -/
abbrev QuietFrame (s t : State) : Prop :=
  SamePart s t ∧ t.monitors = s.monitors ∧ t.records = s.records ∧ t.selector = s.selector ∧ t.follower = s.follower

/-- The command has its effect only while the part is RUNNING: what the commands of the Input Monitors' gates, of the
Qualifier's timers, of the Output Follower, of the bus and of the Announcer have in common. -/
def runningOnly : Instr → Bool
  | .gateCompletion _ _ | .holdOffExpiry _ | .wtrExpiry _ | .settleExpiry | .valueExpiry | .stepAgeReached
  | .warmupEnd | .announceReceived _ | .queryReceived _ | .withdrawReceived _ | .badFrame _ _ | .frameAbandoned _
  | .entryStale _ | .entryRemoval _ | .rateWindowEnd _ | .transmissionStart | .restEnd | .announceCompletion
  | .queryCompletion | .withdrawCompletion _ | .clash _ | .periodicTimerExpiry | .spacingExpiry | .withdrawWaitExpiry _
  | .foreignStartBit _ | .malformedFrame _ _ => true
  | .powerReset | .pinReset | .resetRelease _ _ _ | .msPoint _ _ _ | .eepromReadDone _ _ | .eepromAttemptFailed _ _
  | .eepromRetry | .read _ _ | .loadImage _ | .start _ | .force _ | .unforce | .lockout _ | .release _ | .popEvent
  | .softReset _ | .unknownCommand _ => false

/-- The port after the frame of a command other than READ, with these bytes on SDO: no READ frame is in progress (R178).
-/
abbrev answeredPort (p : Port) (sdo : List Byte) : Port := { p with sdo := sdo, reading := .closed }

/-- R179: a READ frame whose data bytes have reached `place`, counted from the first byte of a pass: at the end of a
pass a fresh capture is due. -/
abbrev readReached (place : Nat) : Reading := if place % 587 = 0 then .before 0 else .within (place % 587)

/-- The characters of a frame, in order (R115). -/
abbrev frameChars (kind : Byte) (f : RxFrame) : List Byte :=
  [f.dest, kind, f.source, f.seq, BitVec.ofNat 8 f.payload.length] ++ f.payload ++ [f.check]

/-- R118: the characters of the frame in collection. -/
abbrev collected (b : Bus) : Option (List Byte) :=
  match b.rx with
  | .assemble chars => some chars
  | .off => none
  | .hunt => none

/-- R119: another frame than the one of characters `bytes` is in collection, or one that a gap of more than 2 character
times has ended. -/
abbrev Displaced (bytes : List Byte) (b : Bus) : Prop :=
  ∃ chars ∈ collected b, ¬chars <+: bytes ∨ b.line = .quiet ∧ ∃ n ∈ b.idle, 1760 < n

/-- R124: the rest after a start bit of another station: over when the line had been idle for 30 character times before
it, and as it was otherwise. -/
abbrev restAfter (b : Bus) : Bool := if b.line = .quiet ∧ ∃ n ∈ b.idle, 26400 ≤ n then false else b.rest

/-- R118, R119, R121, R124: the Bus Interface when a whole frame has been heard, but for what its check and the
acceptance checks count: in HUNT on an idle line, a frame that was in collection before it counted as abandoned. -/
abbrev heardBus (kind : Byte) (f : RxFrame) (b : Bus) : Bus :=
  { b with
    rx := .hunt, line := .quiet, idle := some 0, rest := restAfter b
    bad := if Displaced (frameChars kind f) b then min 65535 (b.bad + 1) else b.bad }

/-! ### LOSC cycles with nothing commanded

Each relation says what `n` cycles make of the counts of `s`; a count waits where a row of the table takes over
(notes/assumptions/2.md, 3.md). -/

/-- The timers that count down reach 0 and stay there. -/
abbrev TimersRun (n : Nat) (s t : State) : Prop :=
  (∀ i : Inp, t.records[i].holdOff = s.records[i].holdOff.map (· - n)) ∧
  t.follower.settle = s.follower.settle.map (· - n) ∧
  t.announcer = { s.announcer with
    periodicTimer := s.announcer.periodicTimer.map (· - n), spacingTimer := s.announcer.spacingTimer.map (· - n)
    withdrawWait := s.announcer.withdrawWait.map (· - n) } ∧
  (∀ k : Slot, t.peers.windows[k] = s.peers.windows[k].map fun w => { w with left := w.left - n }) ∧
  t.loader = { s.loader with eeprom := match s.loader.eeprom with
    | .waiting attempt left => .waiting attempt (left - n)
    | .attempt attempt elapsed => .attempt attempt (elapsed + n)
    | .idle => .idle }

/-- The millisecond and the gate of each monitor run to their ends (R18, R23), and nothing else of it moves. -/
abbrev MonitorsRun (n : Nat) (s t : State) : Prop :=
  ∀ i : Inp, s.monitors[i].msPhase ≤ 20000 → s.monitors[i].gate.elapsed ≤ 20000000 →
    t.monitors[i] = { s.monitors[i] with
      msPhase := min 20000 (s.monitors[i].msPhase + n)
      gate := { s.monitors[i].gate with
        elapsed := if s.monitors[i].gate.run = true then min 20000000 (s.monitors[i].gate.elapsed + n)
          else s.monitors[i].gate.elapsed } }

/-- A WTR timer of `limit` cycles runs to one cycle short of its end (R53). -/
abbrev WtrRuns (n limit : Nat) (w w' : Wtr) : Prop :=
  match w with
  | .running cycles => cycles < limit → w' = .running (min (limit - 1) (cycles + n))
  | .none | .served | .met | .waived => w' = w

/-- An age runs, and waits one cycle short of the first of the seconds of `points` that lies above it (R104, R105). -/
abbrev AgeRuns (n : Nat) (points : List Nat) (age age' : Nat) : Prop :=
  (age ≤ age' ∧ age' ≤ age + n) ∧ (age' = age + n ∨ ∃ p ∈ points, age' + 1 = p * 20000000) ∧
  ∀ p ∈ points, age < p * 20000000 → age' < p * 20000000

/-- The seconds at which an entry goes STALE or is removed (R159, R160). -/
abbrev entrySeconds (e : PeerEntry) : Nat := if e.state = .stale then 6 * e.interval else 3 * e.interval

/-- The counts that grow: the WTR timers, the holdover value's age, the warm-up count at each second after a POWER reset
(R107), and the ages of the entries; and nothing else of the records, the Output Follower and the Peer Table moves. -/
abbrev AgesRun (n : Nat) (s t : State) : Prop :=
  (∀ i : Inp, WtrRuns n ((inputCfg s i).wtr * 20000000) s.records[i].wtr t.records[i].wtr ∧
    t.records[i] = { s.records[i] with holdOff := t.records[i].holdOff, wtr := t.records[i].wtr }) ∧
  t.follower = { s.follower with
    settle := t.follower.settle, value := { s.follower.value with ageCycles := t.follower.value.ageCycles }
    warmCount := t.follower.warmCount } ∧
  (s.follower.value.valid = false → t.follower.value.ageCycles = s.follower.value.ageCycles) ∧
  (s.follower.value.valid = true → s.follower.value.ageCycles < (cfg s).limit * 20000000 →
    AgeRuns n [(cfg s).age1, (cfg s).age2, (cfg s).age3, (cfg s).limit]
      s.follower.value.ageCycles t.follower.value.ageCycles) ∧
  (s.cause ≠ .power → t.follower.warmCount = s.follower.warmCount) ∧
  (s.cause = .power → s.follower.warmCount ≤ 3600 →
    (running s = false ∨ s.follower.warm = false →
      t.follower.warmCount = min 3600 (s.follower.warmCount + (t.log.uptime - s.log.uptime))) ∧
    (running s = true → s.follower.warm = true → s.follower.warmCount < (cfg s).warmup → (cfg s).warmup ≤ 3600 →
      t.follower.warmCount =
        min ((cfg s).warmup - 1) (s.follower.warmCount + (t.log.uptime - s.log.uptime)))) ∧
  t.peers = { s.peers with entries := t.peers.entries, windows := t.peers.windows } ∧
  (∀ k : Slot, (s.peers.entries[k] = none → t.peers.entries[k] = none) ∧
    ∀ e ∈ s.peers.entries[k], e.ageCycles < entrySeconds e * 20000000 →
      t.peers.entries[k] =
        some { e with ageCycles := min (entrySeconds e * 20000000 - 1) (e.ageCycles + n) })

/-- The LOSC cycles that a frame sent takes on the line: 880 to a character, of which an ANNOUNCE has 10 and its path's, and
any other frame 6 (R115, R123). -/
abbrev lineTime : TxFrame → Nat
  | .announce content _ _ => (10 + content.path.length) * 880
  | .query _ _ => 5280
  | .withdraw _ => 5280

/-- R121: the idle count grows at the idle level while nothing is sent, and waits at the gap that abandons a frame, at
the access threshold of a deferring station, and at the end of the rest; on a line held active, and inside a character,
it does not grow. The time from a transmission start grows while the frame is sent, and waits at its end (R123). -/
abbrev IdleRuns (n : Nat) (s t : State) : Prop :=
  t.bus = { s.bus with line := t.bus.line, idle := t.bus.idle, driven := t.bus.driven } ∧
  (s.bus.tx ≠ .sending ∨ s.announcer.frame = none → t.bus.driven = s.bus.driven) ∧
  (s.bus.tx = .sending → ∀ f ∈ s.announcer.frame, s.bus.driven ≤ lineTime f →
    t.bus.driven = min (lineTime f) (s.bus.driven + n)) ∧
  (s.bus.tx = .sending → t.bus.idle = s.bus.idle) ∧ (s.bus.line = .quiet → t.bus.line = .quiet) ∧
  (s.bus.line = .heldActive none → t.bus.line = .heldActive none ∧ t.bus.idle = s.bus.idle) ∧
  (∀ left : Nat, n < left → s.bus.line = .heldActive (some left) →
    t.bus.line = .heldActive (some (left - n)) ∧ t.bus.idle = s.bus.idle) ∧
  (∀ (left : Nat) (c : LineChar), n < left → s.bus.line = .character left c →
    t.bus.line = .character (left - n) c ∧ t.bus.idle = s.bus.idle) ∧
  (s.bus.line = .quiet → s.bus.tx ≠ .sending → (s.bus.idle = none → t.bus.idle = none) ∧
    ∀ m ∈ s.bus.idle,
      (assembling s.bus = true → m ≤ 1761 → t.bus.idle = some (min 1761 (m + n))) ∧
      (assembling s.bus = false → s.bus.tx = .deferring →
        m ≤ (if s.bus.rest = true then 26400 else (4 + s.loader.ownAddress) * 880) →
        t.bus.idle =
          some (min (if s.bus.rest = true then 26400 else (4 + s.loader.ownAddress) * 880) (m + n))) ∧
      (assembling s.bus = false → s.bus.tx ≠ .deferring → s.bus.rest = true → m ≤ 26400 →
        t.bus.idle = some (min 26400 (m + n))) ∧
      (assembling s.bus = false → s.bus.tx ≠ .deferring → s.bus.rest = false → t.bus.idle = some (m + n)))

/-! ### The EEPROM's transfers (R168) -/

/-- The transfer of an attempt up to its data bytes. -/
abbrev addressedRead : List I2cAction :=
  [.start, .device 0x50 false true, .memory 0x00 true, .start, .device 0x50 true true]

/-- The transfer that reads `image`: 110 bytes in turn, all but the last acknowledged. -/
abbrev readTransfer (image : List Byte) : List I2cAction :=
  addressedRead ++ (image.take 109).map (.data · true) ++ (image.drop 109).map (.data · false) ++ [.stop]

/-- What a failed attempt has put on the bus, with its stop condition if the bus lets it. -/
abbrev lostTransfer (failure : AttemptFailure) (stop : Bool) : List I2cAction :=
  (match failure with
    | .writeAddress => [.start, .device 0x50 false false]
    | .memoryAddress => [.start, .device 0x50 false true, .memory 0x00 false]
    | .readAddress => [.start, .device 0x50 false true, .memory 0x00 true, .start, .device 0x50 true false]
    | .heldLow none _ => []
    | .heldLow (some bit) read =>
      if bit.val < 9 then [.start]
      else if bit.val < 18 then [.start, .device 0x50 false true]
      else if bit.val < 27 then [.start, .device 0x50 false true, .memory 0x00 true, .start]
      else addressedRead ++ (read.take (bit.val / 9 - 3)).map (.data · true)) ++ if stop = true then [.stop] else []

/-- The LOSC cycles into an attempt before which an event cannot fail it: 200 to a bit time, and more than 1 ms. -/
abbrev lostAfter : AttemptFailure → Nat
  | .writeAddress => 1800
  | .memoryAddress => 3600
  | .readAddress => 5400
  | .heldLow none _ => 20001
  | .heldLow (some bit) _ => bit.val * 200 + 20001

/-! ### Tables of the spec -/

/-- The values that R67, R69, R112, R130, R134, R147, R165 and R182 give after every reset, in each unit's own words,
but for what the release samples; and no frame on SPI, since a reset cuts it short (R178). -/
abbrev UnitsReset (t : State) : Prop :=
  (∀ i : Inp, t.records[i].state = .off ∧ t.records[i].origin = none ∧ t.records[i].reasons = Reasons.empty ∧
    t.records[i].hardSeen = false ∧ t.records[i].holdOff = none ∧ t.records[i].wtr = .none ∧ t.records[i].raw = 15 ∧
    t.records[i].effective = 15 ∧ t.records[i].hop = 0 ∧ t.records[i].path = []) ∧
  (∀ i : Inp, t.monitors[i].losCount = 0 ∧ t.monitors[i].present = false ∧ t.monitors[i].activityRun = 0 ∧
    t.monitors[i].msPhase = 0 ∧ t.monitors[i].signal = false ∧ t.monitors[i].losCause = false ∧
    t.monitors[i].activityCause = false ∧ t.monitors[i].gate.run = false ∧ t.monitors[i].gate.edges = 0 ∧
    t.monitors[i].window = [] ∧ t.monitors[i].lastOffset = none ∧ t.monitors[i].freq = false ∧
    t.monitors[i].check = .none) ∧
  (t.selector.active = none ∧ t.selector.force = .none) ∧
  (t.follower.output = .freeRun ∧ t.follower.settle = none ∧ t.follower.bridging = none ∧ t.follower.history = [] ∧
    t.follower.value.valid = false ∧ t.follower.value.value = 0 ∧ t.follower.value.base = 15 ∧
    t.follower.value.ageCycles = 0 ∧ t.follower.value.source = none ∧ t.follower.warmCount = 0) ∧
  ((∀ k : Slot, t.peers.entries[k] = none ∧ t.peers.windows[k] = none) ∧ t.peers.untrusted = 0 ∧
    t.peers.rateDiscarded = 0 ∧ t.peers.seqDiscarded = 0) ∧
  (t.announcer.mode = .off ∧ t.announcer.last = none ∧ t.announcer.queries = [] ∧ t.announcer.frame = none ∧
    t.announcer.periodicFlag = false ∧ t.announcer.eventFlag = false ∧ t.announcer.queryFlag = false ∧
    t.announcer.periodicTimer = none ∧ t.announcer.spacingTimer = none ∧ t.announcer.seq = 0 ∧
    t.announcer.restart = false) ∧
  (t.bus.rx = .off ∧ t.bus.tx = .off ∧ t.bus.idle = none ∧ t.bus.rest = false ∧ t.bus.clashRun = 0 ∧
    t.bus.duplicate = false ∧ t.bus.intact = 0 ∧ t.bus.bad = 0 ∧ t.bus.clashes = 0 ∧ t.bus.sent = 0) ∧
  (t.log.records = [] ∧ t.log.overflow = false ∧ t.log.uptime = 0 ∧ t.log.phase = 0) ∧
  (t.loader.held = false ∧ t.loader.clampCount = 0) ∧ t.port.frame = none

/-- What a reset release reads from the straps (R166), at levels `addr` and `controller`. -/
abbrev StrapsRead (addr : Nat) (controller : Bool) (l : Loader) : Prop :=
  ((addr = 0 ∨ 25 ≤ addr) → l.partState = .cfgFault ∧ l.cause = .address ∧ l.ownAddress = 0 ∧ l.eeprom = .idle) ∧
  (1 ≤ addr ∧ addr ≤ 24 → l.cause = .none ∧ l.ownAddress = addr ∧
    (controller = false → l.partState = .loading ∧ l.eeprom = .attempt 1 0) ∧
    (controller = true → l.partState = .awaitImage ∧ l.eeprom = .idle)) ∧
  l.controllerMode = controller

/-- The part just after the release of a reset of kind `kind` at the pins `p`. -/
abbrev JustReleased (kind : ResetKind) (p : Pins) (t : State) : Prop :=
  t.hold = none ∧ t.cause = kind ∧ t.pins = p ∧ UnitsReset t ∧
  StrapsRead p.addrStrap.toNat p.controllerMode t.loader ∧
  (∀ i : Inp, t.monitors[i].losLevel = p.los.getLsbD i.val) ∧ (t.follower.warm = true ↔ kind = .power)

/-- `r` is `num / den` rounded to the nearest integer, halves away from zero (00_scope.md 4.5). -/
abbrev RoundedTo (r num : Int) (den : Nat) : Prop :=
  2 * (r * den - num).natAbs ≤ den ∧ (2 * (r * den - num).natAbs = den → num.natAbs < (r * den).natAbs)

/-- The four keys of R73, in order. -/
abbrev RanksFirst (s : State) (i j : Inp) : Prop :=
  s.records[i].effective < s.records[j].effective ∨ s.records[i].effective = s.records[j].effective ∧
  (s.records[i].hop < s.records[j].hop ∨ s.records[i].hop = s.records[j].hop ∧
  ((inputCfg s i).priority < (inputCfg s j).priority ∨ (inputCfg s i).priority = (inputCfg s j).priority ∧ i < j))

/-- The three conditions of R71, with the own-oscillator strict rule of R72. -/
abbrev InEligibleSet (s : State) (i : Inp) : Prop :=
  (s.records[i].state = .ready ∨ s.records[i].state = .active ∨ s.records[i].state = .suspect) ∧
  s.records[i].effective ≤ 14 ∧
  (((inputCfg s i).use = .peer ∧ ∃ e ∈ entryOf s (inputCfg s i).bound, e.cls = .holdover ∨ e.cls = .freeRun) →
    s.records[i].effective < ownGrade s) ∧
  (¬((inputCfg s i).use = .peer ∧ ∃ e ∈ entryOf s (inputCfg s i).bound, e.cls = .holdover ∨ e.cls = .freeRun) →
    s.records[i].effective ≤ ownGrade s)

/-- The own grade outside HOLDOVER (R70): 15 while warm-up runs, and the floor grade after it. -/
abbrev floorGrade (s : State) : Nat := if s.follower.warm = true then 15 else (cfg s).floor

/-- The grade of input `i` passes R71's second and third condition while the output is locked to an input. -/
abbrev PassesFloor (s : State) (i : Inp) : Prop :=
  s.records[i].effective ≤ 14 ∧
  (((inputCfg s i).use = .peer ∧ ∃ e ∈ entryOf s (inputCfg s i).bound, e.cls = .holdover ∨ e.cls = .freeRun) →
    s.records[i].effective < floorGrade s) ∧
  (¬((inputCfg s i).use = .peer ∧ ∃ e ∈ entryOf s (inputCfg s i).bound, e.cls = .holdover ∨ e.cls = .freeRun) →
    s.records[i].effective ≤ floorGrade s)

/-- The table of R82, in the codes of R186: the cause of the change of source in the event that took `s` to `t`; in it
the holdover value expired while the output was HOLDOVER when `expired` holds. -/
abbrev SwitchCause (expired : Prop) (s t : State) (cause : Byte) : Prop :=
  (expired → cause = 0x07) ∧
  (¬expired → t.selector.force ≠ .none → cause = 0x01) ∧
  (¬expired → t.selector.force = .none →
    (s.selector.active = none → cause = 0x06) ∧
    ∀ a : Inp, s.selector.active = some a →
      (t.records[a].state = .barred → cause = 0x02) ∧
      (t.records[a].state ≠ .barred → ¬PassesFloor t a → cause = 0x03) ∧
      (t.records[a].state ≠ .barred → PassesFloor t a → ∃ b : Inp, t.selector.active = some b ∧
        (t.records[b].effective < t.records[a].effective → cause = 0x04) ∧
        (¬t.records[b].effective < t.records[a].effective → cause = 0x05 ∧ (cfg s).revertive = true)))

/-- R64: the record of INPUT_BARRED for each of `inputs`, at the uptime of `s`, with its reason set after the event. -/
abbrev barRecords (s t : State) (inputs : List Inp) : List EventRec :=
  inputs.map fun i : Inp => { uptime := s.log.uptime, kind := .inputBarred, arg1 := BitVec.ofNat 8 (i.val + 1)
                              arg2 := BitVec.ofNat 8 t.records[i].reasons.bits }

/-- R64: the records of the inputs that the event from `s` to `t` barred, in ascending input number. -/
abbrev barredRecords (s t : State) : List EventRec :=
  barRecords s t
    ((List.finRange 6).filter fun i : Inp => s.records[i].state ≠ .barred ∧ t.records[i].state = .barred)

/-- R52, R54, R64: the WTR status with which an input in record `r` passes to READY: a running WTR that expires is
SERVED, and an input that passes through PROVING from BARRED is SERVED when it had seen a hard reason and MET when not.
-/
abbrev passStatus (r : InputRec) : Byte :=
  if r.state = .proving then (if r.wtr = .met then 0x03 else if r.wtr = .waived then 0x04 else 0x02)
  else if r.hardSeen = true then 0x02 else 0x03

/-- R64: the records of the inputs that the event from `s` to `t` passed to READY, in ascending input number. -/
abbrev readyRecords (s t : State) : List EventRec :=
  ((List.finRange 6).filter fun i : Inp => (s.records[i].state = .proving ∨ s.records[i].state = .barred) ∧
    (t.records[i].state = .ready ∨ t.records[i].state = .active)).map
    fun i : Inp => { uptime := s.log.uptime, kind := .inputReady, arg1 := BitVec.ofNat 8 (i.val + 1)
                     arg2 := passStatus s.records[i] }

/-- The records of one kind that the event from `s` to `t` appended. -/
abbrev appended (kind : EventKind) (s t : State) : List EventRec :=
  (t.log.records.drop s.log.records.length).filter fun r => r.kind = kind

/-- R93, R94: what a take of input `j` makes of the output: ACQUIRING with the configured settle time, the synthesizer
following the input, for an ACTIVE record, BRIDGING with origin ACQUIRING for a SUSPECT one, and an empty history. -/
abbrev TakeMade (j : Inp) (t : State) : Prop :=
  t.follower.history = [] ∧
  (t.records[j].state = .active → t.follower.output = .acquiring ∧ t.follower.bridging = none ∧
    synthCommand t = .follow j ∧
    t.follower.settle = some ((cfg t).settle * 20000000)) ∧
  (t.records[j].state = .suspect → t.follower.output = .bridging ∧ t.follower.bridging = some .acquiring ∧
    t.follower.settle = none)

/-- R102, R103: the event that took `s` to `t` computed the holdover value from the history of active input `i`. -/
abbrev ValueMade (i : Inp) (s t : State) : Prop :=
  t.follower.value = { valid := true, value := holdoverMean s.follower.history, base := t.records[i].effective,
                       ageCycles := 0, source := some i }

/-- R115, R152: the kind is known and suits the payload length and the destination. -/
abbrev Pairing (kind : Byte) (f : RxFrame) : Prop :=
  kind = 0x02 ∧ f.payload = [] ∨ kind = 0x03 ∧ f.payload = [] ∧ f.dest = 0 ∨
    kind = 0x01 ∧ (5 ≤ f.payload.length ∧ f.payload.length ≤ 12) ∧ f.dest = 0

/-- R155: the sequence of a frame is acceptable to the entry of its source. -/
abbrev SequenceFits (kind : Byte) (f : RxFrame) (entry : Option PeerEntry) : Prop :=
  (kind = 0x03 → entry ≠ none) ∧
  (kind ≠ 0x02 → ∀ e ∈ entry, e.state = .fresh →
    (1 ≤ (f.seq - e.lastSeq).toNat ∧ (f.seq - e.lastSeq).toNat ≤ 127) ∨
    (kind = 0x01 ∧ 128 ≤ payloadByte f.payload 2))

/-- R117: what the receiver in HUNT makes of a character: a header for this station, or nothing. -/
abbrev HuntTakes (own : Nat) (c : LineChar) : Receiver :=
  if c.mark = true ∧ c.stopGood = true ∧ (c.data.toNat = 0 ∨ c.data.toNat = own) then .assemble [c.data] else .hunt

/-- R127: two events that need no order: either one first, the state after both is the same. -/
abbrev Commute (c d : Instr) (s : State) : Prop :=
  ∃ t u v : State, exec c s = .next t ∧ exec d t = .next v ∧ exec d s = .next u ∧ exec c u = .next v

/-- R7: 1 to 8 distinct addresses of 1 to 24, the last of them `station`. -/
abbrev PathOf (path : List Nat) (station : Nat) : Prop :=
  (1 ≤ path.length ∧ path.length ≤ 8) ∧ (∀ a ∈ path, 1 ≤ a ∧ a ≤ 24) ∧ path.Nodup ∧ path.getLast? = some station

/-- R153: the content that a valid ANNOUNCE payload carries, as announced by `source`. -/
abbrev ValidPayload (source : Nat) (payload : List Byte) : Prop :=
  (1 ≤ payloadByte payload 0 ∧ payloadByte payload 0 ≤ 4) ∧ (1 ≤ payloadByte payload 1 ∧ payloadByte payload 1 ≤ 15) ∧
  (1 ≤ payloadByte payload 2 % 16 ∧ payloadByte payload 2 % 16 ≤ 8) ∧
  (1 ≤ payloadByte payload 3 ∧ payloadByte payload 3 ≤ 8) ∧ payload.length = 4 + payloadByte payload 3 ∧
  PathOf ((payload.drop 4).map BitVec.toNat) source

/-! ### The image, field by field (R170 to R172, R186) -/

/-- The clamped global fields, each beside the bytes it was read from: the fields that the clamp count counts. -/
abbrev globalFields (image : List Byte) (c : Image) : List (Nat × Nat) :=
  [(byteAt image 2, c.interval), (word2 image 7, c.accept), (word2 image 9, c.reject), (word2 image 11, c.pull),
    (byteAt image 13, c.settle), (byteAt image 14, c.floor), (word2 image 15, c.warmup), (word3 image 17, c.age1),
    (word3 image 21, c.age2), (word3 image 25, c.age3), (byteAt image 20, c.grade1), (byteAt image 24, c.grade2),
    (byteAt image 28, c.grade3), (word3 image 29, c.limit)]

/-- The numbers of a used input laid out at offset `o`, each beside the bytes it was read from. -/
abbrev inputFields (image : List Byte) (o : Nat) (c : InputCfg) : List (Nat × Nat) :=
  [(word4 image (o + 1), c.freq), (byteAt image (o + 5), c.fixedGrade), (byteAt image (o + 6), c.bound),
    (byteAt image (o + 7), c.ceiling), (byteAt image (o + 8), c.priority), (byteAt image (o + 9), c.holdOff),
    (word2 image (o + 10), c.wtr)]

/-- How many fields of the input at offset `o` a clamp has altered (R171). -/
abbrev inputAltered (image : List Byte) (o : Nat) (c : InputCfg) : Nat :=
  if c.use = .off then (if byteAt image o = 0 then 0 else 1)
  else (inputFields image o c).countP (fun f => f.1 ≠ f.2) + (if 2 < byteAt image (o + 12) then 1 else 0)

/-- The global fields by R170 and R172: each from its bytes at the offset of R186, most significant byte first. -/
abbrev GlobalsRead (image : List Byte) (c : Image) : Prop :=
  c.interval = max 1 (min 8 (byteAt image 2)) ∧ (c.revertive = true ↔ byteAt image 6 % 2 = 1) ∧
  c.reject = max 1 (min 32767 (byteAt image 9 * 256 + byteAt image 10)) ∧
  c.accept = min c.reject (max 1 (min 32767 (byteAt image 7 * 256 + byteAt image 8))) ∧
  c.pull = max 1 (min 32767 (byteAt image 11 * 256 + byteAt image 12)) ∧
  c.settle = max 1 (min 60 (byteAt image 13)) ∧ c.floor = max 1 (min 15 (byteAt image 14)) ∧
  c.warmup = min 3600 (byteAt image 15 * 256 + byteAt image 16) ∧
  c.limit = max 1 (byteAt image 29 * 65536 + byteAt image 30 * 256 + byteAt image 31) ∧
  c.age1 = min c.limit (byteAt image 17 * 65536 + byteAt image 18 * 256 + byteAt image 19) ∧
  c.age2 = max c.age1 (min c.limit (byteAt image 21 * 65536 + byteAt image 22 * 256 + byteAt image 23)) ∧
  c.age3 = max c.age2 (min c.limit (byteAt image 25 * 65536 + byteAt image 26 * 256 + byteAt image 27)) ∧
  c.grade1 = max 1 (min 15 (byteAt image 20)) ∧ c.grade2 = max c.grade1 (min 15 (byteAt image 24)) ∧
  c.grade3 = max c.grade2 (min 15 (byteAt image 28))

/-- The use of the input laid out at offset `o` (R171, first stage), at own address `own`. -/
abbrev UseRead (own : Nat) (image : List Byte) (o : Nat) (use : InputUse) : Prop :=
  (byteAt image o = 0 ∨ 2 < byteAt image o → use = .off) ∧ (byteAt image o = 1 → use = .fixed) ∧
  (byteAt image o = 2 → byteAt image (o + 6) = 0 ∨ 24 < byteAt image (o + 6) ∨ byteAt image (o + 6) = own →
    use = .off) ∧
  (byteAt image o = 2 → 1 ≤ byteAt image (o + 6) → byteAt image (o + 6) ≤ 24 → byteAt image (o + 6) ≠ own →
    use = .peer)

/-- The fields of a used input laid out at offset `o` (R171, second stage). -/
abbrev InputRead (image : List Byte) (o : Nat) (c : InputCfg) : Prop :=
  c.freq = max 8000 (min 100000000 (byteAt image (o + 1) * 16777216 + byteAt image (o + 2) * 65536 +
    byteAt image (o + 3) * 256 + byteAt image (o + 4))) ∧
  c.fixedGrade = max 1 (min 15 (byteAt image (o + 5))) ∧
  c.bound = (if c.use = .fixed ∧ 24 < byteAt image (o + 6) then 0 else byteAt image (o + 6)) ∧
  c.ceiling = max 1 (min 15 (byteAt image (o + 7))) ∧ c.priority = max 1 (min 8 (byteAt image (o + 8))) ∧
  c.holdOff = min 50 (byteAt image (o + 9)) ∧
  c.wtr = min 900 (byteAt image (o + 10) * 256 + byteAt image (o + 11)) ∧
  (c.losMode = .activeHigh ↔ byteAt image (o + 12) = 1) ∧ (c.losMode = .activeLow ↔ byteAt image (o + 12) = 2)

/-! ### The records, byte by byte (R186) -/

/-- The record at address `a` of the table of R179. -/
def recordAt (s : State) (a : Nat) : List Byte :=
  if h : 1 ≤ a ∧ a ≤ 6 then inputRecord s ⟨a - 1, by omega⟩
  else if h : 7 ≤ a ∧ a ≤ 30 then peerRecord s ⟨a - 7, by omega⟩
  else if a = 0 then statusRecord s
  else if a = 31 then holdoverRecord s
  else if a = 32 then countersRecord s
  else eventHeadRecord s

/-- Bit `k` of byte `n` of a record. -/
abbrev recordBit (r : List Byte) (n k : Nat) : Bool := (r.getD n 0).getLsbD k

/-- The bytes of a path from offset `n` on: the addresses, then zeros. -/
abbrev PathAt (r : List Byte) (n : Nat) (path : List Nat) : Prop :=
  ∀ k : Nat, k < 8 → byteAt r (n + k) = path.getD k 0 % 256

/-- An event record from offset `n` on: its uptime, kind code and arguments. -/
abbrev EventAt (r : List Byte) (n : Nat) (e : EventRec) : Prop :=
  word4 r n = e.uptime % 4294967296 ∧ byteAt r (n + 4) = e.kind.code ∧ r[n + 5]? = some e.arg1 ∧
  r[n + 6]? = some e.arg2

/-- The status record (R15, R177, R186). -/
abbrev StatusLayout (s : State) (r : List Byte) : Prop :=
  r.length = 26 ∧ byteAt r 0 = s.loader.partState.code ∧ byteAt r 1 = s.loader.cause.code ∧
  byteAt r 2 = s.cause.code ∧
  (recordBit r 3 0 = s.bus.duplicate ∧ recordBit r 3 1 = s.follower.warm ∧ recordBit r 3 2 = s.log.overflow ∧
    (recordBit r 3 3 = true ↔ s.selector.force ≠ .none) ∧ recordBit r 3 4 = s.loader.held ∧
    recordBit r 3 5 = s.loader.controllerMode ∧ byteAt r 3 < 64) ∧
  byteAt r 4 = s.loader.ownAddress % 256 ∧ byteAt r 5 = s.follower.output.code ∧
  (s.selector.active = none → byteAt r 6 = 0) ∧ (∀ i : Inp, s.selector.active = some i → byteAt r 6 = i.val + 1) ∧
  byteAt r 7 = s.selector.force.code ∧ (word2 r 8 : Int) = outputOffset s % 65536 ∧
  (s.announcer.last = none → ∀ k : Nat, k < 11 → byteAt r (10 + k) = 0) ∧
  (∀ c ∈ s.announcer.last, byteAt r 10 = classCode c.cls ∧ byteAt r 11 = c.grade % 256 ∧
    byteAt r 12 = c.path.length % 256 ∧ PathAt r 13 c.path) ∧
  word4 r 21 = s.log.uptime % 4294967296 ∧ byteAt r 25 = s.log.records.length % 256

/-- The record of an input (R39, R65, R186). -/
abbrev InputLayout (s : State) (i : Inp) (r : List Byte) : Prop :=
  r.length = 19 ∧ byteAt r 0 = i.val + 1 ∧
  byteAt r 1 = (if running s = true then (inputCfg s i).use.code else 0) ∧
  (running s = false → byteAt r 2 = 0) ∧
  (running s = true → (inputCfg s i).use ≠ .off → byteAt r 2 = (inputCfg s i).bound % 256) ∧
  byteAt r 3 = s.records[i].state.code ∧
  (s.records[i].origin = none → byteAt r 4 = 0) ∧ (s.records[i].origin = some .ready → byteAt r 4 = 3) ∧
  (s.records[i].origin = some .active → byteAt r 4 = 4) ∧
  (recordBit r 5 0 = s.records[i].reasons.signal ∧ recordBit r 5 1 = s.records[i].reasons.freq ∧
    recordBit r 5 2 = s.records[i].reasons.grade ∧ recordBit r 5 3 = s.records[i].reasons.loop ∧
    recordBit r 5 4 = s.records[i].reasons.range ∧ recordBit r 5 5 = s.records[i].reasons.lockout ∧
    byteAt r 5 < 64) ∧
  (recordBit r 6 0 = s.records[i].hardSeen ∧ recordBit r 6 1 = s.monitors[i].losLevel ∧
    recordBit r 6 2 = s.monitors[i].losCause ∧ recordBit r 6 3 = s.monitors[i].present ∧
    recordBit r 6 4 = s.monitors[i].signal ∧ recordBit r 6 5 = s.monitors[i].freq ∧
    (recordBit r 6 6 = true ↔ s.monitors[i].lastOffset ≠ none) ∧ byteAt r 6 < 128) ∧
  (s.records[i].holdOff = none → word2 r 7 = 0) ∧
  (∀ n ∈ s.records[i].holdOff, n < 65535 * 20000 →
    n / 20000 ≤ word2 r 7 ∧ word2 r 7 * 20000 < n + 20000) ∧
  byteAt r 9 = s.records[i].wtr.code ∧
  (∀ n : Nat, s.records[i].wtr = .running n → word2 r 10 = n / 20000000 % 65536) ∧
  ((∀ n : Nat, s.records[i].wtr ≠ .running n) → word2 r 10 = 0) ∧
  byteAt r 12 = s.records[i].raw % 256 ∧ byteAt r 13 = s.records[i].effective % 256 ∧
  byteAt r 14 = s.records[i].hop % 256 ∧ byteAt r 15 = s.monitors[i].window.length % 256 ∧
  (s.monitors[i].lastOffset = none → word2 r 16 = 0) ∧
  (∀ n ∈ s.monitors[i].lastOffset, (word2 r 16 : Int) = n % 65536) ∧ byteAt r 18 = s.monitors[i].check.code

/-- The record of a peer address (R15, R164, R186). -/
abbrev PeerLayout (s : State) (k : Slot) (r : List Byte) : Prop :=
  r.length = 17 ∧ byteAt r 0 = k.val + 1 ∧
  (s.peers.entries[k] = none → ∀ n : Nat, 1 ≤ n → n ≤ 16 → byteAt r n = 0) ∧
  ∀ e ∈ s.peers.entries[k], byteAt r 1 = e.state.code ∧ r[2]? = some e.lastSeq ∧ byteAt r 3 = classCode e.cls ∧
    byteAt r 4 = e.grade % 256 ∧ byteAt r 5 = e.interval % 256 ∧ byteAt r 6 = e.ageCycles / 20000000 % 256 ∧
    (s.peers.windows[k] = none → byteAt r 7 = 0) ∧ (∀ w ∈ s.peers.windows[k], byteAt r 7 = w.count % 256) ∧
    byteAt r 8 = e.path.length % 256 ∧ PathAt r 9 e.path

/-- The holdover record (R109, R186). -/
abbrev HoldoverLayout (s : State) (r : List Byte) : Prop :=
  r.length = 14 ∧ byteAt r 0 = s.follower.value.valid.toNat ∧ (word2 r 1 : Int) = s.follower.value.value % 65536 ∧
  byteAt r 3 = s.follower.value.base % 256 ∧ word3 r 4 = s.follower.value.ageCycles / 20000000 % 16777216 ∧
  (s.follower.value.source = none → byteAt r 7 = 0) ∧
  (∀ i : Inp, s.follower.value.source = some i → byteAt r 7 = i.val + 1) ∧
  (s.follower.value.valid = false → byteAt r 8 = 15) ∧
  (s.follower.value.valid = true → byteAt r 8 =
    holdoverGradeAt (cfg s) s.follower.value.base (s.follower.value.ageCycles / 20000000) % 256) ∧
  byteAt r 9 = s.follower.history.length % 256 ∧
  (s.follower.bridging = none → byteAt r 10 = 0) ∧ (s.follower.bridging = some .acquiring → byteAt r 10 = 1) ∧
  (s.follower.bridging = some .locked → byteAt r 10 = 2) ∧
  (s.follower.settle = none → byteAt r 11 = 0) ∧ (∀ n ∈ s.follower.settle, byteAt r 11 = n / 20000000 % 256) ∧
  word2 r 12 = s.follower.warmCount % 65536

/-- The counters record (R185, R186). -/
abbrev CountersLayout (s : State) (r : List Byte) : Prop :=
  r.length = 16 ∧ word2 r 0 = s.bus.intact % 65536 ∧ word2 r 2 = s.bus.bad % 65536 ∧
  word2 r 4 = s.peers.untrusted % 65536 ∧ word2 r 6 = s.peers.rateDiscarded % 65536 ∧
  word2 r 8 = s.peers.seqDiscarded % 65536 ∧ word2 r 10 = s.bus.clashes % 65536 ∧ word2 r 12 = s.bus.sent % 65536 ∧
  word2 r 14 = s.loader.clampCount % 65536

/-- The event head record (R184, R186). -/
abbrev EventHeadLayout (s : State) (r : List Byte) : Prop :=
  r.length = 9 ∧ byteAt r 0 = s.log.records.length % 256 ∧ byteAt r 1 = s.log.overflow.toNat ∧
  (s.log.records = [] → ∀ n : Nat, 2 ≤ n → n ≤ 8 → byteAt r n = 0) ∧
  ∀ e ∈ s.log.records.head?, EventAt r 2 e

/-- The codes of the tables of R186 that the records use. -/
abbrev RecordCodes : Prop :=
  [PartState.loading, .awaitImage, .cfgFault, .running].map PartState.code = [0, 1, 2, 3] ∧
  [LoadCause.none, .signature, .format, .eepromAbsent, .address].map LoadCause.code = [0, 1, 2, 3, 4] ∧
  [ResetKind.power, .pin, .soft].map ResetKind.code = [1, 2, 3] ∧
  [Output.freeRun, .acquiring, .locked, .bridging, .holdover].map Output.code = [0, 1, 2, 3, 4] ∧
  [Force.none, .input 0, .input 5, .holdover].map Force.code = [0, 1, 6, 7] ∧
  [AnnClass.fixedLock, .peerLock, .holdover, .freeRun].map classCode = [1, 2, 3, 4] ∧
  [InputUse.off, .fixed, .peer].map InputUse.code = [0, 1, 2] ∧
  [InputState.off, .barred, .proving, .ready, .active, .suspect].map InputState.code = [0, 1, 2, 3, 4, 5] ∧
  [Wtr.none, .running 0, .served, .met, .waived].map Wtr.code = [0, 1, 2, 3, 4] ∧
  [CheckResult.none, .clear, .hold, .absolute, .relative, .both].map CheckResult.code = [0, 1, 2, 3, 4, 5] ∧
  [PeerState.fresh, .stale, .withdrawn].map PeerState.code = [1, 2, 3] ∧
  [EventKind.started, .switched, .inputBarred, .inputReady, .outputLocked, .peerLost, .peerWithdrawn, .peerGone,
    .duplicate, .forceCleared, .holdoverExpired, .warmupDone].map EventKind.code =
    [1, 2, 3, 4, 5, 6, 7, 8, 9, 10, 11, 12]

/-- The code table of R178: the command of a frame by its first byte, the arguments it takes, and an unknown code; a
frame that ends before its arguments gives none. -/
abbrev CodeTable (pins : Pins) (held : Option Nat) (n code : Byte) (args : List Byte) : Prop :=
  commandOf pins held (0x01 :: n :: args) = some (.read (.record n) args.length) ∧
  commandOf pins held (0x02 :: args) = some (.loadImage (args.take 110)) ∧
  commandOf pins held (0x03 :: args) = some (.start held) ∧ commandOf pins held (0x04 :: n :: args) = some (.force n) ∧
  commandOf pins held (0x05 :: args) = some .unforce ∧ commandOf pins held (0x06 :: n :: args) = some (.lockout n) ∧
  commandOf pins held (0x07 :: n :: args) = some (.release n) ∧ commandOf pins held (0x08 :: args) = some .popEvent ∧
  commandOf pins held (0x09 :: args) = some (.softReset pins) ∧
  (¬(1 ≤ code.toNat ∧ code.toNat ≤ 9) → commandOf pins held (code :: args) = some (.unknownCommand code)) ∧
  commandOf pins held [] = none ∧ (∀ c ∈ [(0x01 : Byte), 0x04, 0x06, 0x07], commandOf pins held [c] = none)

/-- The bits of a byte, most significant first (R178). -/
abbrev msbFirst (b : Byte) : List Bool :=
  [b.getLsbD 7, b.getLsbD 6, b.getLsbD 5, b.getLsbD 4, b.getLsbD 3, b.getLsbD 2, b.getLsbD 1, b.getLsbD 0]

/-- The argument bytes of a command by its code (R178). -/
abbrev argumentsOf (code : Byte) : Nat := if code = 0x02 then 110 else if code ∈ [0x01, 0x04, 0x06, 0x07] then 1 else 0

/-- R178, R181: a frame of the bytes `code :: args` and the bits `extra` on SDI, bit by bit. The command is taken when the
eighth bit of its last argument has arrived, whatever follows; SOFT RESET, whose DONE SDO then carries, and a short LOAD
IMAGE at the rise of CSN; nothing before that; and READ goes on with each byte that begins to shift out (R179). -/
abbrev SpiFrameLaw (pins : Pins) (held : Option Nat) (code : Byte) (args : List Byte) (extra : List Bool) (s : State) :
    Prop :=
  let clocked := clockBits held ((code :: args).flatMap msbFirst ++ extra) (portEdge .csnFalls s)
  (code ≠ 0x01 →
    clocked.pending = s.pending ++
      (if code ≠ 0x09 ∧ argumentsOf code ≤ args.length then (commandOf pins held (code :: args)).toList else []) ∧
    portEdge (.csnRises pins) clocked = { s with
      pending := clocked.pending ++
        (if code = 0x09 ∨ (code = 0x02 ∧ args.length < 110) then (commandOf pins held (code :: args)).toList else [])
      port := { s.port with sdo := if code = 0x09 then [0x00, 0xA0] else [], reading := .closed, frame := none } }) ∧
  (code = 0x01 → portEdge (.csnRises pins) clocked = { s with
    pending := s.pending ++ (match args with
      | [] => []
      | address :: data => .read (.record address) 0 :: List.replicate (data.length + 1) (.read .onward 1))
    port := { s.port with sdo := [], reading := .closed, frame := none } }) ∧
  portEdge (.csnRises pins) (clockBits held extra (portEdge .csnFalls s)) =
    { s with port := { s.port with sdo := [], reading := .closed, frame := none } }

/-- R178: the level on SDO in a frame: the bytes of the port's answer, most significant bit first, the next bit on each
fall of SCK. -/
abbrev SdoLaw (s : State) : Prop :=
  ∀ f ∈ s.port.frame,
    let place := f.bits.length - (if f.high = true then 1 else 0)
    sdoLevel s = some ((s.port.sdo.getD (place / 8) 0x00).getLsbD (7 - place % 8))

/-- The polynomial over the integers modulo 2 whose coefficients are the bits of the bytes, most significant first. -/
noncomputable def bitPolynomial (bytes : List Byte) : Polynomial (ZMod 2) :=
  (bytes.flatMap fun b => (List.range 8).map fun k => b.getLsbD (7 - k)).foldl
    (fun p bit => p * Polynomial.X + Polynomial.C (if bit then 1 else 0)) 0

/-- The divisor of R116: x⁸ + x² + x + 1. -/
noncomputable def checkDivisor : Polynomial (ZMod 2) :=
  Polynomial.X ^ 8 + Polynomial.X ^ 2 + Polynomial.X + 1

end Sys2Proof
end

