-- ==== Sys2Proof/Certificates/Slice0/Obligations.lean ====
section
/-! DEFINITION. The statements for the provers, in the order of the spec's units: the machine, the resets, the monitors,
the inputs, the holdover, the Selector, the Peer Table, the transmission, the image, the controller port, and the laws
that every step keeps. -/

open Sys2Proof Sys2Proof.Machine

/-! ### The machine -/

/-- A step takes the command at the front of the queue and runs its meaning with the queue's rest. -/
def Obligations.StepTakesFront : Prop :=
  ∀ (c : Instr) (rest : List Instr) (s : State),
    s.pending = c :: rest → step s = exec c { s with pending := rest }

/-- R182, R18, R23, R48, R53, R95, R104, R107, R121, R137, R139, R154, R168: with nothing commanded, the uptime counter
counts whole seconds of 20,000,000 LOSC cycles, every running timer, age and count moves by one a cycle, to where a row
of the table takes over, and nothing else moves; while a reset is held nothing moves at all. That an empty queue is one
LOSC cycle, and where each count waits, are the model's choices (notes/assumptions/2.md, 3.md). -/
def Obligations.UptimeCountsSeconds : Prop :=
  ∀ (n : Nat) (s : State),
    (s.hold ≠ none → s.pending = [] → step s = .next s) ∧
    (s.hold = none → s.pending = [] → s.log.phase < 20000000 →
    s.log.uptime * 20000000 + s.log.phase + n < 4294967296 * 20000000 →
    ∃ t : State, Host.Core.run Sys2Proof.core n s = .next t ∧
      t.log.uptime * 20000000 + t.log.phase = s.log.uptime * 20000000 + s.log.phase + n ∧ t.log.phase < 20000000 ∧
      t.log.records = s.log.records ∧ t.log.overflow = s.log.overflow ∧ t.pending = [] ∧ t.hold = none ∧
      t.cause = s.cause ∧ t.pins = s.pins ∧ t.selector = s.selector ∧ t.port = s.port ∧
      TimersRun n s t ∧ MonitorsRun n s t ∧ AgesRun n s t ∧ IdleRuns n s t)

/-- R174, R38, R66, R111: every command is answered, none touches the queue, and a part that is RUNNING before and after
it has the same image, own address and reset cause: the configuration stands from START to the next reset. R130, R165,
R167, R178: while a reset is held every command but a POWER reset and the release changes nothing, nor does an edge at
the Controller Port, which drives no SDO, and while the part is not RUNNING the commands of the running units change
nothing. That a command whose event cannot occur changes nothing is the model's choice (notes/assumptions/6.md). -/
def Obligations.CommandsKeepToTheirPart : Prop :=
  ∀ (c : Instr) (edge : SpiEdge) (s : State),
    (Answers c s fun t =>
      t.pending = s.pending ∧
      (running s = true → running t = true → t.loader = s.loader ∧ t.cause = s.cause ∧ t.hold = s.hold)) ∧
    (s.hold ≠ none → c ≠ .powerReset → (∀ a m l, c ≠ .resetRelease a m l) → exec c s = .next s) ∧
    (s.hold ≠ none → portEdge edge s = s ∧ sdoLevel s = none) ∧
    (running s = false → runningOnly c = true → exec c s = .next s)

/-! ### The resets -/

/-- R166, R167 and the reset tables R67, R69, R112, R130, R134, R147, R165, R182: a POWER reset begins in any state, a
PIN reset when none is held, and each clears every unit and discards the frame on SPI; a PIN reset during a held reset
begins nothing. At the release of a held reset the straps give the part state, the load cause and the own address, the
LOS lines give the accepted levels, and warm-up begins after POWER alone; with no reset held there is nothing to
release. That the straps and lines are operands of the release is the model's form (notes/assumptions/4.md, 7.md). -/
def Obligations.ResetsClearEveryUnit : Prop :=
  ∀ (kind : ResetKind) (addr : BitVec 5) (controller : Bool) (los : BitVec 6) (s : State),
    (Answers .powerReset s fun t =>
      t.hold = some .power ∧ t.cause = .power ∧ UnitsReset t ∧ t.pins = s.pins ∧ t.pending = s.pending) ∧
    (s.hold = none → Answers .pinReset s fun t =>
      t.hold = some .pin ∧ t.cause = .pin ∧ UnitsReset t ∧ t.pins = s.pins ∧ t.pending = s.pending) ∧
    (s.hold ≠ none → exec .pinReset s = .next s) ∧
    (s.hold = some kind → Answers (.resetRelease addr controller los) s fun t =>
      JustReleased kind { addrStrap := addr, controllerMode := controller, los := los } t ∧ t.port.sdo = [] ∧
      t.pending = s.pending) ∧
    (s.hold = none → exec (.resetRelease addr controller los) s = .next s)

/-- R131, R146, R181, R18, R166: SOFT RESET is answered DONE; it resets the part at once when the part is not RUNNING or
DUPLICATE is set, sampling the straps and LOS lines at that moment, and otherwise asks for a WITHDRAW, for which it
waits at most 50 ms; a second one changes nothing more. That the reset and its release are one event, whose pin levels
the command carries, and what the second one does, are the model's choices (notes/assumptions/5.md, 20.md). -/
def Obligations.SoftResetWithdrawsFirst : Prop :=
  ∀ (pins : Pins) (s : State),
    s.hold = none →
    (running s = false ∨ (s.bus.duplicate = true ∧ s.announcer.mode ≠ .withdrawing) →
      Answers (.softReset pins) s fun t =>
        JustReleased .soft pins t ∧ t.port.sdo = [0x00, 0xA0] ∧ t.pending = s.pending) ∧
    (running s = true → s.bus.duplicate = false → s.announcer.mode ≠ .withdrawing →
      exec (.softReset pins) s = .next { s with
        port := answeredPort s.port [0x00, 0xA0]
        announcer := { s.announcer with mode := .withdrawing, withdrawWait := some 1000000, waitOver := false }
        bus := { s.bus with tx := if s.bus.tx = .idle then .deferring else s.bus.tx } }) ∧
    (running s = true → s.announcer.mode = .withdrawing →
      exec (.softReset pins) s = .next { s with port := answeredPort s.port [0x00, 0xA0] })

/-- R131: the soft reset takes place at the completion of the WITHDRAW; when the 50 ms run out with no WITHDRAW attempt
on the line, whatever else is on it; at the clash that ends a WITHDRAW attempt the 50 ms have run out on; and at the
eighth clash in a row. With a WITHDRAW attempt on the line the 50 ms are over and its end is awaited, and any other
clash leaves the station waiting for the line again, to send a WITHDRAW. That the expiry row is the 50 ms point itself,
and that the reset and its release are one event whose pin levels the command carries, are the model's choices
(notes/assumptions/1.md, 5.md). -/
def Obligations.WithdrawEndsInReset : Prop :=
  ∀ (pins : Pins) (q : Byte) (s : State),
    running s = true →
    (s.bus.tx = .sending → s.announcer.frame = some (.withdraw q) →
      Answers (.withdrawCompletion pins) s fun t =>
        JustReleased .soft pins t ∧ t.port.sdo = s.port.sdo ∧ t.pending = s.pending) ∧
    (s.announcer.mode = .withdrawing → s.announcer.withdrawWait ≠ none →
      (s.bus.tx ≠ .sending ∨ (∀ w : Byte, s.announcer.frame ≠ some (.withdraw w)) →
        Answers (.withdrawWaitExpiry pins) s fun t =>
          JustReleased .soft pins t ∧ t.port.sdo = s.port.sdo ∧ t.pending = s.pending) ∧
      (s.bus.tx = .sending → s.announcer.frame = some (.withdraw q) →
        exec (.withdrawWaitExpiry pins) s = .next { s with
          announcer := { s.announcer with withdrawWait := none, waitOver := true } })) ∧
    (s.announcer.mode = .withdrawing → s.bus.tx = .sending →
      (s.announcer.frame = some (.withdraw q) ∧ s.announcer.waitOver = true ∨ 7 ≤ s.bus.clashRun →
        Answers (.clash pins) s fun t =>
          JustReleased .soft pins t ∧ t.port.sdo = s.port.sdo ∧ t.pending = s.pending) ∧
      (s.announcer.waitOver = false ∨ (∀ w : Byte, s.announcer.frame ≠ some (.withdraw w)) → s.bus.clashRun < 7 →
        s.bus.duplicate = false →
        Answers (.clash pins) s fun t =>
          t = { s with announcer := { s.announcer with frame := none }, bus := t.bus } ∧
          t.bus = { s.bus with
            tx := .deferring, rx := t.bus.rx, idle := some 0, rest := false, clashRun := s.bus.clashRun + 1
            clashes := min 65535 (s.bus.clashes + 1) }))

/-! ### The Input Monitors -/

/-- R18, R20: eight consecutive 1 ms points whose LOS samples agree and whose windows each hold an edge leave that level
accepted and the activity PRESENT, from any state of the detectors and in every part state. -/
def Obligations.EightSamplesAgree : Prop :=
  ∀ (i : Inp) (high : Bool) (rest : List Instr) (s : State),
    s.hold = none → s.pending = List.replicate 8 (.msPoint i high true) ++ rest →
    ∃ t : State, Host.Core.run Sys2Proof.core 8 s = .next t ∧ t.pending = rest ∧ t.hold = none ∧
      t.monitors[i].losLevel = high ∧ t.monitors[i].losCount = 0 ∧ t.monitors[i].present = true ∧
      (∀ j : Inp, j ≠ i → t.monitors[j] = s.monitors[j]) ∧ t.peers = s.peers ∧ t.loader = s.loader ∧ t.port = s.port

/-- R18 to R21, R25, R27: one 1 ms point of a monitor. The LOS debounce and the activity detector move as their tables
give; while the input is measured, the sub-causes and SIGNAL follow, SIGNAL arising abandons the gate and empties the
window and keeps the last offset and FREQ, and SIGNAL clearing starts a gate. What the Qualifier and the Selector make
of a change of SIGNAL is stated elsewhere. That the pin level last sampled is kept is the model's choice
(notes/assumptions/7.md). -/
def Obligations.MsPointDetects : Prop :=
  ∀ (i : Inp) (high edge : Bool) (s : State),
    s.hold = none →
    Answers (.msPoint i high edge) s fun t =>
      (high = s.monitors[i].losLevel → t.monitors[i].losLevel = high ∧ t.monitors[i].losCount = 0) ∧
      (high ≠ s.monitors[i].losLevel → s.monitors[i].losCount < 7 →
        t.monitors[i].losLevel = s.monitors[i].losLevel ∧ t.monitors[i].losCount = s.monitors[i].losCount + 1) ∧
      (high ≠ s.monitors[i].losLevel → 7 ≤ s.monitors[i].losCount →
        t.monitors[i].losLevel = high ∧ t.monitors[i].losCount = 0) ∧
      (s.monitors[i].present = true → edge = true →
        t.monitors[i].present = true ∧ t.monitors[i].activityRun = s.monitors[i].activityRun) ∧
      (s.monitors[i].present = true → edge = false →
        t.monitors[i].present = false ∧ t.monitors[i].activityRun = 0) ∧
      (s.monitors[i].present = false → edge = true → s.monitors[i].activityRun < 7 →
        t.monitors[i].present = false ∧ t.monitors[i].activityRun = s.monitors[i].activityRun + 1) ∧
      (s.monitors[i].present = false → edge = true → 7 ≤ s.monitors[i].activityRun →
        t.monitors[i].present = true ∧ t.monitors[i].activityRun = 0) ∧
      (s.monitors[i].present = false → edge = false →
        t.monitors[i].present = false ∧ t.monitors[i].activityRun = 0) ∧
      (measuring s i = true →
        (t.monitors[i].losCause = true ↔ (inputCfg s i).losMode = .activeHigh ∧ t.monitors[i].losLevel = true ∨
          (inputCfg s i).losMode = .activeLow ∧ t.monitors[i].losLevel = false) ∧
        (t.monitors[i].activityCause = true ↔ t.monitors[i].present = false) ∧
        (t.monitors[i].signal = true ↔ t.monitors[i].losCause = true ∨ t.monitors[i].activityCause = true)) ∧
      (measuring s i = false →
        t.monitors[i].losCause = s.monitors[i].losCause ∧ t.monitors[i].activityCause = s.monitors[i].activityCause ∧
        t.monitors[i].signal = s.monitors[i].signal) ∧
      (t.monitors[i].signal = s.monitors[i].signal →
        t.monitors[i].gate = s.monitors[i].gate ∧ t.monitors[i].window = s.monitors[i].window ∧
        t.records = s.records ∧ t.selector = s.selector ∧ t.follower = s.follower ∧ t.log = s.log ∧ t.bus = s.bus ∧
        t.announcer = s.announcer) ∧
      (s.monitors[i].signal = false → t.monitors[i].signal = true →
        t.monitors[i].gate.run = false ∧ t.monitors[i].gate.edges = 0 ∧ t.monitors[i].window = []) ∧
      (s.monitors[i].signal = true → t.monitors[i].signal = false →
        t.monitors[i].gate.run = true ∧ t.monitors[i].gate.elapsed = 0 ∧ t.monitors[i].gate.edges = 0 ∧
        t.monitors[i].window = s.monitors[i].window) ∧
      t.monitors[i].lastOffset = s.monitors[i].lastOffset ∧ t.monitors[i].freq = s.monitors[i].freq ∧
      t.monitors[i].check = s.monitors[i].check ∧ t.monitors[i].msPhase = 0 ∧
      (∀ j : Inp, t.pins.los.getLsbD j.val = if j = i then high else s.pins.los.getLsbD j.val) ∧
      t.pins.addrStrap = s.pins.addrStrap ∧ t.pins.controllerMode = s.pins.controllerMode ∧
      t.hold = s.hold ∧ t.cause = s.cause ∧ t.loader = s.loader ∧ t.peers = s.peers ∧ t.port = s.port ∧
      t.pending = s.pending ∧ LogGrown s t ∧ SameAnnouncer s t ∧ SameBus s t ∧ SameWarm s t ∧ SameOthers i s t

/-- R47, R48, R50, R52, R64, R96, R97: what SIGNAL does to a lawful record. Arising, it puts a READY or ACTIVE input
with a hold-off in SUSPECT for that hold-off, and bars every other used input with hard-seen set, recording INPUT_BARRED
of one that was not BARRED; the output of an ACTIVE one enters BRIDGING with the state it came from as origin, its
settle timer cancelled, its history kept, a value computed from 16 offsets alone, and the synthesizer told to hold the
offset last shown (R93). Clearing, it returns a SUSPECT input to its origin, with the output to LOCKED and its history
as it was or to ACQUIRING and a fresh settle time when the input was active, the synthesizer following it again, leaves
a BARRED input that has other reasons, and sends one that has none to PROVING with its WTR to serve. -/
def Obligations.SignalMovesInput : Prop :=
  ∀ (i : Inp) (high edge : Bool) (s : State),
    measuring s i = true → RecordsLawful s → MeasuringLaw s →
    Answers (.msPoint i high edge) s fun t =>
      (s.monitors[i].signal = false → t.monitors[i].signal = true →
        ((s.records[i].state = .ready ∨ s.records[i].state = .active) → 0 < (inputCfg s i).holdOff →
          t.records[i].state = .suspect ∧ t.records[i].reasons = { Reasons.empty with signal := true } ∧
          t.records[i].hardSeen = false ∧ t.records[i].wtr = .none ∧
          t.records[i].holdOff = some ((inputCfg s i).holdOff * 2000000)) ∧
        ((s.records[i].state = .ready ∨ s.records[i].state = .active) ∧ (inputCfg s i).holdOff = 0 ∨
            s.records[i].state = .proving ∨ s.records[i].state = .barred →
          t.records[i].state = .barred ∧ t.records[i].reasons = { s.records[i].reasons with signal := true } ∧
          t.records[i].hardSeen = true ∧ t.records[i].wtr = .none ∧ t.records[i].holdOff = none ∧
          t.records[i].origin = none) ∧
        (s.records[i].state ≠ .barred → t.records[i].state = .barred → s.log.records.length < 32 →
          s.log.records ++ [{ uptime := s.log.uptime, kind := .inputBarred, arg1 := BitVec.ofNat 8 (i.val + 1)
                              arg2 := 0x01 }] <+: t.log.records) ∧
        (SelectionLaw s → s.records[i].state = .ready → 0 < (inputCfg s i).holdOff → t.selector.active ≠ some i →
          t.records[i].origin = some .ready) ∧
        (SelectionLaw s → Settled s → s.records[i].state = .active → 0 < (inputCfg s i).holdOff →
          t.records[i].origin = some .active ∧ t.selector = s.selector ∧ t.log = s.log ∧
          synthCommand t = .holdAt (outputOffset s) ∧
          (s.follower.output = .acquiring →
            t.follower = { s.follower with output := .bridging, bridging := some .acquiring, settle := none }) ∧
          (s.follower.output = .locked → s.follower.history.length ≠ 16 →
            t.follower = { s.follower with output := .bridging, bridging := some .locked }) ∧
          (s.follower.output = .locked → s.follower.history.length = 16 →
            t.follower = { s.follower with
              output := .bridging, bridging := some .locked, value := t.follower.value } ∧ ValueMade i s t))) ∧
      (s.monitors[i].signal = true → t.monitors[i].signal = false →
        (s.records[i].state = .suspect →
          (t.records[i].state = .ready ∨ t.records[i].state = .active) ∧ t.records[i].reasons = Reasons.empty ∧
          t.records[i].hardSeen = false ∧ t.records[i].wtr = .none ∧ t.records[i].holdOff = none ∧
          t.records[i].origin = none ∧
          (SelectionLaw s → s.records[i].origin = some .ready →
            (t.selector.active ≠ some i → t.records[i].state = .ready) ∧
            (t.selector.active = some i → t.records[i].state = .active)) ∧
          (SelectionLaw s → Settled s → s.records[i].origin = some .active →
            t.records[i].state = .active ∧ t.selector = s.selector ∧ t.log = s.log ∧ synthCommand t = .follow i ∧
            (s.follower.bridging = some .locked →
              t.follower = { s.follower with output := .locked, bridging := none }) ∧
            (s.follower.bridging = some .acquiring →
              t.follower = { s.follower with
                output := .acquiring, bridging := none, settle := some ((cfg s).settle * 20000000) }))) ∧
        (s.records[i].state = .barred → { s.records[i].reasons with signal := false } ≠ Reasons.empty →
          t.records[i].state = .barred ∧ t.records[i].reasons = { s.records[i].reasons with signal := false } ∧
          t.records[i].hardSeen = s.records[i].hardSeen) ∧
        (s.records[i].state = .barred → s.records[i].reasons = { Reasons.empty with signal := true } →
          t.records[i].state = .proving ∧ t.records[i].reasons = Reasons.empty ∧ t.records[i].hardSeen = false ∧
          t.records[i].wtr = if (inputCfg s i).wtr = 0 then .served else .running 0)) ∧
      t.records[i].raw = s.records[i].raw ∧ t.records[i].effective = s.records[i].effective ∧
      t.records[i].hop = s.records[i].hop ∧ t.records[i].path = s.records[i].path ∧ SameOthers i s t

/-- R29: the windowed offset is D × 12,500,000 / F, rounded once, half away from zero, and then clamped; a clamped
offset fails the absolute check at every pull limit below 32767 and passes it at 32767; and the table of the rule, each
row the frequency, one edge in thousandths of an offset unit, and the largest difference that does not clamp. -/
def Obligations.WindowedOffsetRounds : Prop :=
  ∀ (window : List Nat) (freq : Nat),
    0 < freq →
    (∃ r : Int, RoundedTo r (((window.sum : Int) - 8 * freq) * 12500000) freq ∧
      windowedOffset window freq = max (-32767) (min 32767 r)) ∧
    (-32767 ≤ windowedOffset window freq ∧ windowedOffset window freq ≤ 32767) ∧
    (windowedOffset window freq = 32767 ∨ windowedOffset window freq = -32767 →
      (∀ pull : Nat, pull < 32767 → absoluteFails false pull (windowedOffset window freq) = true) ∧
      absoluteFails false 32767 (windowedOffset window freq) = false) ∧
    (∀ row ∈ [(8000, 1562500, 20), (1544000, 8096, 4047), (2048000, 6104, 5368), (10000000, 1250, 26213),
        (100000000, 125, 262139)],
      RoundedTo (row.2.1 : Nat) (12500000 * 1000) row.1 ∧
      (freq = row.1 → (((window.sum : Int) - 8 * freq).natAbs ≤ row.2.2 ↔
        RoundedTo (windowedOffset window freq) (((window.sum : Int) - 8 * freq) * 12500000) freq)))

/-- R23 to R26, R28 to R31, R54, R64, R68: a gate completion in a LOSC cycle in which no 1 ms point is due. The count,
saturated, joins the window, whose last 8 stay; the next gate starts; and a completion that leaves the window full
replaces the last offset by the windowed offset, while any other leaves the offset, FREQ and the check as they were. A
completion that leaves the window full and FREQ clear moves a PROVING input whose WTR status is SERVED, MET or WAIVED to
READY, or ACTIVE when the Selector takes it in the event, and records INPUT_READY with that status; one whose WTR runs
stays. With a 1 ms point due, that point is taken first, and nothing completes before it; the rule says so of the point
that raises SIGNAL, and that any other due point comes first too is the model's choice (notes/assumptions/1.md). -/
def Obligations.GateCompletionMeasures : Prop :=
  ∀ (i : Inp) (edges : Nat) (s : State),
    (20000 ≤ s.monitors[i].msPhase → exec (.gateCompletion i edges) s = .next s) ∧
    (measuring s i = true → s.monitors[i].gate.run = true → s.monitors[i].msPhase < 20000 →
    s.monitors[i].window.length ≤ 8 →
    Answers (.gateCompletion i edges) s fun t =>
      t.monitors[i].window <:+ s.monitors[i].window ++ [min 268435455 (s.monitors[i].gate.edges + edges)] ∧
      t.monitors[i].window.length = min 8 (s.monitors[i].window.length + 1) ∧
      t.monitors[i].gate.run = true ∧ t.monitors[i].gate.elapsed = 0 ∧ t.monitors[i].gate.edges = 0 ∧
      (t.monitors[i].window.length = 8 →
        t.monitors[i].lastOffset = some (windowedOffset t.monitors[i].window (inputCfg s i).freq)) ∧
      (t.monitors[i].window.length ≠ 8 →
        t.monitors[i].lastOffset = s.monitors[i].lastOffset ∧ t.monitors[i].freq = s.monitors[i].freq ∧
        t.monitors[i].check = s.monitors[i].check) ∧
      { t.monitors[i] with
          gate := s.monitors[i].gate, window := s.monitors[i].window, lastOffset := s.monitors[i].lastOffset,
          freq := s.monitors[i].freq, check := s.monitors[i].check } = s.monitors[i] ∧
      InputEventFrame i s t ∧ t.port = s.port) ∧
    (measuring s i = true → s.monitors[i].gate.run = true → s.monitors[i].msPhase < 20000 → RecordsLawful s →
    SelectionLaw s → s.records[i].state = .proving → s.monitors[i].window.length = 7 ∨ s.monitors[i].window.length = 8 →
    Answers (.gateCompletion i edges) s fun t => t.monitors[i].freq = false →
      ((∃ n : Nat, s.records[i].wtr = .running n) → t.records[i] = s.records[i]) ∧
      (s.records[i].wtr = .served ∨ s.records[i].wtr = .met ∨ s.records[i].wtr = .waived →
        (t.records[i].state = .ready ∨ t.records[i].state = .active) ∧ t.records[i].wtr = .none ∧
        OnlySelected { s.records[i] with wtr := .none } t.records[i] ∧
        (s.log.records.length < 32 →
          s.log.records ++ [{ uptime := s.log.uptime, kind := .inputReady, arg1 := BitVec.ofNat 8 (i.val + 1)
                              arg2 := passStatus s.records[i] }] <+: t.log.records)))

/-- R33, R34, R35, R93, R99: the frequency check at a completion that leaves the window full, by the table of R35, with
the output offset, the active input and warm-up as they stand at the completion; the output offset by its own table; and
the synthesizer's command by the output state, in the event that brings it. -/
def Obligations.FrequencyCheckTable : Prop :=
  ∀ (i : Inp) (edges : Nat) (s : State),
    (s.follower.output = .freeRun → outputOffset s = 0) ∧
    (s.follower.output = .holdover → outputOffset s = s.follower.value.value) ∧
    (s.follower.output ≠ .freeRun → s.follower.output ≠ .holdover → ∀ (a : Inp) (n : Int),
      s.selector.active = some a → s.monitors[a].lastOffset = some n → outputOffset s = n) ∧
    (s.follower.output = .freeRun → synthCommand s = .uncorrected) ∧
    (s.follower.output = .holdover → synthCommand s = .corrected s.follower.value.value) ∧
    (s.follower.output = .bridging → synthCommand s = .holdAt (outputOffset s)) ∧
    (s.follower.output = .acquiring ∨ s.follower.output = .locked → ∀ a : Inp, s.selector.active = some a →
      synthCommand s = .follow a) ∧
    (measuring s i = true → s.monitors[i].gate.run = true → s.monitors[i].msPhase < 20000 →
    s.monitors[i].window.length = 7 ∨ s.monitors[i].window.length = 8 → (cfg s).accept ≤ (cfg s).reject →
    Answers (.gateCompletion i edges) s fun t =>
      ∃ offset : Int, t.monitors[i].lastOffset = some offset ∧
      (let fails : Bool := !s.follower.warm && decide ((cfg s).pull < offset.natAbs)
       let applies : Bool := decide (s.selector.active ≠ some i ∧ s.follower.output ≠ .freeRun)
       let gap : Nat := (offset - outputOffset s).natAbs
       (fails = true → applies = true → (cfg s).reject < gap →
          t.monitors[i].freq = true ∧ t.monitors[i].check = .both) ∧
       (fails = true → (applies = false ∨ gap ≤ (cfg s).reject) →
          t.monitors[i].freq = true ∧ t.monitors[i].check = .absolute) ∧
       (fails = false → applies = true → (cfg s).reject < gap →
          t.monitors[i].freq = true ∧ t.monitors[i].check = .relative) ∧
       (fails = false → (applies = false ∨ gap ≤ (cfg s).accept) →
          t.monitors[i].freq = false ∧ t.monitors[i].check = .clear) ∧
       (fails = false → applies = true → (cfg s).accept < gap → gap ≤ (cfg s).reject →
          t.monitors[i].freq = s.monitors[i].freq ∧ t.monitors[i].check = .hold)))

/-- R37, R46, R47, R52, R54, R64: what a change of FREQ does to a used input in the completion that brings it. FREQ
arising bars it with hard-seen set, from every state, and records INPUT_BARRED of one that was not BARRED, and no active
input is left that it bars; FREQ clearing alone sends a BARRED input to PROVING with its WTR to serve, or on when the
WTR is 0. -/
def Obligations.FreqMovesInput : Prop :=
  ∀ (i : Inp) (edges : Nat) (s : State),
    measuring s i = true → s.monitors[i].gate.run = true → s.monitors[i].msPhase < 20000 →
    RecordsLawful s → SelectionLaw s → s.records[i].state ≠ .off →
    s.monitors[i].window.length = 7 ∨ s.monitors[i].window.length = 8 →
    Answers (.gateCompletion i edges) s fun t =>
      (s.monitors[i].freq = false → t.monitors[i].freq = true →
        t.records[i].state = .barred ∧ t.records[i].reasons = { s.records[i].reasons with freq := true } ∧
        t.records[i].hardSeen = true ∧ t.records[i].holdOff = none ∧ t.records[i].wtr = .none ∧
        t.records[i].origin = none ∧ t.selector.active ≠ some i ∧ t.selector.force ≠ .input i ∧
        (s.records[i].state ≠ .barred → s.log.records.length < 32 →
          s.log.records ++ [{ uptime := s.log.uptime, kind := .inputBarred, arg1 := BitVec.ofNat 8 (i.val + 1)
                              arg2 := BitVec.ofNat 8 t.records[i].reasons.bits }] <+: t.log.records)) ∧
      (s.monitors[i].freq = true → t.monitors[i].freq = false → s.records[i].state = .barred →
        ({ s.records[i].reasons with freq := false } ≠ Reasons.empty →
          t.records[i].state = .barred ∧ t.records[i].reasons = { s.records[i].reasons with freq := false }) ∧
        ({ s.records[i].reasons with freq := false } = Reasons.empty → s.records[i].hardSeen = true →
          ((inputCfg s i).wtr ≠ 0 → t.records[i].state = .proving ∧ t.records[i].wtr = .running 0) ∧
          ((inputCfg s i).wtr = 0 → t.records[i].state = .ready ∨ t.records[i].state = .active)))

/-- R100, R101: the windowed offset of the active input joins the history, whose last 16 stay, exactly when the output
is LOCKED, the window is full, FREQ is clear after the check and warm-up does not run; the shelf stays where it is. -/
def Obligations.HistoryTakesOffsets : Prop :=
  ∀ (i : Inp) (edges : Nat) (s : State),
    measuring s i = true → s.monitors[i].gate.run = true → s.monitors[i].msPhase < 20000 →
    RecordsLawful s → SelectionLaw s → BusLaw s →
    s.selector.active = some i → s.follower.output = .locked ∨ s.follower.output = .acquiring →
    s.follower.history.length ≤ 16 → s.monitors[i].window.length ≤ 8 →
    Answers (.gateCompletion i edges) s fun t =>
      t.monitors[i].freq = false →
        t.records[i] = s.records[i] ∧ t.selector = s.selector ∧ t.log = s.log ∧ t.bus = s.bus ∧
        { t.follower with history := s.follower.history } = s.follower ∧
        (s.follower.output = .locked ∧ t.monitors[i].window.length = 8 ∧ s.follower.warm = false →
          t.follower.history <:+ s.follower.history ++ [windowedOffset t.monitors[i].window (inputCfg s i).freq] ∧
          t.follower.history.length = min 16 (s.follower.history.length + 1)) ∧
        (s.follower.output = .acquiring ∨ t.monitors[i].window.length ≠ 8 ∨ s.follower.warm = true →
          t.follower.history = s.follower.history)

/-! ### Input states -/

/-- R49: the hold-off of a SUSPECT input expires: it is BARRED with SIGNAL and hard-seen, INPUT_BARRED is recorded
first, and the shelf has left it. -/
def Obligations.HoldOffExpiryBars : Prop :=
  ∀ (i : Inp) (s : State),
    running s = true → RecordsLawful s → SelectionLaw s → s.records[i].state = .suspect →
    Answers (.holdOffExpiry i) s fun t =>
      t.records[i] = { s.records[i] with state := .barred, origin := none, hardSeen := true, holdOff := none } ∧
      t.records[i].reasons = { Reasons.empty with signal := true } ∧ t.selector.active ≠ some i ∧
      t.selector.force ≠ .input i ∧
      (s.log.records.length < 32 →
        s.log.records ++ [{ uptime := s.log.uptime, kind := .inputBarred, arg1 := BitVec.ofNat 8 (i.val + 1),
                            arg2 := 0x01 }] <+: t.log.records) ∧
      t.monitors = s.monitors ∧ InputEventFrame i s t ∧ t.port = s.port

/-- R53, R54: the WTR of a PROVING input expires: with a full window it becomes READY, or ACTIVE when the Selector takes
it in the event, and INPUT_READY is recorded with SERVED; otherwise it stays in PROVING with SERVED. -/
def Obligations.WtrExpiryServes : Prop :=
  ∀ (i : Inp) (elapsed : Nat) (s : State),
    running s = true → RecordsLawful s → SelectionLaw s → s.records[i].state = .proving →
    s.records[i].wtr = .running elapsed →
    Answers (.wtrExpiry i) s fun t =>
      (s.monitors[i].window.length = 8 →
        (t.records[i].state = .ready ∨ t.records[i].state = .active) ∧ t.records[i].wtr = .none ∧
        OnlySelected { s.records[i] with wtr := .none } t.records[i] ∧
        (s.log.records.length < 32 →
          s.log.records ++ [{ uptime := s.log.uptime, kind := .inputReady, arg1 := BitVec.ofNat 8 (i.val + 1),
                              arg2 := 0x02 }] <+: t.log.records)) ∧
      (s.monitors[i].window.length ≠ 8 →
        t.records[i] = { s.records[i] with wtr := .served } ∧ t.selector = s.selector ∧ t.follower = s.follower ∧
        t.log = s.log) ∧
      t.monitors = s.monitors ∧ InputEventFrame i s t ∧ t.port = s.port

/-- R62, R64: LOCKOUT. Its result by the number and the part; with DONE, a used input holds LOCKOUT and is BARRED from
every state, INPUT_BARRED recorded of one that was not, is no longer active, and a force that names it is gone; with any
other result only the port's answer changes. -/
def Obligations.LockoutBars : Prop :=
  ∀ (n : Byte) (s : State),
    s.hold = none → RecordsLawful s → SelectionLaw s →
    Answers (.lockout n) s fun t =>
      (¬(1 ≤ n.toNat ∧ n.toNat ≤ 6) → t = { s with port := answeredPort s.port [0x00, 0x00, 0xA2] }) ∧
      (∀ i : Inp, n.toNat = i.val + 1 →
        (measuring s i = false → t = { s with port := answeredPort s.port [0x00, 0x00, 0xA1] }) ∧
        (measuring s i = true →
          t.port.sdo = [0x00, 0x00, 0xA0] ∧ t.port.snapshot = s.port.snapshot ∧ t.monitors = s.monitors ∧
          InputEventFrame i s t ∧
          (s.records[i].state ≠ .off →
            t.records[i].state = .barred ∧ t.records[i].reasons = { s.records[i].reasons with lockout := true } ∧
            t.records[i].holdOff = none ∧ t.records[i].wtr = .none ∧ t.selector.active ≠ some i ∧
            (s.records[i].reasons.lockout = false → t.selector.force ≠ .input i) ∧
            t.records[i].hardSeen = (s.records[i].hardSeen || s.records[i].reasons.signal ||
              s.records[i].reasons.freq) ∧
            (s.records[i].state ≠ .barred → s.log.records.length < 32 →
              s.log.records ++ [{ uptime := s.log.uptime, kind := .inputBarred, arg1 := BitVec.ofNat 8 (i.val + 1)
                                  arg2 := BitVec.ofNat 8 t.records[i].reasons.bits }] <+: t.log.records))))

/-- R63, R52, R54: RELEASE. Its result by the number and the part; with DONE, LOCKOUT leaves the set, a BARRED input
with other reasons stays BARRED, and one with none goes to PROVING, and on to READY when its WTR is met and its window
full. -/
def Obligations.ReleaseFrees : Prop :=
  ∀ (n : Byte) (s : State),
    s.hold = none → RecordsLawful s → SelectionLaw s →
    Answers (.release n) s fun t =>
      (¬(1 ≤ n.toNat ∧ n.toNat ≤ 6) → t = { s with port := answeredPort s.port [0x00, 0x00, 0xA2] }) ∧
      (∀ i : Inp, n.toNat = i.val + 1 →
        (measuring s i = false → t = { s with port := answeredPort s.port [0x00, 0x00, 0xA1] }) ∧
        (measuring s i = true →
          t.port.sdo = [0x00, 0x00, 0xA0] ∧ t.port.snapshot = s.port.snapshot ∧ t.monitors = s.monitors ∧
          InputEventFrame i s t ∧
          (s.records[i].reasons.lockout = false → t.records = s.records ∧ t.selector = s.selector ∧ t.log = s.log) ∧
          (s.records[i].state = .barred → s.records[i].reasons.lockout = true →
            ({ s.records[i].reasons with lockout := false } ≠ Reasons.empty →
              t.records[i].state = .barred ∧ t.records[i].hardSeen = s.records[i].hardSeen ∧
              t.records[i].reasons = { s.records[i].reasons with lockout := false }) ∧
            ({ s.records[i].reasons with lockout := false } = Reasons.empty →
              t.records[i].reasons = Reasons.empty ∧ t.records[i].hardSeen = false ∧
              (s.records[i].hardSeen = true → (inputCfg s i).wtr ≠ 0 →
                t.records[i].state = .proving ∧ t.records[i].wtr = .running 0) ∧
              (s.records[i].hardSeen = false → s.monitors[i].window.length ≠ 8 →
                t.records[i].state = .proving ∧ t.records[i].wtr = .met) ∧
              (s.records[i].hardSeen = false → s.monitors[i].window.length = 8 →
                (t.records[i].state = .ready ∨ t.records[i].state = .active) ∧ t.records[i].wtr = .none ∧
                (s.log.records.length < 32 →
                  s.log.records ++ [{ uptime := s.log.uptime, kind := .inputReady,
                                      arg1 := BitVec.ofNat 8 (i.val + 1), arg2 := 0x03 }] <+: t.log.records))))))

/-! ### Output Follower and holdover -/

/-- R95, R110: the settle timer expires: the output goes from ACQUIRING to LOCKED and OUTPUT_LOCKED is recorded with the
active input and its effective grade; nothing else changes. A timer with time left, as a take of the same moment starts
it, does not expire. -/
def Obligations.SettleExpiryLocks : Prop :=
  ∀ (i : Inp) (left : Nat) (s : State),
    (running s = true → s.follower.output = .acquiring → s.follower.settle = some 0 → s.selector.active = some i →
    exec .settleExpiry s = .next { s with
      follower := { s.follower with output := .locked, settle := none }
      log := if s.log.records.length < 32 then
          { s.log with records := s.log.records ++
              [{ uptime := s.log.uptime, kind := .outputLocked, arg1 := BitVec.ofNat 8 (i.val + 1),
                 arg2 := BitVec.ofNat 8 s.records[i].effective }] }
        else { s.log with overflow := true } }) ∧
    (s.follower.settle = none ∨ s.follower.settle = some (left + 1) → exec .settleExpiry s = .next s)

/-- R104, R87, R102: the holdover value expires. The record becomes invalid and HOLDOVER_EXPIRED is recorded with its
base grade and the output state; in HOLDOVER the output leaves it, a force to HOLDOVER is cleared, and the shelf takes
the input that ranks first under the floor grade, or runs free; in a locked state nothing else moves. A record that has
not come to the limit, as one computed in the same moment, does not expire; that the row is taken with the age one cycle
short of the limit is the model's choice (notes/assumptions/3.md). -/
def Obligations.ValueExpires : Prop :=
  ∀ (s : State),
    (s.follower.value.valid = false ∨ s.follower.value.ageCycles + 1 < (cfg s).limit * 20000000 →
      exec .valueExpiry s = .next s) ∧
    (running s = true → s.follower.value.valid = true → RecordsLawful s → SelectionLaw s → BusLaw s →
    (cfg s).limit * 20000000 ≤ s.follower.value.ageCycles + 1 →
    Answers .valueExpiry s fun t =>
      t.follower.value.valid = false ∧ t.follower.value.value = 0 ∧ t.follower.value.base = 15 ∧
      t.follower.value.ageCycles = 0 ∧ t.follower.value.source = none ∧
      (s.log.records.length < 32 →
        s.log.records ++ [{ uptime := s.log.uptime, kind := .holdoverExpired,
                            arg1 := BitVec.ofNat 8 s.follower.value.base,
                            arg2 := BitVec.ofNat 8 s.follower.output.code }] <+: t.log.records) ∧
      (s.follower.output = .holdover →
        t.follower.output ≠ .holdover ∧ t.selector.force = .none ∧
        t.selector.active = bestInput { s with
          follower := { s.follower with output := .freeRun, value := t.follower.value } }) ∧
      (s.follower.output ≠ .holdover →
        t = { s with follower := { s.follower with value := t.follower.value }, log := t.log }) ∧
      SamePart s t ∧ LogGrown s t ∧ SameAnnouncer s t ∧ SameBus s t ∧ SameWarm s t ∧ t.peers = s.peers ∧
      t.monitors = s.monitors ∧ t.port = s.port ∧ (∀ j : Inp, OnlySelected s.records[j] t.records[j]))

/-- R105: the value's age reaches the step age that lies one cycle on, below the limit, and nothing else of the value
changes; where the output is not HOLDOVER nothing else of the state changes either. At any other age no step age is
reached. That the row is taken one cycle short of the step age, and takes the one that comes next, is the model's
reading (notes/assumptions/3.md, 19.md). -/
def Obligations.StepAgeIsReached : Prop :=
  ∀ (age : Nat) (s : State),
    (s.follower.value.valid = false ∨
      (∀ a ∈ [(cfg s).age1, (cfg s).age2, (cfg s).age3], s.follower.value.ageCycles + 1 ≠ a * 20000000) ∨
      (cfg s).limit * 20000000 ≤ s.follower.value.ageCycles + 1 → exec .stepAgeReached s = .next s) ∧
    (running s = true → s.follower.value.valid = true → RecordsLawful s → SelectionLaw s → BusLaw s →
    age ∈ [(cfg s).age1, (cfg s).age2, (cfg s).age3] → s.follower.value.ageCycles + 1 = age * 20000000 →
    age < (cfg s).limit →
    Answers .stepAgeReached s fun t =>
      t.follower.value = { s.follower.value with ageCycles := age * 20000000 } ∧ t.follower.value.age = age ∧
      (s.follower.output ≠ .holdover → t = { s with follower := { s.follower with value := t.follower.value } }) ∧
      SamePart s t ∧ LogGrown s t ∧ SameAnnouncer s t ∧ SameBus s t ∧ SameWarm s t ∧ t.peers = s.peers ∧
      t.monitors = s.monitors ∧ t.port = s.port ∧ (∀ j : Inp, OnlySelected s.records[j] t.records[j]))

/-- R103, R105: the holdover grade of a schedule as the Image Loader leaves it: the base grade worsened by the last step
the age has reached, capped at the floor grade; it never gets better with age. And the holdover value is the sum of the
16 offsets divided by 16, rounded once, half away from zero, and lies in the range of an offset. -/
def Obligations.HoldoverGradeSteps : Prop :=
  ∀ (c : Image) (base age later : Nat) (history : List Int),
    (history.length = 16 → (∀ n ∈ history, OffsetInRange n) →
      RoundedTo (holdoverMean history) history.sum 16 ∧ OffsetInRange (holdoverMean history) ∧
      (-524272 ≤ history.sum ∧ history.sum ≤ 524272)) ∧
    (c.age1 ≤ c.age2 → c.age2 ≤ c.age3 → c.grade1 ≤ c.grade2 → c.grade2 ≤ c.grade3 → age ≤ later →
    (age < c.age1 → holdoverGradeAt c base age = min base c.floor) ∧
    (c.age1 ≤ age → age < c.age2 → holdoverGradeAt c base age = min (max base c.grade1) c.floor) ∧
    (c.age2 ≤ age → age < c.age3 → holdoverGradeAt c base age = min (max base c.grade2) c.floor) ∧
    (c.age3 ≤ age → holdoverGradeAt c base age = min (max base c.grade3) c.floor) ∧
    holdoverGradeAt c base age ≤ holdoverGradeAt c base later ∧
    min base c.floor ≤ holdoverGradeAt c base age ∧ holdoverGradeAt c base age ≤ c.floor)

/-- R107, R108: warm-up ends: the flag is cleared, WARMUP_DONE is recorded with the configured length, and the Selector
has evaluated. -/
def Obligations.WarmupEnds : Prop :=
  ∀ (s : State),
    running s = true → s.follower.warm = true → RecordsLawful s → SelectionLaw s →
    Answers .warmupEnd s fun t =>
      t.follower.warm = false ∧ (cfg s).warmup ≤ t.follower.warmCount ∧ Settled t ∧
      (s.log.records.length < 32 →
        s.log.records ++ [{ uptime := s.log.uptime, kind := .warmupDone,
                            arg1 := BitVec.ofNat 8 ((cfg s).warmup / 256),
                            arg2 := BitVec.ofNat 8 ((cfg s).warmup % 256) }] <+: t.log.records) ∧
      SamePart s t ∧ LogGrown s t ∧ SameAnnouncer s t ∧ SameBus s t ∧ t.peers = s.peers ∧ t.monitors = s.monitors ∧
      t.port = s.port ∧ (∀ j : Inp, OnlySelected s.records[j] t.records[j])

/-! ### The Event Log -/

/-- R182: the log takes what fits. One record is appended at the end, or, with 32 held, discarded with OVERFLOW set; and
whatever a command appends to an empty log, it appends to any other up to 32 records, each later one discarded with
OVERFLOW set. Beside the log itself, what the log holds changes nothing of what a command does, but for POP EVENT and
READ, which show it. -/
def Obligations.LogTakesWhatFits : Prop :=
  ∀ (c : Instr) (kind : EventKind) (a b : Nat) (s : State),
    (s.log.records.length < 32 → (logEvent kind a b s).log = { s.log with
      records := s.log.records ++
        [{ uptime := s.log.uptime, kind := kind, arg1 := BitVec.ofNat 8 a, arg2 := BitVec.ofNat 8 b }] }) ∧
    (32 ≤ s.log.records.length → (logEvent kind a b s).log = { s.log with overflow := true }) ∧
    (s.log.records.length ≤ 32 → c ≠ .popEvent → (∀ (place : ReadFrom) (n : Nat), c ≠ .read place n) →
      Answers c s fun t => running t = true →
        Answers c { s with log := { s.log with records := [], overflow := false } } fun u =>
          t = { u with log := { u.log with
            records := (s.log.records ++ u.log.records).take 32
            overflow := s.log.overflow || decide (32 < s.log.records.length + u.log.records.length) } })

/-! ### The value of a lost input -/

/-- R94, R96, R98, R102: whatever event ends a LOCKED output with 16 offsets, the value is computed in it from those
offsets, with the input's effective grade after the event, age 0 and the input as source, whether the output then
bridges with its history kept, or leaves the input with its history cleared: for another input that the Selector takes,
or for HOLDOVER. So it is when SIGNAL arises, by a window without an edge or by the LOS line, when FREQ arises, at
LOCKOUT, at a FORCE to HOLDOVER or to another input, and when the bound station's entry goes STALE, which makes the base
grade 15. -/
def Obligations.ValueComputedOnLoss : Prop :=
  ∀ (c : Instr) (i : Inp) (high edge : Bool) (edges : Nat) (n : Byte) (k : Slot) (s : State),
    running s = true → RecordsLawful s → SelectionLaw s → s.selector.active = some i →
    s.follower.output = .locked → s.follower.history.length = 16 →
    (Answers c s fun t => running t = true →
      (t.selector.active ≠ some i → ValueMade i s t ∧ t.follower.history = [] ∧ t.follower.output ≠ .freeRun) ∧
      (t.selector.active = some i → t.follower.output ≠ .locked → ValueMade i s t ∧
        t.follower.output = .bridging ∧ t.follower.bridging = some .locked ∧
        t.follower.history = s.follower.history ∧ t.records[i].origin = some .active) ∧
      (t.records[i].state = .barred → t.selector.active ≠ some i) ∧
      (t.records[i].state = .suspect → ValueMade i s t)) ∧
    (measuring s i = true → s.monitors[i].signal = false →
      edge = false ∨ (7 ≤ s.monitors[i].losCount ∧
        ((inputCfg s i).losMode = .activeHigh ∧ s.monitors[i].losLevel = false ∧ high = true ∨
          (inputCfg s i).losMode = .activeLow ∧ s.monitors[i].losLevel = true ∧ high = false)) →
      Answers (.msPoint i high edge) s fun t =>
        ValueMade i s t ∧ t.follower.value.base = s.records[i].effective ∧
        (0 < (inputCfg s i).holdOff → t.selector.active = some i →
          t.follower.output = .bridging ∧ t.follower.bridging = some .locked ∧
          t.follower.history = s.follower.history ∧ t.records[i].origin = some .active) ∧
        ((inputCfg s i).holdOff = 0 → t.selector.active ≠ some i ∧ t.follower.history = [])) ∧
    (measuring s i = true → s.monitors[i].freq = false → Answers (.gateCompletion i edges) s fun t =>
      t.monitors[i].freq = true → ValueMade i s t ∧ t.follower.value.base = s.records[i].effective ∧
        t.selector.active ≠ some i) ∧
    (measuring s i = true → n.toNat = i.val + 1 → Answers (.lockout n) s fun t =>
      ValueMade i s t ∧ t.follower.value.base = s.records[i].effective ∧ t.selector.active ≠ some i) ∧
    (n.toNat = 7 → Answers (.force n) s fun t =>
      ValueMade i s t ∧ t.follower.output = .holdover ∧ t.selector.active = none) ∧
    (∀ j : Inp, j ≠ i → n.toNat = j.val + 1 → s.records[j].state = .ready → Answers (.force n) s fun t =>
      ValueMade i s t ∧ t.follower.output = .acquiring ∧ t.selector.active = some j) ∧
    (LoaderLaw s → (inputCfg s i).use = .peer → (inputCfg s i).bound = k.val + 1 →
      (∃ e ∈ s.peers.entries[k], e.state = .fresh ∧ 3 * e.interval * 20000000 ≤ e.ageCycles + 1) →
      Answers (.entryStale k) s fun t =>
        ValueMade i s t ∧ t.follower.value.base = 15 ∧ t.selector.active ≠ some i)

/-! ### The Selector -/

/-- R73: the input the Selector ranks first is in the eligible set and ahead of every other input of it by the four
keys; there is none exactly when the set is empty; the ranking is a strict order of the inputs; and a FIXED input has
hop count 0 and an eligible PEER input at least 1. -/
def Obligations.FirstRankedInput : Prop :=
  ∀ (s : State),
    (∀ b : Inp, bestInput s = some b ↔
      InEligibleSet s b ∧ ∀ j : Inp, InEligibleSet s j → j ≠ b → RanksFirst s b j) ∧
    (bestInput s = none ↔ ∀ j : Inp, ¬InEligibleSet s j) ∧
    (∀ i j : Inp, i ≠ j → (RanksFirst s i j ↔ ¬RanksFirst s j i)) ∧ (∀ i : Inp, ¬RanksFirst s i i) ∧
    (∀ i j k : Inp, RanksFirst s i j → RanksFirst s j k → RanksFirst s i k) ∧
    (running s = true → Agreement s → TableLaw s → ∀ j : Inp,
      ((inputCfg s j).use = .fixed → s.records[j].hop = 0) ∧
      ((inputCfg s j).use = .peer → InEligibleSet s j → 1 ≤ s.records[j].hop))

/-- R74, R75, R77: the decision, step by step: a force; the own oscillator when nothing is eligible, HOLDOVER when a
value is available and FREE_RUN otherwise; an eligible active input keeps its place against an equal grade unless the
station is revertive; and otherwise the first-ranked input. -/
def Obligations.DecisionTakesFourSteps : Prop :=
  ∀ (barred : Bool) (s : State),
    (∀ f : Inp, s.selector.force = .input f → (decision s barred).1 = .input f) ∧
    (s.selector.force = .holdover → (decision s barred).1 = .holdover) ∧
    (s.selector.force = .none →
      ((∀ j : Inp, ¬InEligibleSet s j) →
        (s.follower.output = .freeRun → (decision s barred).1 = .freeRun) ∧
        (s.follower.output = .holdover → (decision s barred).1 = .holdover) ∧
        (s.follower.output ≠ .freeRun → s.follower.output ≠ .holdover →
          (s.follower.value.valid = true ∨ s.follower.output = .locked ∧ s.follower.history.length = 16 →
            (decision s barred).1 = .holdover) ∧
          (s.follower.value.valid = false → s.follower.output ≠ .locked ∨ s.follower.history.length ≠ 16 →
            (decision s barred).1 = .freeRun))) ∧
      (∀ b : Inp, InEligibleSet s b → (∀ j : Inp, InEligibleSet s j → j ≠ b → RanksFirst s b j) →
        (∀ a : Inp, s.selector.active = some a → InEligibleSet s a →
          (s.records[b].effective < s.records[a].effective ∨ (cfg s).revertive = true →
            (decision s barred).1 = .input b) ∧
          (¬s.records[b].effective < s.records[a].effective → (cfg s).revertive = false →
            (decision s barred).1 = .input a)) ∧
        ((∀ a : Inp, s.selector.active = some a → ¬InEligibleSet s a) → (decision s barred).1 = .input b)))

/-- R83, R84, R88, R94: FORCE and UNFORCE. A forced READY or ACTIVE input is the active input at once, the output
ACQUIRING it for the configured settle time, and the synthesizer following it, when it is newly taken, and a forced
HOLDOVER with a value available is the output state at once; a REFUSED or INVALID one changes only the port's answer.
UNFORCE clears a force and the Selector decides anew; with no force it changes nothing. That the forced input itself,
while SUSPECT, is answered REFUSED is the model's choice (notes/assumptions/26.md). -/
def Obligations.ForceHoldsTheShelf : Prop :=
  ∀ (n : Byte) (s : State),
    s.hold = none → RecordsLawful s → SelectionLaw s →
    (Answers (.force n) s fun t =>
      (¬(1 ≤ n.toNat ∧ n.toNat ≤ 7) → t = { s with port := answeredPort s.port [0x00, 0x00, 0xA2] }) ∧
      (1 ≤ n.toNat ∧ n.toNat ≤ 7 → running s = false →
        t = { s with port := answeredPort s.port [0x00, 0x00, 0xA1] }) ∧
      (running s = true → ∀ i : Inp, n.toNat = i.val + 1 →
        (s.records[i].state = .ready ∨ s.records[i].state = .active →
          t.port.sdo = [0x00, 0x00, 0xA0] ∧ t.selector.force = .input i ∧ t.selector.active = some i ∧
          t.records[i].state = .active ∧ (s.selector.active ≠ some i → TakeMade i t)) ∧
        (s.records[i].state ≠ .ready → s.records[i].state ≠ .active →
          t = { s with port := answeredPort s.port [0x00, 0x00, 0xA1] })) ∧
      (running s = true → n.toNat = 7 →
        (s.follower.value.valid = true ∨ s.follower.output = .locked ∧ s.follower.history.length = 16 →
          t.port.sdo = [0x00, 0x00, 0xA0] ∧ t.selector.force = .holdover ∧ t.selector.active = none ∧
          t.follower.output = .holdover ∧ t.follower.value.valid = true) ∧
        (s.follower.value.valid = false → s.follower.output ≠ .locked ∨ s.follower.history.length ≠ 16 →
          t = { s with port := answeredPort s.port [0x00, 0x00, 0xA1] })) ∧
      SamePart s t ∧ LogGrown s t ∧ SameAnnouncer s t ∧ SameBus s t ∧ SameWarm s t ∧ t.peers = s.peers ∧
      t.monitors = s.monitors ∧ (∀ j : Inp, OnlySelected s.records[j] t.records[j])) ∧
    (Answers .unforce s fun t =>
      (running s = false → t = { s with port := answeredPort s.port [0x00, 0xA1] }) ∧
      (running s = true → s.selector.force = .none → t = { s with port := answeredPort s.port [0x00, 0xA0] }) ∧
      (running s = true → s.selector.force ≠ .none →
        t.port.sdo = [0x00, 0xA0] ∧ t.selector.force = .none ∧ Settled t) ∧
      SamePart s t ∧ LogGrown s t ∧ SameAnnouncer s t ∧ SameBus s t ∧ SameWarm s t ∧ t.peers = s.peers ∧
      t.monitors = s.monitors ∧ (∀ j : Inp, OnlySelected s.records[j] t.records[j]))

/-- R64, R82, R86, R87, R94, R14, R136: every event of a RUNNING part that changes the source appends SWITCHED, last of
its records and once, with the source before, the source after and the cause that the table of R82 gives, and no other
event appends it; an input newly taken is acquired for the configured settle time, the synthesizer following it, or,
SUSPECT, bridged with origin ACQUIRING; INPUT_BARRED is appended for exactly the inputs that the event bars, and
INPUT_READY for exactly those it passes to READY; a force that names an input which the event bars, and a force to
HOLDOVER whose value expires, are cleared and recorded by FORCE_CLEARED; and an event that changes the current content
to one that differs from the last transmitted sets the event flag, which any other event but a transmission start or a
completion leaves as it was. -/
def Obligations.SwitchesAreRecorded : Prop :=
  ∀ (c : Instr) (s : State),
    running s = true → RecordsLawful s → SelectionLaw s → s.log.records.length ≤ 20 →
    Answers c s fun t =>
      running t = true →
        (sourceOf s ≠ sourceOf t → ∃ cause : Byte,
          t.log.records.getLast? = some
            { uptime := s.log.uptime, kind := .switched, arg2 := cause
              arg1 := BitVec.ofNat 8 (16 * (sourceOf s).code + (sourceOf t).code) } ∧
          s.log.records.length < t.log.records.length ∧
          (∀ r ∈ (t.log.records.drop s.log.records.length).dropLast, r.kind ≠ .switched) ∧
          SwitchCause (c = .valueExpiry ∧ s.follower.output = .holdover) s t cause) ∧
        (sourceOf s = sourceOf t → ∀ r ∈ t.log.records.drop s.log.records.length, r.kind ≠ .switched) ∧
        (∀ j : Inp, t.selector.active = some j → s.selector.active ≠ some j → TakeMade j t) ∧
        appended .inputBarred s t = barredRecords s t ∧ appended .inputReady s t = readyRecords s t ∧
        (∀ f : Inp, s.selector.force = .input f → t.records[f].state = .barred →
          t.selector.force = .none ∧
            { uptime := s.log.uptime, kind := .forceCleared, arg1 := BitVec.ofNat 8 (f.val + 1), arg2 := 0x01 } ∈
              t.log.records.drop s.log.records.length) ∧
        (c = .valueExpiry → valueDue s = true → s.selector.force = .holdover →
          t.selector.force = .none ∧ { uptime := s.log.uptime, kind := .forceCleared, arg1 := 0x07, arg2 := 0x02 } ∈
            t.log.records.drop s.log.records.length) ∧
        (s.announcer.mode ≠ .off → c ≠ .transmissionStart → c ≠ .announceCompletion →
          t.announcer.eventFlag = (s.announcer.eventFlag || (decide (currentContent t ≠ currentContent s) &&
            decide (s.announcer.last ≠ some (currentContent t)))))

/-! ### Reception and the Peer Table -/

/-- R149 to R155: a frame is accepted exactly when it passes the eight checks, the content of an ANNOUNCE being judged
by R153 and the sequence by R155; and the checks stand in their order, each with the counter that a frame which fails it
and passed those before it is discarded into: source, own address, trust, kind and pairing, content, rate, sequence. -/
def Obligations.AcceptanceChecks : Prop :=
  ∀ (kind : Byte) (f : RxFrame) (s : State),
    (verdict s kind f = .accepted ↔
      ∃ k : Slot, f.source.toNat = k.val + 1 ∧ f.source.toNat ≠ s.loader.ownAddress ∧
        (cfg s).trust.getLsbD k.val = true ∧
        (kind = 0x02 ∧ f.payload = [] ∨ kind = 0x03 ∧ f.payload = [] ∧ f.dest = 0 ∨
          kind = 0x01 ∧ (5 ≤ f.payload.length ∧ f.payload.length ≤ 12) ∧ f.dest = 0 ∧
            ValidPayload f.source.toNat f.payload) ∧
        (∀ w ∈ s.peers.windows[k], w.count < 6) ∧
        (kind = 0x03 → s.peers.entries[k] ≠ none) ∧
        (kind ≠ 0x02 → ∀ e ∈ s.peers.entries[k], e.state = .fresh →
          (1 ≤ (f.seq - e.lastSeq).toNat ∧ (f.seq - e.lastSeq).toNat ≤ 127) ∨
          (kind = 0x01 ∧ 128 ≤ payloadByte f.payload 2))) ∧
    ((readAnnounce f.source.toNat f.payload).isSome = true ↔ ValidPayload f.source.toNat f.payload) ∧
    (¬(1 ≤ f.source.toNat ∧ f.source.toNat ≤ 24) → verdict s kind f = .malformed) ∧
    (∀ k : Slot, f.source.toNat = k.val + 1 →
      (f.source.toNat = s.loader.ownAddress → verdict s kind f = .ownSource) ∧
      (f.source.toNat ≠ s.loader.ownAddress →
        ((cfg s).trust.getLsbD k.val = false → verdict s kind f = .untrusted) ∧
        ((cfg s).trust.getLsbD k.val = true →
          (¬Pairing kind f → verdict s kind f = .malformed) ∧
          (Pairing kind f →
            (kind = 0x01 ∧ ¬ValidPayload f.source.toNat f.payload → verdict s kind f = .malformed) ∧
            ((kind = 0x01 → ValidPayload f.source.toNat f.payload) →
              ((∃ w ∈ s.peers.windows[k], 6 ≤ w.count) → verdict s kind f = .rate) ∧
              ((∀ w ∈ s.peers.windows[k], w.count < 6) →
                (¬SequenceFits kind f s.peers.entries[k] → verdict s kind f = .sequence) ∧
                (SequenceFits kind f s.peers.entries[k] → verdict s kind f = .accepted)))))))

/-- R118, R119, R124, R156, R161, R3 to R6: an accepted ANNOUNCE. The entry of its source is FRESH with what the frame
carries and age 0, its rate window counts it, the intact counter advances, and every input bound to the source takes its
grade, path and hop count in the same event; no other entry, window or discard counter changes. Another frame that was
in collection is abandoned and counted, and a rest that had run out is over. That characters collected before a frame
row are that frame's own where they are its first ones, with no gap after them, and another frame's otherwise, is the
model's choice (notes/assumptions/11.md). -/
def Obligations.AnnounceAccepted : Prop :=
  ∀ (f : RxFrame) (k : Slot) (a : Announced) (s : State),
    hears s f = true → intact 0x01 f = true → f.source.toNat = k.val + 1 → verdict s 0x01 f = .accepted →
    readAnnounce f.source.toNat f.payload = some a →
    Answers (.announceReceived f) s fun t =>
      t.peers = { s.peers with
        entries := s.peers.entries.set k (some
          { state := .fresh, lastSeq := f.seq, cls := a.content.cls, grade := a.content.grade,
            interval := a.content.interval, path := a.content.path, ageCycles := 0 })
        windows := s.peers.windows.set k (some
          { count := (s.peers.windows[k].map RateWindow.count).getD 0 + 1,
            left := (s.peers.windows[k].map RateWindow.left).getD 20000000 }) } ∧
      t.bus = { heardBus 0x01 f s.bus with tx := t.bus.tx, intact := min 65535 (s.bus.intact + 1) } ∧
      (∀ i : Inp, (inputCfg s i).use = .peer → (inputCfg s i).bound = k.val + 1 →
        t.records[i].raw = a.content.grade ∧
        t.records[i].effective = max a.content.grade (inputCfg s i).ceiling ∧
        t.records[i].path = a.content.path ∧ t.records[i].hop = a.content.path.length) ∧
      (∀ i : Inp, ¬((inputCfg s i).use = .peer ∧ (inputCfg s i).bound = k.val + 1) →
        OnlySelected s.records[i] t.records[i]) ∧
      SamePart s t ∧ LogGrown s t ∧ SameAnnouncer s t ∧ SameWarm s t ∧ t.monitors = s.monitors ∧ t.port = s.port

/-- R118, R119, R124, R154, R157: an accepted QUERY sets the query flag and changes no entry, whether it is directed to
the own address or to 0, and it counts in its source's rate window and as received intact. Another frame that was in
collection is abandoned and counted, and a rest that had run out is over. That characters collected before a frame row
are that frame's own where they are its first ones, with no gap after them, and another frame's otherwise, is the
model's choice (notes/assumptions/11.md). -/
def Obligations.QueryAccepted : Prop :=
  ∀ (f : RxFrame) (k : Slot) (s : State),
    hears s f = true → intact 0x02 f = true → f.source.toNat = k.val + 1 → verdict s 0x02 f = .accepted →
    Answers (.queryReceived f) s fun t =>
      t.announcer = { s.announcer with queryFlag := true } ∧
      t.peers = { s.peers with
        windows := s.peers.windows.set k (some
          { count := (s.peers.windows[k].map RateWindow.count).getD 0 + 1,
            left := (s.peers.windows[k].map RateWindow.left).getD 20000000 }) } ∧
      t.bus = { heardBus 0x02 f s.bus with tx := t.bus.tx, intact := min 65535 (s.bus.intact + 1) } ∧
      SamePart s t ∧ t.monitors = s.monitors ∧ t.records = s.records ∧ t.selector = s.selector ∧
      t.follower = s.follower ∧ t.log = s.log ∧ t.port = s.port

/-- R118, R119, R124, R158, R161: an accepted WITHDRAW makes its source's entry WITHDRAWN, with the frame's sequence and
age 0 and its content kept; PEER_WITHDRAWN is recorded first, and not at all when the entry was WITHDRAWN already; and
every input bound to the source has raw and effective grade 15 and keeps its path. Another frame that was in collection
is abandoned and counted, and a rest that had run out is over. That characters collected before a frame row are that
frame's own where they are its first ones, with no gap after them, and another frame's otherwise, is the model's choice
(notes/assumptions/11.md). -/
def Obligations.WithdrawAccepted : Prop :=
  ∀ (f : RxFrame) (k : Slot) (e : PeerEntry) (s : State),
    hears s f = true → intact 0x03 f = true → f.source.toNat = k.val + 1 → verdict s 0x03 f = .accepted →
    s.peers.entries[k] = some e → LoaderLaw s →
    Answers (.withdrawReceived f) s fun t =>
      t.peers = { s.peers with
        entries := s.peers.entries.set k (some { e with state := .withdrawn, lastSeq := f.seq, ageCycles := 0 })
        windows := s.peers.windows.set k (some
          { count := (s.peers.windows[k].map RateWindow.count).getD 0 + 1,
            left := (s.peers.windows[k].map RateWindow.left).getD 20000000 }) } ∧
      (e.state ≠ .withdrawn → s.log.records.length < 32 →
        s.log.records ++ [{ uptime := s.log.uptime, kind := .peerWithdrawn, arg1 := BitVec.ofNat 8 (k.val + 1),
                            arg2 := BitVec.ofNat 8 e.state.code }] <+: t.log.records) ∧
      (e.state = .withdrawn → appended .peerWithdrawn s t = []) ∧
      (∀ i : Inp, (inputCfg s i).use = .peer → (inputCfg s i).bound = k.val + 1 →
        t.records[i].raw = 15 ∧ t.records[i].effective = 15 ∧ t.records[i].path = e.path ∧
        t.records[i].hop = e.path.length ∧ (s.records[i].state ≠ .off →
          t.records[i].state = .barred ∧ t.records[i].reasons.grade = true)) ∧
      (∀ i : Inp, ¬((inputCfg s i).use = .peer ∧ (inputCfg s i).bound = k.val + 1) →
        OnlySelected s.records[i] t.records[i]) ∧
      t.bus = { heardBus 0x03 f s.bus with tx := t.bus.tx, intact := min 65535 (s.bus.intact + 1) } ∧
      SamePart s t ∧ LogGrown s t ∧ SameAnnouncer s t ∧ SameWarm s t ∧ t.monitors = s.monitors ∧ t.port = s.port

/-- R149 to R155, R119, R124, R128: a frame that is not accepted changes no entry and no input, and is counted once, in
the counter of the check it fails (which check that is, AcceptanceChecks says); one from the own address sets DUPLICATE,
silences the transmitter and is recorded, once; only a frame that reached the last check counts in its source's rate
window. Another frame that was in collection is abandoned and counted besides, and a rest that had run out is over. That
characters collected before a frame row are that frame's own where they are its first ones, with no gap after them, and
another frame's otherwise, is the model's choice (notes/assumptions/11.md). -/
def Obligations.DiscardedFrames : Prop :=
  ∀ (c : Instr) (kind : Byte) (f : RxFrame) (s : State),
    hears s f = true → intact kind f = true → verdict s kind f ≠ .accepted →
    c = .announceReceived f ∧ kind = 0x01 ∨ c = .queryReceived f ∧ kind = 0x02 ∨
      c = .withdrawReceived f ∧ kind = 0x03 ∨ c = .malformedFrame kind f ∧ knownKind kind = false →
    Answers c s fun t =>
      t.peers.entries = s.peers.entries ∧ t.bus.intact = min 65535 (s.bus.intact + 1) ∧
      t.bus.bad = (if verdict s kind f = .malformed then min 65535 ((heardBus kind f s.bus).bad + 1)
        else (heardBus kind f s.bus).bad) ∧
      t.peers.untrusted = (if verdict s kind f = .untrusted ∨ verdict s kind f = .ownSource
        then min 65535 (s.peers.untrusted + 1) else s.peers.untrusted) ∧
      t.peers.rateDiscarded = (if verdict s kind f = .rate then min 65535 (s.peers.rateDiscarded + 1)
        else s.peers.rateDiscarded) ∧
      t.peers.seqDiscarded = (if verdict s kind f = .sequence then min 65535 (s.peers.seqDiscarded + 1)
        else s.peers.seqDiscarded) ∧
      (verdict s kind f ≠ .sequence → t.peers.windows = s.peers.windows) ∧
      (verdict s kind f = .sequence → ∀ k : Slot, f.source.toNat = k.val + 1 →
        t.peers.windows = s.peers.windows.set k (some
          { count := (s.peers.windows[k].map RateWindow.count).getD 0 + 1,
            left := (s.peers.windows[k].map RateWindow.left).getD 20000000 })) ∧
      (verdict s kind f = .ownSource → t.bus.duplicate = true ∧
        (s.bus.duplicate = false → t.bus.tx = .silent ∧ (s.log.records.length < 32 →
          t.log.records = s.log.records ++
            [{ uptime := s.log.uptime, kind := .duplicate, arg1 := 0x02, arg2 := kind }]))) ∧
      (verdict s kind f ≠ .ownSource ∨ s.bus.duplicate = true →
        t.log = s.log ∧ t.bus.tx = s.bus.tx ∧ t.bus.duplicate = s.bus.duplicate) ∧
      t.bus = { heardBus kind f s.bus with
        intact := t.bus.intact, bad := t.bus.bad, tx := t.bus.tx, duplicate := t.bus.duplicate } ∧
      QuietFrame s t ∧ t.announcer = s.announcer ∧ t.port = s.port

/-- R114, R117 to R121, R124, R152: the receiver's own events. A trusted station's frame of unknown kind and a frame
with a bad check are counted and dropped, and so is another frame that was in collection when one of these is heard. A
frame being collected is abandoned, counted once, and followed by a new frame only after a mark character for this
station; a gap abandons it once the line has been idle for more than 2 character times, and not before; a start bit
after such a gap finds it abandoned. A start bit of another station is looked for outside a character, with the line at
the idle level again after a framing error; it restarts the idle count, and its character is collected, up to the full
length, or ignored. A start bit or a frame on a line that had been idle for 30 character times finds the rest over, and
an earlier one leaves it in force. A pulse that is no start bit changes nothing. In a LOSC cycle with nothing commanded
the idle count grows at the idle level, and stands while a character or a fault is on the line; a character ends after
its 880 cycles, and after a framing error the line is held active until it returns to the idle level. How the rows share
the characters of a frame, the line after a framing error, and the cycle of an empty queue, are the model's choices
(notes/assumptions/2.md, 11.md, 12.md). -/
def Obligations.ReceiverFrames : Prop :=
  ∀ (kind : Byte) (f : RxFrame) (chars : List Byte) (data : Byte) (c d : LineChar) (held : Option Nat)
    (left n : Nat) (s : State),
    running s = true → s.bus.tx ≠ .sending →
    (hears s f = true → intact kind f = true → knownKind kind = false →
      (∃ k : Slot, f.source.toNat = k.val + 1 ∧ (cfg s).trust.getLsbD k.val = true) →
      f.source.toNat ≠ s.loader.ownAddress →
      exec (.malformedFrame kind f) s = .next { s with
        bus := { heardBus kind f s.bus with
          intact := min 65535 (s.bus.intact + 1), bad := min 65535 ((heardBus kind f s.bus).bad + 1) } }) ∧
    (hears s f = true → intact kind f = false →
      exec (.badFrame kind f) s = .next { s with
        bus := { heardBus kind f s.bus with bad := min 65535 ((heardBus kind f s.bus).bad + 1) } }) ∧
    (s.bus.rx = .assemble chars →
      exec (.frameAbandoned (.newMark data)) s = .next { s with
        bus := { s.bus with
          rx := if data.toNat = 0 ∨ data.toNat = s.loader.ownAddress then .assemble [data] else .hunt
          line := .quiet, idle := some 0, rest := restAfter s.bus, bad := min 65535 (s.bus.bad + 1) } } ∧
      exec (.frameAbandoned (.framingError held)) s = .next { s with
        bus := { s.bus with rx := .hunt, line := if held = some 0 then .quiet else .heldActive held, idle := some 0
                            rest := restAfter s.bus, bad := min 65535 (s.bus.bad + 1) } } ∧
      exec (.frameAbandoned .badLength) s = .next { s with
        bus := { s.bus with rx := .hunt, line := .quiet, idle := some 0, rest := restAfter s.bus
                            bad := min 65535 (s.bus.bad + 1) } } ∧
      (s.bus.line = .quiet → s.bus.idle = some n → 1760 < n →
        exec (.frameAbandoned .idleGap) s = .next { s with
          bus := { s.bus with rx := .hunt, bad := min 65535 (s.bus.bad + 1) } } ∧
        (c.start = true → exec (.foreignStartBit c) s = .next { s with
          bus := { s.bus with rx := HuntTakes s.loader.ownAddress c, line := .character 880 c, idle := some 0
                              rest := restAfter s.bus, bad := min 65535 (s.bus.bad + 1) } })) ∧
      (s.bus.line ≠ .quiet ∨ s.bus.idle = some n ∧ n ≤ 1760 → exec (.frameAbandoned .idleGap) s = .next s) ∧
      (c.start = true → c.mark = false → c.stopGood = true → s.bus.line = .quiet → s.bus.idle = some n → n ≤ 1760 →
        chars.length < 4 ∨ (chars.length = 4 ∧ c.data.toNat ≤ 12) ∨
          (5 ≤ chars.length ∧ chars.length < 6 + byteAt chars 4) →
        exec (.foreignStartBit c) s = .next { s with
          bus := { s.bus with rx := .assemble (chars ++ [c.data]), line := .character 880 c, idle := some 0
                              rest := restAfter s.bus } })) ∧
    (s.bus.rx = .hunt →
      (c.start = true → s.bus.line = .quiet ∨ s.bus.line = .heldActive none →
        exec (.foreignStartBit c) s = .next { s with
          bus := { s.bus with rx := HuntTakes s.loader.ownAddress c, line := .character 880 c, idle := some 0
                              rest := restAfter s.bus } }) ∧
      exec (.frameAbandoned .idleGap) s = .next s) ∧
    (c.start = false ∨ s.bus.line = .character left d ∨ s.bus.line = .heldActive (some left) →
      exec (.foreignStartBit c) s = .next s) ∧
    (s.pending = [] → ∃ t : State, step s = .next t ∧
      (s.bus.line ≠ .quiet → t.bus.idle = s.bus.idle) ∧ (s.bus.line = .quiet → t.bus.line = .quiet) ∧
      (s.bus.line = .quiet → s.bus.idle = some n → n ≤ 1760 → t.bus.idle = some (n + 1)) ∧
      (s.bus.line = .character (left + 2) c → t.bus.line = .character (left + 1) c) ∧
      (s.bus.line = .character 1 c → c.stopGood = true ∨ c.held = some 0 → t.bus.line = .quiet) ∧
      (s.bus.line = .character 1 c → c.stopGood = false → c.held ≠ some 0 → t.bus.line = .heldActive c.held) ∧
      (s.bus.line = .heldActive (some (left + 2)) → t.bus.line = .heldActive (some (left + 1))) ∧
      (s.bus.line = .heldActive (some 1) → t.bus.line = .quiet) ∧
      (s.bus.line = .heldActive none → t.bus.line = .heldActive none) ∧
      t.bus = { s.bus with line := t.bus.line, idle := t.bus.idle })

/-- R159, R161, R144, R162: a FRESH entry goes STALE when its age comes to 3 × its interval: PEER_LOST is recorded
first, the entry's content stays, the address joins the query list once when a used input is bound to it, and every
bound input has raw and effective grade 15, keeps its path and is BARRED with GRADE. An ANNOUNCE that follows is never
discarded for its sequence. An entry that is not FRESH, or whose age has not come to the deadline, stays as it is; so an
accepted ANNOUNCE that falls together with the deadline, taken first, leaves nothing to go STALE or to be removed. That
the row is taken with the age one cycle short of the deadline is the model's choice (notes/assumptions/3.md). -/
def Obligations.EntryGoesStale : Prop :=
  ∀ (k : Slot) (e : PeerEntry) (f g : RxFrame) (s : State),
    running s = true →
    (s.peers.entries[k] = some e → e.state = .fresh → 3 * e.interval * 20000000 ≤ e.ageCycles + 1 → LoaderLaw s →
    Answers (.entryStale k) s fun t =>
      t.peers = { s.peers with
        entries := s.peers.entries.set k
          (some { e with state := .stale, ageCycles := 3 * e.interval * 20000000 }) } ∧
      (s.log.records.length < 32 →
        s.log.records ++ [{ uptime := s.log.uptime, kind := .peerLost, arg1 := BitVec.ofNat 8 (k.val + 1),
                            arg2 := BitVec.ofNat 8 (classCode e.cls) }] <+: t.log.records) ∧
      t.announcer = { s.announcer with
        eventFlag := t.announcer.eventFlag
        queries := if (∃ i : Inp, (inputCfg s i).use = .peer ∧ (inputCfg s i).bound = k.val + 1) ∧
            k.val + 1 ∉ s.announcer.queries
          then s.announcer.queries ++ [k.val + 1] else s.announcer.queries } ∧
      (∀ i : Inp, (inputCfg s i).use = .peer → (inputCfg s i).bound = k.val + 1 →
        t.records[i].raw = 15 ∧ t.records[i].effective = 15 ∧ t.records[i].path = e.path ∧
        t.records[i].hop = e.path.length ∧ (s.records[i].state ≠ .off →
          t.records[i].state = .barred ∧ t.records[i].reasons.grade = true)) ∧
      (∀ i : Inp, ¬((inputCfg s i).use = .peer ∧ (inputCfg s i).bound = k.val + 1) →
        OnlySelected s.records[i] t.records[i]) ∧
      SamePart s t ∧ LogGrown s t ∧ SameBus s t ∧ SameWarm s t ∧ t.monitors = s.monitors ∧ t.port = s.port ∧
      (g.source.toNat = k.val + 1 → verdict t 0x01 g ≠ .sequence)) ∧
    (s.peers.entries[k] = some e → e.state ≠ .fresh ∨ e.ageCycles + 1 < 3 * e.interval * 20000000 →
      exec (.entryStale k) s = .next s) ∧
    (s.peers.entries[k] = none → exec (.entryStale k) s = .next s ∧ exec (.entryRemoval k) s = .next s) ∧
    (hears s f = true → intact 0x01 f = true → f.source.toNat = k.val + 1 → verdict s 0x01 f = .accepted →
      Answers (.announceReceived f) s fun t => exec (.entryStale k) t = .next t ∧ exec (.entryRemoval k) t = .next t)

/-- R160, R154, R161, R162: a STALE entry is removed when its age comes to 6 × its interval, and a WITHDRAWN one at 3 ×:
PEER_GONE is recorded first, and every bound input has an empty path, hop count 0 and neither LOOP nor RANGE, and stays
BARRED on GRADE; its rate window stands. An ANNOUNCE that follows is never discarded for its sequence, and a WITHDRAW
that follows finds no entry. A FRESH entry, or one whose age has not come to its removal, stays as it is; so an accepted
WITHDRAW that falls together with a deadline, taken first, leaves nothing to be removed or to go STALE. The end of a
rate window closes it and touches nothing else. That a removal is taken with the age one cycle short of it, and that the
end of a window is its row, are the model's choices (notes/assumptions/1.md, 3.md). -/
def Obligations.EntryIsRemoved : Prop :=
  ∀ (k : Slot) (e : PeerEntry) (f g : RxFrame) (s : State),
    running s = true →
    (s.peers.entries[k] = some e → e.state ≠ .fresh → LoaderLaw s →
      (if e.state = .stale then 6 * e.interval else 3 * e.interval) * 20000000 ≤ e.ageCycles + 1 →
      Answers (.entryRemoval k) s fun t =>
        t.peers = { s.peers with entries := s.peers.entries.set k none } ∧
        (s.log.records.length < 32 →
          s.log.records ++ [{ uptime := s.log.uptime, kind := .peerGone, arg1 := BitVec.ofNat 8 (k.val + 1),
                              arg2 := BitVec.ofNat 8 e.state.code }] <+: t.log.records) ∧
        (∀ i : Inp, (inputCfg s i).use = .peer → (inputCfg s i).bound = k.val + 1 →
          t.records[i].raw = 15 ∧ t.records[i].effective = 15 ∧ t.records[i].path = [] ∧ t.records[i].hop = 0 ∧
          (s.records[i].state ≠ .off → t.records[i].state = .barred ∧ t.records[i].reasons.grade = true ∧
            t.records[i].reasons.loop = false ∧ t.records[i].reasons.range = false)) ∧
        (∀ i : Inp, ¬((inputCfg s i).use = .peer ∧ (inputCfg s i).bound = k.val + 1) →
          OnlySelected s.records[i] t.records[i]) ∧
        SamePart s t ∧ LogGrown s t ∧ SameAnnouncer s t ∧ SameBus s t ∧ SameWarm s t ∧ t.monitors = s.monitors ∧
        t.port = s.port ∧
        (g.source.toNat = k.val + 1 → verdict t 0x01 g ≠ .sequence ∧ verdict t 0x03 g ≠ .accepted)) ∧
    (s.peers.entries[k] = some e →
      e.state = .fresh ∨
        e.ageCycles + 1 < (if e.state = .stale then 6 * e.interval else 3 * e.interval) * 20000000 →
      exec (.entryRemoval k) s = .next s) ∧
    (hears s f = true → intact 0x03 f = true → f.source.toNat = k.val + 1 → verdict s 0x03 f = .accepted →
      (∀ e ∈ s.peers.entries[k], 1 ≤ e.interval) →
      Answers (.withdrawReceived f) s fun t => exec (.entryRemoval k) t = .next t ∧ exec (.entryStale k) t = .next t) ∧
    exec (.rateWindowEnd k) s = .next { s with peers := { s.peers with windows := s.peers.windows.set k none } }

/-! ### Transmission and announcing -/

/-- R120, R122, R123, R124, R141, R146: a transmission start, with the line idle for the access threshold, or 30
character times in the rest, which then ends, and no frame being collected. A ready ANNOUNCE with a periodic or query
flag, or with content that differs from the last transmitted, is handed with the current content; otherwise the event
flag is dropped and the oldest destination that is not FRESH is asked; otherwise nothing is sent; in WITHDRAWING a
WITHDRAW is handed. On a line that is not idle, or has not been for that long, or while a frame is collected, the
station stays as it is. -/
def Obligations.TransmissionStartBuilds : Prop :=
  ∀ (d : Nat) (rest : List Nat) (n : Nat) (s : State),
    running s = true → s.bus.tx = .deferring → s.bus.idle = some n →
    (s.bus.line ≠ .quiet ∨ (∃ chars : List Byte, s.bus.rx = .assemble chars) ∨
        n < (if s.bus.rest = true then 26400 else (4 + s.loader.ownAddress) * 880) →
      exec .transmissionStart s = .next s) ∧
    (s.bus.line = .quiet → (∀ chars : List Byte, s.bus.rx ≠ .assemble chars) →
        (if s.bus.rest = true then 26400 else (4 + s.loader.ownAddress) * 880) ≤ n →
      (s.announcer.mode = .withdrawing →
        exec .transmissionStart s = .next { s with
          announcer := { s.announcer with frame := some (.withdraw s.announcer.seq) }
          bus := { s.bus with tx := .sending, rx := .hunt, idle := some 0, driven := 0, rest := false } }) ∧
      (s.announcer.mode = .announcing →
        (s.announcer.spacingTimer = none →
          (s.announcer.periodicFlag = true ∨ s.announcer.queryFlag = true ∨
            s.announcer.eventFlag = true ∧ s.announcer.last ≠ some (currentContent s)) →
          exec .transmissionStart s = .next { s with
            announcer := { s.announcer with
              frame := some (.announce (currentContent s) s.announcer.restart s.announcer.seq) }
            bus := { s.bus with tx := .sending, rx := .hunt, idle := some 0, driven := 0, rest := false } }) ∧
        (s.announcer.spacingTimer ≠ none ∨ (s.announcer.periodicFlag = false ∧ s.announcer.queryFlag = false ∧
            (s.announcer.eventFlag = false ∨ s.announcer.last = some (currentContent s))) →
          (s.announcer.queries.dropWhile (freshStation s) = d :: rest →
            exec .transmissionStart s = .next { s with
              announcer := { s.announcer with
                eventFlag := s.announcer.eventFlag && s.announcer.spacingTimer.isSome
                queries := d :: rest, frame := some (.query d s.announcer.seq) }
              bus := { s.bus with tx := .sending, rx := .hunt, idle := some 0, driven := 0, rest := false } }) ∧
          (s.announcer.queries.dropWhile (freshStation s) = [] →
            exec .transmissionStart s = .next { s with
              announcer := { s.announcer with
                eventFlag := s.announcer.eventFlag && s.announcer.spacingTimer.isSome, queries := [], frame := none }
              bus := { s.bus with tx := .idle, rest := false } }))))

/-- R142, R123, R124, R127, R137, R139: an ANNOUNCE completes. The content sent becomes the last transmitted, the
sequence advances, RESTART and the flags are cleared, the event flag stays set only if the content has moved on, the
periodic timer restarts, the spacing timer ends 250 ms after the frame's start, the clash run is 0, the frame is counted
and the rest is in force. The receiver is in HUNT, the line stays as it is, and a foreign start bit at the same moment
may come before the completion or after it. -/
def Obligations.AnnounceCompletes : Prop :=
  ∀ (content : Content) (restart : Bool) (q : Byte) (c : LineChar) (s : State),
    running s = true → s.bus.tx = .sending → s.announcer.frame = some (.announce content restart q) →
    (Answers .announceCompletion s fun t =>
      t.announcer = { s.announcer with
        last := some content, seq := s.announcer.seq + 1, restart := false, periodicFlag := false, queryFlag := false
        eventFlag := decide (currentContent s ≠ content), periodicTimer := some ((cfg s).interval * 20000000)
        spacingTimer := some (5000000 - s.bus.driven), frame := none } ∧
      t.bus = { s.bus with
        tx := t.bus.tx, rx := t.bus.rx, idle := some 0, rest := true, clashRun := 0
        sent := min 65535 (s.bus.sent + 1) } ∧
      t.bus.tx = (if s.announcer.mode = .withdrawing ∨ s.announcer.mode = .announcing ∧ s.announcer.queries ≠ []
        then .deferring else .idle) ∧
      ((∀ c : LineChar, s.bus.line ≠ .character 880 c) → t.bus.rx = .hunt) ∧
      (s.bus.line = .character 880 c → t.bus.rx = HuntTakes s.loader.ownAddress c) ∧
      QuietFrame s t ∧ t.peers = s.peers ∧ t.log = s.log ∧ t.port = s.port) ∧
    ((∀ c : LineChar, s.bus.line ≠ .character 880 c) → Commute .announceCompletion (.foreignStartBit c) s)

/-- R144, R123, R124, R127: a QUERY completes, and its destination leaves the query list; a foreign start bit at the
same moment may come before the completion or after it; the rest begins, and ends when the line has stood idle for 30
character times, and not before, nor on a line that is not idle, nor while a frame is sent. -/
def Obligations.QueryCompletesAndRests : Prop :=
  ∀ (d : Nat) (q : Byte) (c : LineChar) (s : State),
    running s = true →
    (s.bus.tx = .sending → s.announcer.frame = some (.query d q) →
      (Answers .queryCompletion s fun t =>
        t.announcer = { s.announcer with queries := s.announcer.queries.erase d, frame := none } ∧
        t.bus = { s.bus with
          tx := t.bus.tx, rx := t.bus.rx, idle := some 0, rest := true, clashRun := 0
          sent := min 65535 (s.bus.sent + 1) } ∧
        t.bus.tx = (if wantsFrame t.announcer = true then .deferring else .idle) ∧
        ((∀ c : LineChar, s.bus.line ≠ .character 880 c) → t.bus.rx = .hunt) ∧
        (s.bus.line = .character 880 c → t.bus.rx = HuntTakes s.loader.ownAddress c) ∧
        QuietFrame s t ∧ t.peers = s.peers ∧ t.log = s.log ∧ t.port = s.port) ∧
      ((∀ c : LineChar, s.bus.line ≠ .character 880 c) → Commute .queryCompletion (.foreignStartBit c) s)) ∧
    (s.bus.rest = true → ∀ n : Nat, s.bus.idle = some n →
      (s.bus.tx ≠ .sending → s.bus.line = .quiet → 26400 ≤ n →
        exec .restEnd s = .next { s with bus := { s.bus with rest := false } }) ∧
      (s.bus.tx = .sending ∨ s.bus.line ≠ .quiet ∨ n < 26400 → exec .restEnd s = .next s))

/-- R125, R126, R127, R128, R143: a clash ends the attempt: the frame is gone and everything else of the Announcer is
kept, the clash is counted, no rest holds, the receiver is in HUNT and the line stays as the other station holds it, and
the station defers again while it wants a frame; the eighth in a row sets DUPLICATE, silences the transmitter and is
recorded; and a foreign start bit at the same moment may come before the clash or after it. That the clash also keeps
what the attempt's start did to the event flag and the query list, and a character of the other station that it meets,
which ends with its 880 cycles, are the model's choices (notes/assumptions/27.md, 30.md). -/
def Obligations.ClashIsCounted : Prop :=
  ∀ (pins : Pins) (c : LineChar) (s : State),
    running s = true → s.bus.tx = .sending → s.announcer.mode = .announcing →
    (Answers (.clash pins) s fun t =>
      t.announcer = { s.announcer with frame := none } ∧
      t.bus = { s.bus with
        tx := t.bus.tx, rx := t.bus.rx, idle := some 0, rest := false, clashRun := s.bus.clashRun + 1
        clashes := min 65535 (s.bus.clashes + 1), duplicate := t.bus.duplicate } ∧
      ((∀ c : LineChar, s.bus.line ≠ .character 880 c) → t.bus.rx = .hunt) ∧
      (s.bus.line = .character 880 c → t.bus.rx = HuntTakes s.loader.ownAddress c) ∧
      (s.bus.clashRun < 7 → t.bus.duplicate = s.bus.duplicate ∧ t.log = s.log ∧
        t.bus.tx = if wantsFrame s.announcer = true then .deferring else .idle) ∧
      (s.bus.clashRun = 7 → s.bus.duplicate = false → t.bus.duplicate = true ∧ t.bus.tx = .silent ∧
        (s.log.records.length < 32 → t.log.records = s.log.records ++
          [{ uptime := s.log.uptime, kind := .duplicate, arg1 := 0x01, arg2 := 0x08 }])) ∧
      QuietFrame s t ∧ t.peers = s.peers ∧ t.port = s.port) ∧
    ((∀ c : LineChar, s.bus.line ≠ .character 880 c) → Commute (.clash pins) (.foreignStartBit c) s)

/-- R137, R139, R140, R122: the periodic timer's expiry sets the periodic flag and stops the timer; the spacing timer's
expiry stops it; in each case the transmitter defers when a frame is now wanted. A timer with time left does not expire.
What keeps any two ANNOUNCE frames 250 ms apart is stated of every command that leaves the part running: none moves a
running spacing timer but its expiry with no time left and an ANNOUNCE completion, which leaves in it what is left of
250 ms from the frame's start, whose time none moves while the frame is sent; and none puts an ANNOUNCE on the line but
with the timer stopped. That commands take no time and idle cycles alone do is the model's choice
(notes/assumptions/2.md). -/
def Obligations.AnnouncerTimersExpire : Prop :=
  ∀ (left : Nat) (command : Instr) (s : State),
    running s = true →
    (s.announcer.periodicTimer = none ∨ s.announcer.periodicTimer = some (left + 1) →
      exec .periodicTimerExpiry s = .next s) ∧
    (s.announcer.periodicTimer = some 0 → Answers .periodicTimerExpiry s fun t =>
      t.announcer = { s.announcer with periodicTimer := none, periodicFlag := true } ∧ SameBus s t ∧
      (s.bus.tx = .idle → s.announcer.mode = .announcing → s.announcer.spacingTimer = none → t.bus.tx = .deferring) ∧
      QuietFrame s t ∧ t.peers = s.peers ∧ t.log = s.log ∧ t.port = s.port) ∧
    (s.announcer.spacingTimer = none ∨ s.announcer.spacingTimer = some (left + 1) →
      exec .spacingExpiry s = .next s) ∧
    (s.announcer.spacingTimer = some 0 → Answers .spacingExpiry s fun t =>
      t.announcer = { s.announcer with spacingTimer := none } ∧ SameBus s t ∧
      (s.bus.tx = .idle → s.announcer.mode = .announcing → (s.announcer.periodicFlag = true ∨
        s.announcer.eventFlag = true ∨ s.announcer.queryFlag = true) → t.bus.tx = .deferring) ∧
      QuietFrame s t ∧ t.peers = s.peers ∧ t.log = s.log ∧ t.port = s.port) ∧
    (Answers command s fun t => running t = true →
      (s.announcer.spacingTimer = some left →
        t.announcer.spacingTimer = some left ∨
          command = .announceCompletion ∧ t.announcer.spacingTimer = some (5000000 - s.bus.driven) ∨
          command = .spacingExpiry ∧ left = 0) ∧
      (s.bus.tx = .sending → t.bus.tx = .sending → t.bus.driven = s.bus.driven) ∧
      (s.bus.tx ≠ .sending → t.bus.tx = .sending → t.bus.driven = 0 ∧
        ∀ (content : Content) (restart : Bool) (q : Byte), t.announcer.frame = some (.announce content restart q) →
          s.announcer.spacingTimer = none ∧ t.announcer.spacingTimer = none))

/-- R116: the check is the remainder of M(x) · x⁸ divided by x⁸ + x² + x + 1, its coefficient of x⁷ the most significant
bit; a frame is intact exactly when the check received is the check of the bytes before it, which is when the remainder
over all its bytes is 0; and the transmitter sends the check of the bytes it sends as the last character. -/
def Obligations.CheckIsTheRemainder : Prop :=
  ∀ (bytes : List Byte) (kind : Byte) (f : RxFrame) (own : Nat) (frame : TxFrame),
    bitPolynomial [crc8 bytes] = bitPolynomial bytes * Polynomial.X ^ 8 %ₘ checkDivisor ∧
    (intact kind f = true ↔
      f.check = crc8 ([f.dest, kind, f.source, f.seq, BitVec.ofNat 8 f.payload.length] ++ f.payload)) ∧
    (intact kind f = true ↔ bitPolynomial ([f.dest, kind, f.source, f.seq, BitVec.ofNat 8 f.payload.length] ++
      f.payload ++ [f.check]) * Polynomial.X ^ 8 %ₘ checkDivisor = 0) ∧
    (∃ body : List Byte, txBytes own frame = body ++ [crc8 body])

/-- R114, R115, R116, R141, R153, R186: a character drives a start bit at the active level 0, its data bits least
significant first, its mark bit and a stop bit at the idle level 1, and is read back as sent; every frame sent drives
its bytes as such characters, the header alone with mark bit 1. An ANNOUNCE that the part sends, of any content it may
announce, is heard by a receiver as an intact frame from this station to all, passes the checks of kind, length and
content, and is read back as the content, RESTART flag and sequence it was built from; and so, with their destinations
and empty payloads, are a QUERY and a WITHDRAW. -/
def Obligations.SentAnnounceIsReadBack : Prop :=
  ∀ (own d : Nat) (content : Content) (restart mark : Bool) (q data : Byte) (frame : TxFrame),
    ((LineChar.sent data mark).levels.getLsbD 0 = false ∧ (LineChar.sent data mark).levels.getLsbD 10 = true ∧
      (LineChar.sent data mark).levels.getLsbD 9 = mark ∧
      (∀ k : Nat, k < 8 → (LineChar.sent data mark).levels.getLsbD (k + 1) = data.getLsbD k) ∧
      (LineChar.sent data mark).start = true ∧ (LineChar.sent data mark).data = data ∧
      (LineChar.sent data mark).mark = mark ∧ (LineChar.sent data mark).stopGood = true) ∧
    ((txChars own frame).map LineChar.data = txBytes own frame ∧
      (txChars own frame).map LineChar.mark = true :: List.replicate ((txBytes own frame).length - 1) false ∧
      (∀ c ∈ txChars own frame, c.start = true ∧ c.stopGood = true) ∧
      (txLevels own frame).length = 11 * (txBytes own frame).length ∧
      (∀ k j : Nat, j < 11 → (txLevels own frame)[11 * k + j]? =
        (txChars own frame)[k]?.map fun c => c.levels.getLsbD j) ∧
      txDuration frame = 880 * (txBytes own frame).length) ∧
    (PathOf content.path own → (1 ≤ content.grade ∧ content.grade ≤ 15) →
      (1 ≤ content.interval ∧ content.interval ≤ 8) →
      (txAsReceived own (.announce content restart q)).1 = 0x01 ∧
      lengthOk (txAsReceived own (.announce content restart q)).2 = true ∧
      intact 0x01 (txAsReceived own (.announce content restart q)).2 = true ∧
      kindFits 0x01 (txAsReceived own (.announce content restart q)).2 = true ∧
      (txAsReceived own (.announce content restart q)).2.dest = 0 ∧
      (txAsReceived own (.announce content restart q)).2.seq = q ∧
      (txAsReceived own (.announce content restart q)).2.source.toNat = own ∧
      readAnnounce own (txAsReceived own (.announce content restart q)).2.payload =
        some { content := content, restart := restart } ∧
      (txBytes own (.announce content restart q)).length = 10 + content.path.length) ∧
    (own ≤ 24 → d ≤ 24 →
      (txAsReceived own (.query d q)).1 = 0x02 ∧ intact 0x02 (txAsReceived own (.query d q)).2 = true ∧
      kindFits 0x02 (txAsReceived own (.query d q)).2 = true ∧
      (txAsReceived own (.query d q)).2.dest.toNat = d ∧ (txAsReceived own (.query d q)).2.source.toNat = own ∧
      (txAsReceived own (.query d q)).2.seq = q ∧ (txBytes own (.query d q)).length = 6 ∧
      (txAsReceived own (.withdraw q)).1 = 0x03 ∧ intact 0x03 (txAsReceived own (.withdraw q)).2 = true ∧
      kindFits 0x03 (txAsReceived own (.withdraw q)).2 = true ∧ (txAsReceived own (.withdraw q)).2.dest = 0 ∧
      (txAsReceived own (.withdraw q)).2.source.toNat = own ∧ (txAsReceived own (.withdraw q)).2.seq = q ∧
      (txBytes own (.withdraw q)).length = 6)

/-! ### The image -/

/-- R2, R170, R171, R172, R186: whatever the bytes, each field of the clamped image is its bytes at the offset of the
image layout, most significant first, brought into range as its clamps give; so the image lies in its ranges, the
schedule is ordered, no input is bound to the own address, and the own address is not trusted. The clamp count is the
number of fields that a clamp altered, at most 62. -/
def Obligations.ClampedImageInRange : Prop :=
  ∀ (own : Nat) (image : List Byte),
    ImageInRange own (clampImage own image).1 ∧ (clampImage own image).2 ≤ 62 ∧
    (∀ k : Slot, k.val + 1 = own → (clampImage own image).1.trust.getLsbD k.val = false) ∧
    (∀ k : Slot, k.val + 1 ≠ own → own ≤ 24 → (clampImage own image).1.trust.getLsbD k.val =
      (BitVec.ofNat 8 (byteAt image (3 + k.val / 8))).getLsbD (k.val % 8)) ∧
    GlobalsRead image (clampImage own image).1 ∧
    (∀ i : Inp, UseRead own image (32 + 13 * i.val) ((clampImage own image).1.inputs[i]).use ∧
      (((clampImage own image).1.inputs[i]).use ≠ .off →
        InputRead image (32 + 13 * i.val) (clampImage own image).1.inputs[i])) ∧
    (clampImage own image).2 = (globalFields image (clampImage own image).1).countP (fun f => f.1 ≠ f.2) +
      ((List.finRange 6).map fun i : Inp =>
        inputAltered image (32 + 13 * i.val) (clampImage own image).1.inputs[i]).sum

/-- R169, R173: LOAD IMAGE with all its bytes, by the part state: REFUSED in LOADING, RUNNING and CFG_FAULT with cause
ADDRESS; otherwise a bad signature or format is INVALID and leaves what is held, and a good image is DONE, held and
clamped, with the part in AWAIT_IMAGE; a short one changes nothing. -/
def Obligations.LoadImageHolds : Prop :=
  ∀ (image : List Byte) (s : State),
    s.hold = none →
    (image.length < 110 → Answers (.loadImage image) s fun t =>
      t = { s with port := answeredPort s.port (List.replicate (1 + image.length) 0x00) }) ∧
    (image.length = 110 → Answers (.loadImage image) s fun t =>
      (s.loader.partState = .loading ∨ s.loader.partState = .running ∨
          s.loader.partState = .cfgFault ∧ s.loader.cause = .address →
        t = { s with port := answeredPort s.port (List.replicate 111 0x00 ++ [0xA1]) }) ∧
      (s.loader.partState = .awaitImage ∨ s.loader.partState = .cfgFault ∧ s.loader.cause ≠ .address →
        (byteAt image 0 ≠ 0xB4 → t = { s with
          port := answeredPort s.port (List.replicate 111 0x00 ++ [0xA2])
          loader := { s.loader with cause := .signature } }) ∧
        (byteAt image 0 = 0xB4 → byteAt image 1 ≠ 0x01 → t = { s with
          port := answeredPort s.port (List.replicate 111 0x00 ++ [0xA2])
          loader := { s.loader with cause := .format } }) ∧
        (byteAt image 0 = 0xB4 → byteAt image 1 = 0x01 → t = { s with
          port := answeredPort s.port (List.replicate 111 0x00 ++ [0xA0])
          loader := { s.loader with
            partState := .awaitImage, cause := .none, held := true, viaPort := true
            buffer := (clampImage s.loader.ownAddress image).1
            clampCount := (clampImage s.loader.ownAddress image).2 } })))

/-- R22, R68, R108, R174, R175, R176 and each unit's start: START in AWAIT_IMAGE with an image held, and the EEPROM's
valid image in LOADING, read at any of the three attempts, start the part: RUNNING, STARTED recorded first with the
image's way and clamp count, then INPUT_BARRED of each input that begins BARRED, then WARMUP_DONE when warm-up has run
out, and nothing else; the Announcer and the Bus Interface as their start tables give, the idle count 0 on the line as
it stands, every used input in PROVING or BARRED, its SIGNAL as the detectors stand and its LOS mode has it, its
effective grade the worse of its raw grade and its ceiling, and every other OFF, the shelf free-running; START is
REFUSED otherwise, whatever the log holds. Right after the release of a reset of any kind, an image that the attempt
abandoned by the reset read, and START, start nothing. That the line's level is an operand of the command that starts
the part, and the time before which no image can have been read, are the model's forms (notes/assumptions/29.md,
18.md). -/
def Obligations.StartStartsEveryUnit : Prop :=
  ∀ (c : Instr) (image : List Byte) (held : Option Nat) (n elapsed : Nat) (s : State),
    s.hold = none →
    (s.log.records = [] →
      c = .start held ∧ s.loader.partState = .awaitImage ∧ s.loader.held = true ∨
      c = .eepromReadDone image held ∧ s.loader.partState = .loading ∧ s.loader.eeprom = .attempt n elapsed ∧
        (1 ≤ n ∧ n ≤ 3) ∧ 203400 ≤ elapsed ∧ image.length = 110 ∧ byteAt image 0 = 0xB4 ∧ byteAt image 1 = 0x01 →
      Answers c s fun t =>
        running t = true ∧
        t.log.records =
          [{ uptime := s.log.uptime, kind := .started
             arg1 := if c = .start held then (if s.loader.viaPort = true then 0x01 else 0x00) else 0x00
             arg2 := BitVec.ofNat 8 t.loader.clampCount }] ++
          barRecords s t ((List.finRange 6).filter fun i : Inp => t.records[i].state = .barred) ++
          (if s.follower.warm = true ∧ (cfg t).warmup ≤ s.follower.warmCount then
            [{ uptime := s.log.uptime, kind := .warmupDone, arg1 := BitVec.ofNat 8 ((cfg t).warmup / 256)
               arg2 := BitVec.ofNat 8 ((cfg t).warmup % 256) }] else []) ∧
        (c = .start held → t.loader = { s.loader with partState := .running, eeprom := .idle } ∧
          t.port.sdo = [0x00, 0xA0]) ∧
        (c ≠ .start held → t.loader = { s.loader with
          partState := .running, eeprom := .idle, transfer := readTransfer image, held := true, viaPort := false
          cause := .none
          buffer := (clampImage s.loader.ownAddress image).1
          clampCount := (clampImage s.loader.ownAddress image).2 } ∧ t.port = s.port) ∧
        t.announcer = { mode := .announcing, last := none, periodicFlag := false, eventFlag := true, queryFlag := false
                        periodicTimer := none, spacingTimer := some 5000000, seq := 0, restart := true, queries := [0]
                        frame := none, withdrawWait := none, waitOver := false } ∧
        t.bus = { rx := .hunt, tx := .deferring, line := if held = some 0 then .quiet else .heldActive held
                  idle := some 0, driven := 0, rest := false, clashRun := 0, duplicate := false, intact := 0, bad := 0
                  clashes := 0, sent := 0 } ∧
        t.selector.active = none ∧ t.selector.force = .none ∧ t.follower.output = .freeRun ∧
        t.follower.value.valid = false ∧ t.follower.history = [] ∧ t.follower.settle = none ∧
        (t.follower.warm = true ↔ s.follower.warm = true ∧ s.follower.warmCount < (cfg t).warmup) ∧
        (∀ k : Slot, t.peers.entries[k] = none ∧ t.peers.windows[k] = none) ∧
        (∀ i : Inp, (inputCfg t i).use = .off → t.records[i].state = .off ∧ t.monitors[i].gate.run = false ∧
          t.monitors[i].signal = false) ∧
        (∀ i : Inp, (inputCfg t i).use ≠ .off →
          (t.records[i].state = .proving ∧ t.records[i].wtr = .waived ∧ t.records[i].reasons = Reasons.empty ∨
            t.records[i].state = .barred ∧ t.records[i].reasons ≠ Reasons.empty) ∧
          (t.monitors[i].losCause = true ↔ (inputCfg t i).losMode = .activeHigh ∧ s.monitors[i].losLevel = true ∨
            (inputCfg t i).losMode = .activeLow ∧ s.monitors[i].losLevel = false) ∧
          (t.monitors[i].activityCause = true ↔ s.monitors[i].present = false) ∧
          (t.monitors[i].signal = true ↔ t.monitors[i].losCause = true ∨ t.monitors[i].activityCause = true) ∧
          (t.records[i].reasons.signal = true ↔ t.monitors[i].signal = true) ∧
          t.records[i].effective = max t.records[i].raw (inputCfg t i).ceiling ∧ t.records[i].hop = 0 ∧
          t.records[i].path = [] ∧
          t.records[i].hardSeen = t.monitors[i].signal ∧ t.monitors[i].gate.run = !t.monitors[i].signal ∧
          t.records[i].raw = (if (inputCfg t i).use = .fixed then (inputCfg t i).fixedGrade else 15) ∧
          (t.records[i].reasons.grade = true ↔ t.records[i].effective = 15)) ∧
        (∀ i : Inp, t.monitors[i].window = [] ∧ t.monitors[i].lastOffset = none ∧ t.monitors[i].freq = false ∧
          t.monitors[i].losLevel = s.monitors[i].losLevel ∧ t.monitors[i].present = s.monitors[i].present ∧
          t.monitors[i].losCount = s.monitors[i].losCount ∧ t.monitors[i].activityRun = s.monitors[i].activityRun) ∧
        t.hold = none ∧ t.cause = s.cause ∧ t.pins = s.pins ∧ t.pending = s.pending) ∧
    (s.loader.partState ≠ .awaitImage ∨ s.loader.held = false →
      exec (.start held) s = .next { s with port := answeredPort s.port [0x00, 0xA1] }) ∧
    (∀ (kind : ResetKind) (pins : Pins), JustReleased kind pins s →
      exec (.eepromReadDone image held) s = .next s ∧
      exec (.start held) s = .next { s with port := answeredPort s.port [0x00, 0xA1] })

/-- R168, R169: the EEPROM's attempts. Each is a transfer: a start condition, the device address with the write
direction, the memory address, a repeated start, the device address with the read direction and 110 data bytes, the last
unacknowledged, ended by a stop condition; it takes 1,017 bit times of clock. It fails on any of four events, with a
stop condition if the bus lets it. A failed first or second attempt waits 5 ms and is followed by the next; the third
failure, and a bad signature or format, leave the part in CFG_FAULT with that cause. That an attempt's end is not taken
before the bits it needs have been clocked is the model's form (notes/assumptions/18.md). -/
def Obligations.EepromAttempts : Prop :=
  ∀ (n elapsed left : Nat) (image : List Byte) (held : Option Nat) (failure : AttemptFailure) (stop : Bool) (s : State),
    s.hold = none → s.loader.partState = .loading → 1 ≤ n → n ≤ 3 →
    (image.length = 110 → transferBits (readTransfer image) = 1017) ∧
    (s.loader.eeprom = .attempt n elapsed →
      (lostAfter failure ≤ elapsed →
        (n < 3 → exec (.eepromAttemptFailed failure stop) s = .next { s with
          loader := { s.loader with eeprom := .waiting n 100000, transfer := lostTransfer failure stop } }) ∧
        (n = 3 → exec (.eepromAttemptFailed failure stop) s = .next { s with
          loader := { s.loader with
            partState := .cfgFault, cause := .eepromAbsent, eeprom := .idle
            transfer := lostTransfer failure stop } })) ∧
      (elapsed < lostAfter failure → exec (.eepromAttemptFailed failure stop) s = .next s)) ∧
    (s.loader.eeprom = .attempt n elapsed → image.length = 110 →
      (203400 ≤ elapsed →
        (byteAt image 0 ≠ 0xB4 → exec (.eepromReadDone image held) s = .next { s with
          loader := { s.loader with
            partState := .cfgFault, cause := .signature, eeprom := .idle, transfer := readTransfer image } }) ∧
        (byteAt image 0 = 0xB4 → byteAt image 1 ≠ 0x01 → exec (.eepromReadDone image held) s = .next { s with
          loader := { s.loader with
            partState := .cfgFault, cause := .format, eeprom := .idle, transfer := readTransfer image } })) ∧
      (elapsed < 203400 → exec (.eepromReadDone image held) s = .next s)) ∧
    (s.loader.eeprom = .waiting n left → exec .eepromRetry s = .next { s with
      loader := { s.loader with eeprom := .attempt (n + 1) 0, transfer := [] } })

/-! ### The controller port and the log -/

/-- R178, R179, R184 to R186, R15, R39, R65, R109, R164, R177: the Controller Port. The code table gives the command of
a frame, whose bits arrive most significant first and which takes it at the eighth bit of its last argument, or at the
rise of CSN for SOFT RESET and a short LOAD IMAGE; SDO carries the answer most significant bit first, changing as SCK
falls. That the command an edge takes waits in the queue is the model's form (notes/assumptions/14.md). READ shifts out
the records in the order of their addresses, status, inputs, peers, holdover, counters and event head, from the
addressed one on and around again, and changes only the port; all bytes of a pass come from one capture, taken for its
first byte, and past the wrap from a fresh one, which shows the part as it then stands; an address above 33 reads as
0xFF; each record has the length and the byte layout of its tables; ALERT is asserted while a record is in the log. An
unknown command is INVALID in byte 2, 0x00 in every other byte, and changes only the port's answer. A READ frame goes on
from where it stands, with the capture of its pass up to the wrap; that it may be shifted in several commands is the
model's form (notes/assumptions/13.md); that the settle time remaining is rounded down to whole seconds, and that the
bound station is shown as 0 before START, are the model's readings (notes/assumptions/24.md, 25.md). -/
def Obligations.ReadShiftsRecords : Prop :=
  ∀ (a code n : Byte) (args : List Byte) (extra : List Bool) (pins : Pins) (held : Option Nat) (count place : Nat)
    (s : State),
    s.hold = none →
    (Answers (.read (.record a) count) s fun t =>
      t = { s with port := t.port } ∧
      (33 < a.toNat → t.port = { s.port with sdo := [0x00, 0x00] ++ List.replicate count 0xFF, reading := .blank }) ∧
      (a.toNat ≤ 33 → t.port.sdo.length = 2 + count ∧ t.port.sdo[0]? = some 0x00 ∧ t.port.sdo[1]? = some 0x00 ∧
        (∀ k : Nat, k < count → t.port.sdo[2 + k]? = (capture s)[(recordOffset a.toNat + k) % 587]?) ∧
        (count = 0 → t.port.snapshot = s.port.snapshot ∧ t.port.reading = .before (recordOffset a.toNat)) ∧
        (0 < count → t.port.snapshot = capture s ∧ t.port.reading = readReached (recordOffset a.toNat + count)))) ∧
    (Answers (.read .onward count) s fun t =>
      t = { s with port := t.port } ∧ (s.port.reading = .closed ∨ count = 0 → t = s) ∧
      (s.port.reading = .blank → t.port = { s.port with sdo := s.port.sdo ++ List.replicate count 0xFF }) ∧
      (s.port.reading = .before place ∨ s.port.reading = .within place → ReadingLaw s.port → 0 < count →
        t.port.sdo.length = s.port.sdo.length + count ∧ s.port.sdo <+: t.port.sdo ∧
        (∀ k : Nat, k < count → t.port.sdo[s.port.sdo.length + k]? =
          if s.port.reading = .within place ∧ place + k < 587 then s.port.snapshot[place + k]?
          else (capture s)[(place + k) % 587]?) ∧
        t.port.snapshot = (if s.port.reading = .within place ∧ place + count ≤ 587 then s.port.snapshot
          else capture s) ∧
        t.port.reading = readReached (place + count))) ∧
    (¬(1 ≤ code.toNat ∧ code.toNat ≤ 9) →
      exec (.unknownCommand code) s = .next { s with port := answeredPort s.port [0x00, 0xA2] } ∧
      ∀ k : Nat, (answeredPort s.port [0x00, 0xA2]).sdoByte k = if k = 1 then 0xA2 else 0x00) ∧
    (capture s = (List.range 34).flatMap (recordAt s) ∧
      (∀ k : Nat, k ≤ 33 → ((capture s).drop (recordOffset k)).take (recordAt s k).length = recordAt s k) ∧
      (∀ k : Nat, k ≤ 33 → recordOffset (k + 1) = recordOffset k + (recordAt s k).length) ∧ recordOffset 34 = 587) ∧
    (StatusLayout s (recordAt s 0) ∧ (∀ i : Inp, InputLayout s i (recordAt s (i.val + 1))) ∧
      (∀ k : Slot, PeerLayout s k (recordAt s (k.val + 7))) ∧ HoldoverLayout s (recordAt s 31) ∧
      CountersLayout s (recordAt s 32) ∧ EventHeadLayout s (recordAt s 33)) ∧
    RecordCodes ∧ (alert s = true ↔ s.log.records ≠ []) ∧ CodeTable pins held n code args ∧
    (extra.length < 8 → SpiFrameLaw pins held code args extra s) ∧ SdoLaw s

/-- R183: POP EVENT removes the oldest record and answers DONE and that record, or an empty record when there is none,
in every part state; OVERFLOW is cleared when the list is then empty. -/
def Obligations.PopTakesTheOldest : Prop :=
  ∀ (s : State),
    s.hold = none →
    Answers .popEvent s fun t =>
      t = { s with port := t.port, log := t.log } ∧ t.port.snapshot = s.port.snapshot ∧
      t.log.records = s.log.records.tail ∧ t.log.uptime = s.log.uptime ∧ t.log.phase = s.log.phase ∧
      (t.log.records = [] → t.log.overflow = false) ∧ (t.log.records ≠ [] → t.log.overflow = s.log.overflow) ∧
      (∀ (e : EventRec) (older : List EventRec), s.log.records = e :: older → t.log.records = older ∧
        t.port.sdo = [0x00, 0xA0, BitVec.ofNat 8 (e.uptime / 16777216), BitVec.ofNat 8 (e.uptime / 65536),
          BitVec.ofNat 8 (e.uptime / 256), BitVec.ofNat 8 e.uptime, BitVec.ofNat 8 e.kind.code, e.arg1, e.arg2]) ∧
      (s.log.records = [] → t.port.sdo = [0x00, 0xA0, 0x00, 0x00, 0x00, 0x00, 0x00, 0x00, 0x00])

/-! ### The laws that every step keeps -/

/-- Every law of the state holds while the reset of power-on is held; that this is the state a run starts from is the
model's choice (notes/assumptions/4.md). -/
def Obligations.ResetIsLawful : Prop :=
  Lawful State.reset ∧ Settled State.reset

/-- The log, the history, the counters and the windows stay within their sizes (R18, R20, R24, R26, R101, R133, R147,
R182), a READ frame in progress stands within a pass, beside a whole capture (R179), and DUPLICATE and SILENT go
together (R128, R129). That several commands may give one READ frame is the model's form (notes/assumptions/13.md). -/
def Obligations.SizesStand : Prop :=
  ∀ (s t : State),
    Bounded s → SilentLaw s → step s = .next t → Bounded t ∧ SilentLaw t

/-- R117, R121, R122, R130, R134: receiver, transmitter, idle count and Announcer work exactly while RUNNING, a frame is
on the line exactly while SENDING, and the want decides between IDLE and DEFERRING. -/
def Obligations.BusFollowsThePart : Prop :=
  ∀ (s t : State),
    BusLaw s → step s = .next t → BusLaw t

/-- R44, R69, R85, R92, R98: the records keep the table of R44; the Selector's active input, the records, the output
state, the settle timer, the bridging origin, the history, the holdover value and the force stay in agreement. -/
def Obligations.SelectionStands : Prop :=
  ∀ (s t : State),
    RecordsLawful s → SelectionLaw s → step s = .next t → RecordsLawful t ∧ SelectionLaw t

/-- R165, R166, R170 to R174: the own address, the part state, the load cause and the held image stay in agreement, a
held image stays in range; and R17, R25, R27: a used input's gate runs exactly while SIGNAL is clear. -/
def Obligations.ImageAndGatesStand : Prop :=
  ∀ (s t : State),
    LoaderLaw s → MeasuringLaw s → step s = .next t → LoaderLaw t ∧ MeasuringLaw t

/-- R148: no step gives the table an entry for the own address or a path that is not valid with the entry's address
last, and so it never holds more than 23 entries; an entry is made only for the source of an accepted ANNOUNCE, and
making it leaves every other entry as it was. -/
def Obligations.PeerTableStands : Prop :=
  ∀ (s t : State),
    TableLaw s → step s = .next t →
    TableLaw t ∧ (1 ≤ t.loader.ownAddress → t.loader.ownAddress ≤ 24 →
      (t.peers.entries.toList.filter Option.isSome).length ≤ 23) ∧
    (∀ k : Slot, s.peers.entries[k] = none → t.peers.entries[k] ≠ none →
      (∃ (f : RxFrame) (rest : List Instr), s.pending = .announceReceived f :: rest ∧ f.source.toNat = k.val + 1 ∧
        verdict s 0x01 f = .accepted) ∧
      ∀ j : Slot, j ≠ k → t.peers.entries[j] = s.peers.entries[j])

/-- R3 to R6, R45, R54, R59, R60: the records and the Peer Table and the monitors agree after every step, and no input
whose WTR status is SERVED, MET or WAIVED is left in PROVING beside a full window; and R1, R102: every effective grade,
and the base grade of a valid holdover value, stays 1 to 15. -/
def Obligations.RecordsAgreeWithTable : Prop :=
  ∀ (s t : State),
    RecordsLawful s → Agreement s → step s = .next t →
    Agreement t ∧ (LoaderLaw s → TableLaw s → GradesLaw s → GradesLaw t)

/-- R30, R99, R103: an input from which the Selector may choose has a last offset, and every offset held lies in the
range of an offset. -/
def Obligations.OffsetsStand : Prop :=
  ∀ (s t : State),
    OffsetsLaw s → step s = .next t → OffsetsLaw t ∧ OffsetInRange (outputOffset t)

/-- R78: after every step of a RUNNING part the source is the one that the decision of R74 gives on the state as it
stands: no event that changes what the decision reads goes without its evaluation. -/
def Obligations.SelectorIsNeverBehind : Prop :=
  ∀ (s t : State),
    Lawful s → Settled s → step s = .next t → Settled t

/-- R16, R10 to R13, R70: every path the station transmits holds 1 to 8 distinct addresses, each from 1 to 24, and ends
with the own address: whatever ANNOUNCE a transmission start hands, in any lawful state. It carries the current content:
FIXED_LOCK and the own address alone with a FIXED active input, and PEER_LOCK and the bound FRESH entry's path with the
own address appended with a PEER one, at the input's effective grade; HOLDOVER at the holdover grade, and FREE_RUN at
the floor grade or 15 in warm-up, each with the own address alone. In the own-oscillator states its grade is the own
grade, which is the floor grade or 15 in every other. -/
def Obligations.TransmittedPathsAreValid : Prop :=
  ∀ (s t : State) (content : Content) (restart : Bool) (q : Byte),
    Lawful s → running s = true → s.bus.tx = .deferring → exec .transmissionStart s = .next t →
    t.announcer.frame = some (.announce content restart q) →
    PathOf content.path s.loader.ownAddress ∧ (1 ≤ content.grade ∧ content.grade ≤ 15) ∧
    content.interval = (cfg s).interval ∧
    (s.follower.output = .freeRun → content.cls = .freeRun ∧ content.grade = floorGrade s) ∧
    (s.follower.output = .holdover → content.cls = .holdover ∧
      content.grade = holdoverGradeAt (cfg s) s.follower.value.base (s.follower.value.ageCycles / 20000000)) ∧
    (s.follower.output = .freeRun ∨ s.follower.output = .holdover →
      content.path = [s.loader.ownAddress] ∧ content.grade = ownGrade s) ∧
    (s.follower.output ≠ .holdover → ownGrade s = floorGrade s) ∧
    (∀ a : Inp, s.selector.active = some a → content.grade = s.records[a].effective) ∧
    (∀ a : Inp, s.selector.active = some a → (inputCfg s a).use = .fixed →
      content.cls = .fixedLock ∧ content.path = [s.loader.ownAddress]) ∧
    (∀ a : Inp, s.selector.active = some a → (inputCfg s a).use = .peer → content.cls = .peerLock ∧
      ∃ e ∈ entryOf s (inputCfg s a).bound, e.state = .fresh ∧ e.path.length ≤ 7 ∧ s.loader.ownAddress ∉ e.path ∧
        content.path = e.path ++ [s.loader.ownAddress])
end

