-- ==== Sys2Proof/Laws/State.lean ====
section
/-! SUPPORT. One lemma per field of the state per named update: what each update sets and what it leaves. -/

namespace Sys2Proof.Machine

/-! ### withLoader -/

section

variable (s : State) (x : Loader)

@[simp] theorem State.withLoader_hold : (s.withLoader x).hold = s.hold := rfl
@[simp] theorem State.withLoader_cause : (s.withLoader x).cause = s.cause := rfl
@[simp] theorem State.withLoader_pins : (s.withLoader x).pins = s.pins := rfl
@[simp] theorem State.withLoader_loader : (s.withLoader x).loader = x := rfl
@[simp] theorem State.withLoader_monitors : (s.withLoader x).monitors = s.monitors := rfl
@[simp] theorem State.withLoader_records : (s.withLoader x).records = s.records := rfl
@[simp] theorem State.withLoader_selector : (s.withLoader x).selector = s.selector := rfl
@[simp] theorem State.withLoader_follower : (s.withLoader x).follower = s.follower := rfl
@[simp] theorem State.withLoader_peers : (s.withLoader x).peers = s.peers := rfl
@[simp] theorem State.withLoader_announcer : (s.withLoader x).announcer = s.announcer := rfl
@[simp] theorem State.withLoader_bus : (s.withLoader x).bus = s.bus := rfl
@[simp] theorem State.withLoader_log : (s.withLoader x).log = s.log := rfl
@[simp] theorem State.withLoader_port : (s.withLoader x).port = s.port := rfl
@[simp] theorem State.withLoader_pending : (s.withLoader x).pending = s.pending := rfl

end

/-! ### withPins -/

section

variable (s : State) (x : Pins)

@[simp] theorem State.withPins_hold : (s.withPins x).hold = s.hold := rfl
@[simp] theorem State.withPins_cause : (s.withPins x).cause = s.cause := rfl
@[simp] theorem State.withPins_pins : (s.withPins x).pins = x := rfl
@[simp] theorem State.withPins_loader : (s.withPins x).loader = s.loader := rfl
@[simp] theorem State.withPins_monitors : (s.withPins x).monitors = s.monitors := rfl
@[simp] theorem State.withPins_records : (s.withPins x).records = s.records := rfl
@[simp] theorem State.withPins_selector : (s.withPins x).selector = s.selector := rfl
@[simp] theorem State.withPins_follower : (s.withPins x).follower = s.follower := rfl
@[simp] theorem State.withPins_peers : (s.withPins x).peers = s.peers := rfl
@[simp] theorem State.withPins_announcer : (s.withPins x).announcer = s.announcer := rfl
@[simp] theorem State.withPins_bus : (s.withPins x).bus = s.bus := rfl
@[simp] theorem State.withPins_log : (s.withPins x).log = s.log := rfl
@[simp] theorem State.withPins_port : (s.withPins x).port = s.port := rfl
@[simp] theorem State.withPins_pending : (s.withPins x).pending = s.pending := rfl

end

/-! ### withSelector -/

section

variable (s : State) (x : Selector)

@[simp] theorem State.withSelector_hold : (s.withSelector x).hold = s.hold := rfl
@[simp] theorem State.withSelector_cause : (s.withSelector x).cause = s.cause := rfl
@[simp] theorem State.withSelector_pins : (s.withSelector x).pins = s.pins := rfl
@[simp] theorem State.withSelector_loader : (s.withSelector x).loader = s.loader := rfl
@[simp] theorem State.withSelector_monitors : (s.withSelector x).monitors = s.monitors := rfl
@[simp] theorem State.withSelector_records : (s.withSelector x).records = s.records := rfl
@[simp] theorem State.withSelector_selector : (s.withSelector x).selector = x := rfl
@[simp] theorem State.withSelector_follower : (s.withSelector x).follower = s.follower := rfl
@[simp] theorem State.withSelector_peers : (s.withSelector x).peers = s.peers := rfl
@[simp] theorem State.withSelector_announcer : (s.withSelector x).announcer = s.announcer := rfl
@[simp] theorem State.withSelector_bus : (s.withSelector x).bus = s.bus := rfl
@[simp] theorem State.withSelector_log : (s.withSelector x).log = s.log := rfl
@[simp] theorem State.withSelector_port : (s.withSelector x).port = s.port := rfl
@[simp] theorem State.withSelector_pending : (s.withSelector x).pending = s.pending := rfl

end

/-! ### withFollower -/

section

variable (s : State) (x : Follower)

@[simp] theorem State.withFollower_hold : (s.withFollower x).hold = s.hold := rfl
@[simp] theorem State.withFollower_cause : (s.withFollower x).cause = s.cause := rfl
@[simp] theorem State.withFollower_pins : (s.withFollower x).pins = s.pins := rfl
@[simp] theorem State.withFollower_loader : (s.withFollower x).loader = s.loader := rfl
@[simp] theorem State.withFollower_monitors : (s.withFollower x).monitors = s.monitors := rfl
@[simp] theorem State.withFollower_records : (s.withFollower x).records = s.records := rfl
@[simp] theorem State.withFollower_selector : (s.withFollower x).selector = s.selector := rfl
@[simp] theorem State.withFollower_follower : (s.withFollower x).follower = x := rfl
@[simp] theorem State.withFollower_peers : (s.withFollower x).peers = s.peers := rfl
@[simp] theorem State.withFollower_announcer : (s.withFollower x).announcer = s.announcer := rfl
@[simp] theorem State.withFollower_bus : (s.withFollower x).bus = s.bus := rfl
@[simp] theorem State.withFollower_log : (s.withFollower x).log = s.log := rfl
@[simp] theorem State.withFollower_port : (s.withFollower x).port = s.port := rfl
@[simp] theorem State.withFollower_pending : (s.withFollower x).pending = s.pending := rfl

end

/-! ### withPeers -/

section

variable (s : State) (x : PeerTable)

@[simp] theorem State.withPeers_hold : (s.withPeers x).hold = s.hold := rfl
@[simp] theorem State.withPeers_cause : (s.withPeers x).cause = s.cause := rfl
@[simp] theorem State.withPeers_pins : (s.withPeers x).pins = s.pins := rfl
@[simp] theorem State.withPeers_loader : (s.withPeers x).loader = s.loader := rfl
@[simp] theorem State.withPeers_monitors : (s.withPeers x).monitors = s.monitors := rfl
@[simp] theorem State.withPeers_records : (s.withPeers x).records = s.records := rfl
@[simp] theorem State.withPeers_selector : (s.withPeers x).selector = s.selector := rfl
@[simp] theorem State.withPeers_follower : (s.withPeers x).follower = s.follower := rfl
@[simp] theorem State.withPeers_peers : (s.withPeers x).peers = x := rfl
@[simp] theorem State.withPeers_announcer : (s.withPeers x).announcer = s.announcer := rfl
@[simp] theorem State.withPeers_bus : (s.withPeers x).bus = s.bus := rfl
@[simp] theorem State.withPeers_log : (s.withPeers x).log = s.log := rfl
@[simp] theorem State.withPeers_port : (s.withPeers x).port = s.port := rfl
@[simp] theorem State.withPeers_pending : (s.withPeers x).pending = s.pending := rfl

end

/-! ### withAnnouncer -/

section

variable (s : State) (x : Announcer)

@[simp] theorem State.withAnnouncer_hold : (s.withAnnouncer x).hold = s.hold := rfl
@[simp] theorem State.withAnnouncer_cause : (s.withAnnouncer x).cause = s.cause := rfl
@[simp] theorem State.withAnnouncer_pins : (s.withAnnouncer x).pins = s.pins := rfl
@[simp] theorem State.withAnnouncer_loader : (s.withAnnouncer x).loader = s.loader := rfl
@[simp] theorem State.withAnnouncer_monitors : (s.withAnnouncer x).monitors = s.monitors := rfl
@[simp] theorem State.withAnnouncer_records : (s.withAnnouncer x).records = s.records := rfl
@[simp] theorem State.withAnnouncer_selector : (s.withAnnouncer x).selector = s.selector := rfl
@[simp] theorem State.withAnnouncer_follower : (s.withAnnouncer x).follower = s.follower := rfl
@[simp] theorem State.withAnnouncer_peers : (s.withAnnouncer x).peers = s.peers := rfl
@[simp] theorem State.withAnnouncer_announcer : (s.withAnnouncer x).announcer = x := rfl
@[simp] theorem State.withAnnouncer_bus : (s.withAnnouncer x).bus = s.bus := rfl
@[simp] theorem State.withAnnouncer_log : (s.withAnnouncer x).log = s.log := rfl
@[simp] theorem State.withAnnouncer_port : (s.withAnnouncer x).port = s.port := rfl
@[simp] theorem State.withAnnouncer_pending : (s.withAnnouncer x).pending = s.pending := rfl

end

/-! ### withBus -/

section

variable (s : State) (x : Bus)

@[simp] theorem State.withBus_hold : (s.withBus x).hold = s.hold := rfl
@[simp] theorem State.withBus_cause : (s.withBus x).cause = s.cause := rfl
@[simp] theorem State.withBus_pins : (s.withBus x).pins = s.pins := rfl
@[simp] theorem State.withBus_loader : (s.withBus x).loader = s.loader := rfl
@[simp] theorem State.withBus_monitors : (s.withBus x).monitors = s.monitors := rfl
@[simp] theorem State.withBus_records : (s.withBus x).records = s.records := rfl
@[simp] theorem State.withBus_selector : (s.withBus x).selector = s.selector := rfl
@[simp] theorem State.withBus_follower : (s.withBus x).follower = s.follower := rfl
@[simp] theorem State.withBus_peers : (s.withBus x).peers = s.peers := rfl
@[simp] theorem State.withBus_announcer : (s.withBus x).announcer = s.announcer := rfl
@[simp] theorem State.withBus_bus : (s.withBus x).bus = x := rfl
@[simp] theorem State.withBus_log : (s.withBus x).log = s.log := rfl
@[simp] theorem State.withBus_port : (s.withBus x).port = s.port := rfl
@[simp] theorem State.withBus_pending : (s.withBus x).pending = s.pending := rfl

end

/-! ### withLog -/

section

variable (s : State) (x : EventLog)

@[simp] theorem State.withLog_hold : (s.withLog x).hold = s.hold := rfl
@[simp] theorem State.withLog_cause : (s.withLog x).cause = s.cause := rfl
@[simp] theorem State.withLog_pins : (s.withLog x).pins = s.pins := rfl
@[simp] theorem State.withLog_loader : (s.withLog x).loader = s.loader := rfl
@[simp] theorem State.withLog_monitors : (s.withLog x).monitors = s.monitors := rfl
@[simp] theorem State.withLog_records : (s.withLog x).records = s.records := rfl
@[simp] theorem State.withLog_selector : (s.withLog x).selector = s.selector := rfl
@[simp] theorem State.withLog_follower : (s.withLog x).follower = s.follower := rfl
@[simp] theorem State.withLog_peers : (s.withLog x).peers = s.peers := rfl
@[simp] theorem State.withLog_announcer : (s.withLog x).announcer = s.announcer := rfl
@[simp] theorem State.withLog_bus : (s.withLog x).bus = s.bus := rfl
@[simp] theorem State.withLog_log : (s.withLog x).log = x := rfl
@[simp] theorem State.withLog_port : (s.withLog x).port = s.port := rfl
@[simp] theorem State.withLog_pending : (s.withLog x).pending = s.pending := rfl

end

/-! ### withPort -/

section

variable (s : State) (x : Port)

@[simp] theorem State.withPort_hold : (s.withPort x).hold = s.hold := rfl
@[simp] theorem State.withPort_cause : (s.withPort x).cause = s.cause := rfl
@[simp] theorem State.withPort_pins : (s.withPort x).pins = s.pins := rfl
@[simp] theorem State.withPort_loader : (s.withPort x).loader = s.loader := rfl
@[simp] theorem State.withPort_monitors : (s.withPort x).monitors = s.monitors := rfl
@[simp] theorem State.withPort_records : (s.withPort x).records = s.records := rfl
@[simp] theorem State.withPort_selector : (s.withPort x).selector = s.selector := rfl
@[simp] theorem State.withPort_follower : (s.withPort x).follower = s.follower := rfl
@[simp] theorem State.withPort_peers : (s.withPort x).peers = s.peers := rfl
@[simp] theorem State.withPort_announcer : (s.withPort x).announcer = s.announcer := rfl
@[simp] theorem State.withPort_bus : (s.withPort x).bus = s.bus := rfl
@[simp] theorem State.withPort_log : (s.withPort x).log = s.log := rfl
@[simp] theorem State.withPort_port : (s.withPort x).port = x := rfl
@[simp] theorem State.withPort_pending : (s.withPort x).pending = s.pending := rfl

end

/-! ### withMonitor -/

section

variable (s : State) (i : Inp) (x : Monitor)

@[simp] theorem State.withMonitor_hold : (s.withMonitor i x).hold = s.hold := rfl
@[simp] theorem State.withMonitor_cause : (s.withMonitor i x).cause = s.cause := rfl
@[simp] theorem State.withMonitor_pins : (s.withMonitor i x).pins = s.pins := rfl
@[simp] theorem State.withMonitor_loader : (s.withMonitor i x).loader = s.loader := rfl
@[simp] theorem State.withMonitor_monitors : (s.withMonitor i x).monitors = s.monitors.set i x := rfl
@[simp] theorem State.withMonitor_records : (s.withMonitor i x).records = s.records := rfl
@[simp] theorem State.withMonitor_selector : (s.withMonitor i x).selector = s.selector := rfl
@[simp] theorem State.withMonitor_follower : (s.withMonitor i x).follower = s.follower := rfl
@[simp] theorem State.withMonitor_peers : (s.withMonitor i x).peers = s.peers := rfl
@[simp] theorem State.withMonitor_announcer : (s.withMonitor i x).announcer = s.announcer := rfl
@[simp] theorem State.withMonitor_bus : (s.withMonitor i x).bus = s.bus := rfl
@[simp] theorem State.withMonitor_log : (s.withMonitor i x).log = s.log := rfl
@[simp] theorem State.withMonitor_port : (s.withMonitor i x).port = s.port := rfl
@[simp] theorem State.withMonitor_pending : (s.withMonitor i x).pending = s.pending := rfl

end

/-! ### withRecord -/

section

variable (s : State) (i : Inp) (x : InputRec)

@[simp] theorem State.withRecord_hold : (s.withRecord i x).hold = s.hold := rfl
@[simp] theorem State.withRecord_cause : (s.withRecord i x).cause = s.cause := rfl
@[simp] theorem State.withRecord_pins : (s.withRecord i x).pins = s.pins := rfl
@[simp] theorem State.withRecord_loader : (s.withRecord i x).loader = s.loader := rfl
@[simp] theorem State.withRecord_monitors : (s.withRecord i x).monitors = s.monitors := rfl
@[simp] theorem State.withRecord_records : (s.withRecord i x).records = s.records.set i x := rfl
@[simp] theorem State.withRecord_selector : (s.withRecord i x).selector = s.selector := rfl
@[simp] theorem State.withRecord_follower : (s.withRecord i x).follower = s.follower := rfl
@[simp] theorem State.withRecord_peers : (s.withRecord i x).peers = s.peers := rfl
@[simp] theorem State.withRecord_announcer : (s.withRecord i x).announcer = s.announcer := rfl
@[simp] theorem State.withRecord_bus : (s.withRecord i x).bus = s.bus := rfl
@[simp] theorem State.withRecord_log : (s.withRecord i x).log = s.log := rfl
@[simp] theorem State.withRecord_port : (s.withRecord i x).port = s.port := rfl
@[simp] theorem State.withRecord_pending : (s.withRecord i x).pending = s.pending := rfl

end

/-! ### withActive -/

section

variable (s : State) (x : Option Inp)

@[simp] theorem State.withActive_hold : (s.withActive x).hold = s.hold := rfl
@[simp] theorem State.withActive_cause : (s.withActive x).cause = s.cause := rfl
@[simp] theorem State.withActive_pins : (s.withActive x).pins = s.pins := rfl
@[simp] theorem State.withActive_loader : (s.withActive x).loader = s.loader := rfl
@[simp] theorem State.withActive_monitors : (s.withActive x).monitors = s.monitors := rfl
@[simp] theorem State.withActive_records : (s.withActive x).records = s.records := rfl
@[simp] theorem State.withActive_selector : (s.withActive x).selector = { s.selector with active := x } := rfl
@[simp] theorem State.withActive_follower : (s.withActive x).follower = s.follower := rfl
@[simp] theorem State.withActive_peers : (s.withActive x).peers = s.peers := rfl
@[simp] theorem State.withActive_announcer : (s.withActive x).announcer = s.announcer := rfl
@[simp] theorem State.withActive_bus : (s.withActive x).bus = s.bus := rfl
@[simp] theorem State.withActive_log : (s.withActive x).log = s.log := rfl
@[simp] theorem State.withActive_port : (s.withActive x).port = s.port := rfl
@[simp] theorem State.withActive_pending : (s.withActive x).pending = s.pending := rfl

end

/-! ### withForce -/

section

variable (s : State) (x : Force)

@[simp] theorem State.withForce_hold : (s.withForce x).hold = s.hold := rfl
@[simp] theorem State.withForce_cause : (s.withForce x).cause = s.cause := rfl
@[simp] theorem State.withForce_pins : (s.withForce x).pins = s.pins := rfl
@[simp] theorem State.withForce_loader : (s.withForce x).loader = s.loader := rfl
@[simp] theorem State.withForce_monitors : (s.withForce x).monitors = s.monitors := rfl
@[simp] theorem State.withForce_records : (s.withForce x).records = s.records := rfl
@[simp] theorem State.withForce_selector : (s.withForce x).selector = { s.selector with force := x } := rfl
@[simp] theorem State.withForce_follower : (s.withForce x).follower = s.follower := rfl
@[simp] theorem State.withForce_peers : (s.withForce x).peers = s.peers := rfl
@[simp] theorem State.withForce_announcer : (s.withForce x).announcer = s.announcer := rfl
@[simp] theorem State.withForce_bus : (s.withForce x).bus = s.bus := rfl
@[simp] theorem State.withForce_log : (s.withForce x).log = s.log := rfl
@[simp] theorem State.withForce_port : (s.withForce x).port = s.port := rfl
@[simp] theorem State.withForce_pending : (s.withForce x).pending = s.pending := rfl

end

/-! ### withEntry -/

section

variable (s : State) (k : Slot) (x : Option PeerEntry)

@[simp] theorem State.withEntry_hold : (s.withEntry k x).hold = s.hold := rfl
@[simp] theorem State.withEntry_cause : (s.withEntry k x).cause = s.cause := rfl
@[simp] theorem State.withEntry_pins : (s.withEntry k x).pins = s.pins := rfl
@[simp] theorem State.withEntry_loader : (s.withEntry k x).loader = s.loader := rfl
@[simp] theorem State.withEntry_monitors : (s.withEntry k x).monitors = s.monitors := rfl
@[simp] theorem State.withEntry_records : (s.withEntry k x).records = s.records := rfl
@[simp] theorem State.withEntry_selector : (s.withEntry k x).selector = s.selector := rfl
@[simp] theorem State.withEntry_follower : (s.withEntry k x).follower = s.follower := rfl
@[simp] theorem State.withEntry_announcer : (s.withEntry k x).announcer = s.announcer := rfl
@[simp] theorem State.withEntry_bus : (s.withEntry k x).bus = s.bus := rfl
@[simp] theorem State.withEntry_log : (s.withEntry k x).log = s.log := rfl
@[simp] theorem State.withEntry_port : (s.withEntry k x).port = s.port := rfl
@[simp] theorem State.withEntry_pending : (s.withEntry k x).pending = s.pending := rfl
@[simp] theorem State.withEntry_entries : (s.withEntry k x).peers.entries = s.peers.entries.set k x := rfl
@[simp] theorem State.withEntry_windows : (s.withEntry k x).peers.windows = s.peers.windows := rfl
@[simp] theorem State.withEntry_untrusted : (s.withEntry k x).peers.untrusted = s.peers.untrusted := rfl
@[simp] theorem State.withEntry_rateDiscarded : (s.withEntry k x).peers.rateDiscarded = s.peers.rateDiscarded := rfl
@[simp] theorem State.withEntry_seqDiscarded : (s.withEntry k x).peers.seqDiscarded = s.peers.seqDiscarded := rfl

end

/-! ### withWindow -/

section

variable (s : State) (k : Slot) (x : Option RateWindow)

@[simp] theorem State.withWindow_hold : (s.withWindow k x).hold = s.hold := rfl
@[simp] theorem State.withWindow_cause : (s.withWindow k x).cause = s.cause := rfl
@[simp] theorem State.withWindow_pins : (s.withWindow k x).pins = s.pins := rfl
@[simp] theorem State.withWindow_loader : (s.withWindow k x).loader = s.loader := rfl
@[simp] theorem State.withWindow_monitors : (s.withWindow k x).monitors = s.monitors := rfl
@[simp] theorem State.withWindow_records : (s.withWindow k x).records = s.records := rfl
@[simp] theorem State.withWindow_selector : (s.withWindow k x).selector = s.selector := rfl
@[simp] theorem State.withWindow_follower : (s.withWindow k x).follower = s.follower := rfl
@[simp] theorem State.withWindow_announcer : (s.withWindow k x).announcer = s.announcer := rfl
@[simp] theorem State.withWindow_bus : (s.withWindow k x).bus = s.bus := rfl
@[simp] theorem State.withWindow_log : (s.withWindow k x).log = s.log := rfl
@[simp] theorem State.withWindow_port : (s.withWindow k x).port = s.port := rfl
@[simp] theorem State.withWindow_pending : (s.withWindow k x).pending = s.pending := rfl
@[simp] theorem State.withWindow_entries : (s.withWindow k x).peers.entries = s.peers.entries := rfl
@[simp] theorem State.withWindow_windows : (s.withWindow k x).peers.windows = s.peers.windows.set k x := rfl
@[simp] theorem State.withWindow_untrusted : (s.withWindow k x).peers.untrusted = s.peers.untrusted := rfl
@[simp] theorem State.withWindow_rateDiscarded : (s.withWindow k x).peers.rateDiscarded = s.peers.rateDiscarded := rfl
@[simp] theorem State.withWindow_seqDiscarded : (s.withWindow k x).peers.seqDiscarded = s.peers.seqDiscarded := rfl

end

/-! ### Reading one input or station after an update -/

theorem State.withMonitor_get (s : State) (i j : Inp) (x : Monitor) :
    (s.withMonitor i x).monitors[j] = if i = j then x else s.monitors[j] := by
  simp [State.withMonitor, Vector.getElem_set, Fin.ext_iff]

theorem State.withRecord_get (s : State) (i j : Inp) (x : InputRec) :
    (s.withRecord i x).records[j] = if i = j then x else s.records[j] := by
  simp [State.withRecord, Vector.getElem_set, Fin.ext_iff]

theorem State.withEntry_get (s : State) (k j : Slot) (x : Option PeerEntry) :
    (s.withEntry k x).peers.entries[j] = if k = j then x else s.peers.entries[j] := by
  simp [State.withEntry, Vector.getElem_set, Fin.ext_iff]

theorem State.withWindow_get (s : State) (k j : Slot) (x : Option RateWindow) :
    (s.withWindow k x).peers.windows[j] = if k = j then x else s.peers.windows[j] := by
  simp [State.withWindow, Vector.getElem_set, Fin.ext_iff]

@[simp] theorem State.withMonitor_self (s : State) (i : Inp) (x : Monitor) :
    (s.withMonitor i x).monitors[i] = x := by simp

@[simp] theorem State.withRecord_self (s : State) (i : Inp) (x : InputRec) :
    (s.withRecord i x).records[i] = x := by simp

end Sys2Proof.Machine
end

