-- ==== Sys2Proof/Laws/Frames.lean ====
section
/-! SUPPORT. The frames of the shared operations, field by field: what each operation leaves as it was. -/

namespace Sys2Proof.Machine

/-! ### logEvent -/

section

variable (k : EventKind) (a b : Nat) (s : State)

@[simp] theorem logEvent_hold : (logEvent k a b s).hold = s.hold := rfl
@[simp] theorem logEvent_cause : (logEvent k a b s).cause = s.cause := rfl
@[simp] theorem logEvent_pins : (logEvent k a b s).pins = s.pins := rfl
@[simp] theorem logEvent_loader : (logEvent k a b s).loader = s.loader := rfl
@[simp] theorem logEvent_monitors : (logEvent k a b s).monitors = s.monitors := rfl
@[simp] theorem logEvent_records : (logEvent k a b s).records = s.records := rfl
@[simp] theorem logEvent_selector : (logEvent k a b s).selector = s.selector := rfl
@[simp] theorem logEvent_follower : (logEvent k a b s).follower = s.follower := rfl
@[simp] theorem logEvent_peers : (logEvent k a b s).peers = s.peers := rfl
@[simp] theorem logEvent_announcer : (logEvent k a b s).announcer = s.announcer := rfl
@[simp] theorem logEvent_bus : (logEvent k a b s).bus = s.bus := rfl
@[simp] theorem logEvent_port : (logEvent k a b s).port = s.port := rfl
@[simp] theorem logEvent_pending : (logEvent k a b s).pending = s.pending := rfl

end

/-! ### countBad -/

section

variable (s : State)

@[simp] theorem countBad_hold : (countBad  s).hold = s.hold := rfl
@[simp] theorem countBad_cause : (countBad  s).cause = s.cause := rfl
@[simp] theorem countBad_pins : (countBad  s).pins = s.pins := rfl
@[simp] theorem countBad_loader : (countBad  s).loader = s.loader := rfl
@[simp] theorem countBad_monitors : (countBad  s).monitors = s.monitors := rfl
@[simp] theorem countBad_records : (countBad  s).records = s.records := rfl
@[simp] theorem countBad_selector : (countBad  s).selector = s.selector := rfl
@[simp] theorem countBad_follower : (countBad  s).follower = s.follower := rfl
@[simp] theorem countBad_peers : (countBad  s).peers = s.peers := rfl
@[simp] theorem countBad_announcer : (countBad  s).announcer = s.announcer := rfl
@[simp] theorem countBad_log : (countBad  s).log = s.log := rfl
@[simp] theorem countBad_port : (countBad  s).port = s.port := rfl
@[simp] theorem countBad_pending : (countBad  s).pending = s.pending := rfl

end

/-! ### countUntrusted -/

section

variable (s : State)

@[simp] theorem countUntrusted_hold : (countUntrusted  s).hold = s.hold := rfl
@[simp] theorem countUntrusted_cause : (countUntrusted  s).cause = s.cause := rfl
@[simp] theorem countUntrusted_pins : (countUntrusted  s).pins = s.pins := rfl
@[simp] theorem countUntrusted_loader : (countUntrusted  s).loader = s.loader := rfl
@[simp] theorem countUntrusted_monitors : (countUntrusted  s).monitors = s.monitors := rfl
@[simp] theorem countUntrusted_records : (countUntrusted  s).records = s.records := rfl
@[simp] theorem countUntrusted_selector : (countUntrusted  s).selector = s.selector := rfl
@[simp] theorem countUntrusted_follower : (countUntrusted  s).follower = s.follower := rfl
@[simp] theorem countUntrusted_announcer : (countUntrusted  s).announcer = s.announcer := rfl
@[simp] theorem countUntrusted_bus : (countUntrusted  s).bus = s.bus := rfl
@[simp] theorem countUntrusted_log : (countUntrusted  s).log = s.log := rfl
@[simp] theorem countUntrusted_port : (countUntrusted  s).port = s.port := rfl
@[simp] theorem countUntrusted_pending : (countUntrusted  s).pending = s.pending := rfl

end

/-! ### countRate -/

section

variable (s : State)

@[simp] theorem countRate_hold : (countRate  s).hold = s.hold := rfl
@[simp] theorem countRate_cause : (countRate  s).cause = s.cause := rfl
@[simp] theorem countRate_pins : (countRate  s).pins = s.pins := rfl
@[simp] theorem countRate_loader : (countRate  s).loader = s.loader := rfl
@[simp] theorem countRate_monitors : (countRate  s).monitors = s.monitors := rfl
@[simp] theorem countRate_records : (countRate  s).records = s.records := rfl
@[simp] theorem countRate_selector : (countRate  s).selector = s.selector := rfl
@[simp] theorem countRate_follower : (countRate  s).follower = s.follower := rfl
@[simp] theorem countRate_announcer : (countRate  s).announcer = s.announcer := rfl
@[simp] theorem countRate_bus : (countRate  s).bus = s.bus := rfl
@[simp] theorem countRate_log : (countRate  s).log = s.log := rfl
@[simp] theorem countRate_port : (countRate  s).port = s.port := rfl
@[simp] theorem countRate_pending : (countRate  s).pending = s.pending := rfl

end

/-! ### countSequence -/

section

variable (s : State)

@[simp] theorem countSequence_hold : (countSequence  s).hold = s.hold := rfl
@[simp] theorem countSequence_cause : (countSequence  s).cause = s.cause := rfl
@[simp] theorem countSequence_pins : (countSequence  s).pins = s.pins := rfl
@[simp] theorem countSequence_loader : (countSequence  s).loader = s.loader := rfl
@[simp] theorem countSequence_monitors : (countSequence  s).monitors = s.monitors := rfl
@[simp] theorem countSequence_records : (countSequence  s).records = s.records := rfl
@[simp] theorem countSequence_selector : (countSequence  s).selector = s.selector := rfl
@[simp] theorem countSequence_follower : (countSequence  s).follower = s.follower := rfl
@[simp] theorem countSequence_announcer : (countSequence  s).announcer = s.announcer := rfl
@[simp] theorem countSequence_bus : (countSequence  s).bus = s.bus := rfl
@[simp] theorem countSequence_log : (countSequence  s).log = s.log := rfl
@[simp] theorem countSequence_port : (countSequence  s).port = s.port := rfl
@[simp] theorem countSequence_pending : (countSequence  s).pending = s.pending := rfl

end

/-! ### answer -/

section

variable (n : Nat) (bytes : List Byte) (s : State)

@[simp] theorem answer_hold : (answer n bytes s).hold = s.hold := rfl
@[simp] theorem answer_cause : (answer n bytes s).cause = s.cause := rfl
@[simp] theorem answer_pins : (answer n bytes s).pins = s.pins := rfl
@[simp] theorem answer_loader : (answer n bytes s).loader = s.loader := rfl
@[simp] theorem answer_monitors : (answer n bytes s).monitors = s.monitors := rfl
@[simp] theorem answer_records : (answer n bytes s).records = s.records := rfl
@[simp] theorem answer_selector : (answer n bytes s).selector = s.selector := rfl
@[simp] theorem answer_follower : (answer n bytes s).follower = s.follower := rfl
@[simp] theorem answer_peers : (answer n bytes s).peers = s.peers := rfl
@[simp] theorem answer_announcer : (answer n bytes s).announcer = s.announcer := rfl
@[simp] theorem answer_bus : (answer n bytes s).bus = s.bus := rfl
@[simp] theorem answer_log : (answer n bytes s).log = s.log := rfl
@[simp] theorem answer_pending : (answer n bytes s).pending = s.pending := rfl

end

/-! ### computeValue -/

section

variable (a : Option Inp) (s : State)

@[simp] theorem computeValue_hold : (computeValue a s).hold = s.hold := by
  unfold computeValue
  repeat' split
  all_goals simp
@[simp] theorem computeValue_cause : (computeValue a s).cause = s.cause := by
  unfold computeValue
  repeat' split
  all_goals simp
@[simp] theorem computeValue_pins : (computeValue a s).pins = s.pins := by
  unfold computeValue
  repeat' split
  all_goals simp
@[simp] theorem computeValue_loader : (computeValue a s).loader = s.loader := by
  unfold computeValue
  repeat' split
  all_goals simp
@[simp] theorem computeValue_monitors : (computeValue a s).monitors = s.monitors := by
  unfold computeValue
  repeat' split
  all_goals simp
@[simp] theorem computeValue_records : (computeValue a s).records = s.records := by
  unfold computeValue
  repeat' split
  all_goals simp
@[simp] theorem computeValue_selector : (computeValue a s).selector = s.selector := by
  unfold computeValue
  repeat' split
  all_goals simp
@[simp] theorem computeValue_peers : (computeValue a s).peers = s.peers := by
  unfold computeValue
  repeat' split
  all_goals simp
@[simp] theorem computeValue_announcer : (computeValue a s).announcer = s.announcer := by
  unfold computeValue
  repeat' split
  all_goals simp
@[simp] theorem computeValue_bus : (computeValue a s).bus = s.bus := by
  unfold computeValue
  repeat' split
  all_goals simp
@[simp] theorem computeValue_log : (computeValue a s).log = s.log := by
  unfold computeValue
  repeat' split
  all_goals simp
@[simp] theorem computeValue_port : (computeValue a s).port = s.port := by
  unfold computeValue
  repeat' split
  all_goals simp
@[simp] theorem computeValue_pending : (computeValue a s).pending = s.pending := by
  unfold computeValue
  repeat' split
  all_goals simp

end

/-! ### enterBridging -/

section

variable (i : Inp) (s : State)

@[simp] theorem enterBridging_hold : (enterBridging i s).hold = s.hold := by simp [enterBridging]
@[simp] theorem enterBridging_cause : (enterBridging i s).cause = s.cause := by simp [enterBridging]
@[simp] theorem enterBridging_pins : (enterBridging i s).pins = s.pins := by simp [enterBridging]
@[simp] theorem enterBridging_loader : (enterBridging i s).loader = s.loader := by simp [enterBridging]
@[simp] theorem enterBridging_monitors : (enterBridging i s).monitors = s.monitors := by simp [enterBridging]
@[simp] theorem enterBridging_records : (enterBridging i s).records = s.records := by simp [enterBridging]
@[simp] theorem enterBridging_selector : (enterBridging i s).selector = s.selector := by simp [enterBridging]
@[simp] theorem enterBridging_peers : (enterBridging i s).peers = s.peers := by simp [enterBridging]
@[simp] theorem enterBridging_announcer : (enterBridging i s).announcer = s.announcer := by simp [enterBridging]
@[simp] theorem enterBridging_bus : (enterBridging i s).bus = s.bus := by simp [enterBridging]
@[simp] theorem enterBridging_log : (enterBridging i s).log = s.log := by simp [enterBridging]
@[simp] theorem enterBridging_port : (enterBridging i s).port = s.port := by simp [enterBridging]
@[simp] theorem enterBridging_pending : (enterBridging i s).pending = s.pending := by simp [enterBridging]

end

/-! ### leaveBridging -/

section

variable (s : State)

@[simp] theorem leaveBridging_hold : (leaveBridging  s).hold = s.hold := by
  unfold leaveBridging
  repeat' split
  all_goals simp
@[simp] theorem leaveBridging_cause : (leaveBridging  s).cause = s.cause := by
  unfold leaveBridging
  repeat' split
  all_goals simp
@[simp] theorem leaveBridging_pins : (leaveBridging  s).pins = s.pins := by
  unfold leaveBridging
  repeat' split
  all_goals simp
@[simp] theorem leaveBridging_loader : (leaveBridging  s).loader = s.loader := by
  unfold leaveBridging
  repeat' split
  all_goals simp
@[simp] theorem leaveBridging_monitors : (leaveBridging  s).monitors = s.monitors := by
  unfold leaveBridging
  repeat' split
  all_goals simp
@[simp] theorem leaveBridging_records : (leaveBridging  s).records = s.records := by
  unfold leaveBridging
  repeat' split
  all_goals simp
@[simp] theorem leaveBridging_selector : (leaveBridging  s).selector = s.selector := by
  unfold leaveBridging
  repeat' split
  all_goals simp
@[simp] theorem leaveBridging_peers : (leaveBridging  s).peers = s.peers := by
  unfold leaveBridging
  repeat' split
  all_goals simp
@[simp] theorem leaveBridging_announcer : (leaveBridging  s).announcer = s.announcer := by
  unfold leaveBridging
  repeat' split
  all_goals simp
@[simp] theorem leaveBridging_bus : (leaveBridging  s).bus = s.bus := by
  unfold leaveBridging
  repeat' split
  all_goals simp
@[simp] theorem leaveBridging_log : (leaveBridging  s).log = s.log := by
  unfold leaveBridging
  repeat' split
  all_goals simp
@[simp] theorem leaveBridging_port : (leaveBridging  s).port = s.port := by
  unfold leaveBridging
  repeat' split
  all_goals simp
@[simp] theorem leaveBridging_pending : (leaveBridging  s).pending = s.pending := by
  unfold leaveBridging
  repeat' split
  all_goals simp

end

/-! ### logNotice -/

section

variable (i : Inp) (r : InputRec) (n : Notice) (s : State)

@[simp] theorem logNotice_hold : (logNotice i r n s).hold = s.hold := by
  unfold logNotice
  repeat' split
  all_goals simp
@[simp] theorem logNotice_cause : (logNotice i r n s).cause = s.cause := by
  unfold logNotice
  repeat' split
  all_goals simp
@[simp] theorem logNotice_pins : (logNotice i r n s).pins = s.pins := by
  unfold logNotice
  repeat' split
  all_goals simp
@[simp] theorem logNotice_loader : (logNotice i r n s).loader = s.loader := by
  unfold logNotice
  repeat' split
  all_goals simp
@[simp] theorem logNotice_monitors : (logNotice i r n s).monitors = s.monitors := by
  unfold logNotice
  repeat' split
  all_goals simp
@[simp] theorem logNotice_records : (logNotice i r n s).records = s.records := by
  unfold logNotice
  repeat' split
  all_goals simp
@[simp] theorem logNotice_selector : (logNotice i r n s).selector = s.selector := by
  unfold logNotice
  repeat' split
  all_goals simp
@[simp] theorem logNotice_follower : (logNotice i r n s).follower = s.follower := by
  unfold logNotice
  repeat' split
  all_goals simp
@[simp] theorem logNotice_peers : (logNotice i r n s).peers = s.peers := by
  unfold logNotice
  repeat' split
  all_goals simp
@[simp] theorem logNotice_announcer : (logNotice i r n s).announcer = s.announcer := by
  unfold logNotice
  repeat' split
  all_goals simp
@[simp] theorem logNotice_bus : (logNotice i r n s).bus = s.bus := by
  unfold logNotice
  repeat' split
  all_goals simp
@[simp] theorem logNotice_port : (logNotice i r n s).port = s.port := by
  unfold logNotice
  repeat' split
  all_goals simp
@[simp] theorem logNotice_pending : (logNotice i r n s).pending = s.pending := by
  unfold logNotice
  repeat' split
  all_goals simp

end

/-! ### followMove -/

section

variable (i : Inp) (r r' : InputRec) (s : State)

@[simp] theorem followMove_hold : (followMove i r r' s).hold = s.hold := by
  unfold followMove
  repeat' split
  all_goals simp
@[simp] theorem followMove_cause : (followMove i r r' s).cause = s.cause := by
  unfold followMove
  repeat' split
  all_goals simp
@[simp] theorem followMove_pins : (followMove i r r' s).pins = s.pins := by
  unfold followMove
  repeat' split
  all_goals simp
@[simp] theorem followMove_loader : (followMove i r r' s).loader = s.loader := by
  unfold followMove
  repeat' split
  all_goals simp
@[simp] theorem followMove_monitors : (followMove i r r' s).monitors = s.monitors := by
  unfold followMove
  repeat' split
  all_goals simp
@[simp] theorem followMove_records : (followMove i r r' s).records = s.records := by
  unfold followMove
  repeat' split
  all_goals simp
@[simp] theorem followMove_peers : (followMove i r r' s).peers = s.peers := by
  unfold followMove
  repeat' split
  all_goals simp
@[simp] theorem followMove_announcer : (followMove i r r' s).announcer = s.announcer := by
  unfold followMove
  repeat' split
  all_goals simp
@[simp] theorem followMove_bus : (followMove i r r' s).bus = s.bus := by
  unfold followMove
  repeat' split
  all_goals simp
@[simp] theorem followMove_log : (followMove i r r' s).log = s.log := by
  unfold followMove
  repeat' split
  all_goals simp
@[simp] theorem followMove_port : (followMove i r r' s).port = s.port := by
  unfold followMove
  repeat' split
  all_goals simp
@[simp] theorem followMove_pending : (followMove i r r' s).pending = s.pending := by
  unfold followMove
  repeat' split
  all_goals simp

end

/-! ### applyMove -/

section

variable (i : Inp) (m : InputRec × Notice) (s : State)

@[simp] theorem applyMove_hold : (applyMove i m s).hold = s.hold := by simp [applyMove]
@[simp] theorem applyMove_cause : (applyMove i m s).cause = s.cause := by simp [applyMove]
@[simp] theorem applyMove_pins : (applyMove i m s).pins = s.pins := by simp [applyMove]
@[simp] theorem applyMove_loader : (applyMove i m s).loader = s.loader := by simp [applyMove]
@[simp] theorem applyMove_monitors : (applyMove i m s).monitors = s.monitors := by simp [applyMove]
@[simp] theorem applyMove_peers : (applyMove i m s).peers = s.peers := by simp [applyMove]
@[simp] theorem applyMove_announcer : (applyMove i m s).announcer = s.announcer := by simp [applyMove]
@[simp] theorem applyMove_bus : (applyMove i m s).bus = s.bus := by simp [applyMove]
@[simp] theorem applyMove_port : (applyMove i m s).port = s.port := by simp [applyMove]
@[simp] theorem applyMove_pending : (applyMove i m s).pending = s.pending := by simp [applyMove]

end

/-! ### qualify -/

section

variable (i : Inp) (r : Reasons) (s : State)

@[simp] theorem qualify_hold : (qualify i r s).hold = s.hold := by simp [qualify]
@[simp] theorem qualify_cause : (qualify i r s).cause = s.cause := by simp [qualify]
@[simp] theorem qualify_pins : (qualify i r s).pins = s.pins := by simp [qualify]
@[simp] theorem qualify_loader : (qualify i r s).loader = s.loader := by simp [qualify]
@[simp] theorem qualify_monitors : (qualify i r s).monitors = s.monitors := by simp [qualify]
@[simp] theorem qualify_peers : (qualify i r s).peers = s.peers := by simp [qualify]
@[simp] theorem qualify_announcer : (qualify i r s).announcer = s.announcer := by simp [qualify]
@[simp] theorem qualify_bus : (qualify i r s).bus = s.bus := by simp [qualify]
@[simp] theorem qualify_port : (qualify i r s).port = s.port := by simp [qualify]
@[simp] theorem qualify_pending : (qualify i r s).pending = s.pending := by simp [qualify]

end

/-! ### recompute -/

section

variable (i : Inp) (s : State)

@[simp] theorem recompute_hold : (recompute i s).hold = s.hold := by simp [recompute]
@[simp] theorem recompute_cause : (recompute i s).cause = s.cause := by simp [recompute]
@[simp] theorem recompute_pins : (recompute i s).pins = s.pins := by simp [recompute]
@[simp] theorem recompute_loader : (recompute i s).loader = s.loader := by simp [recompute]
@[simp] theorem recompute_monitors : (recompute i s).monitors = s.monitors := by simp [recompute]
@[simp] theorem recompute_peers : (recompute i s).peers = s.peers := by simp [recompute]
@[simp] theorem recompute_announcer : (recompute i s).announcer = s.announcer := by simp [recompute]
@[simp] theorem recompute_bus : (recompute i s).bus = s.bus := by simp [recompute]
@[simp] theorem recompute_port : (recompute i s).port = s.port := by simp [recompute]
@[simp] theorem recompute_pending : (recompute i s).pending = s.pending := by simp [recompute]

end

/-- A property of one field that each recomputation keeps is kept by the fold over the bound inputs. -/
theorem recomputeBound_keeps {α : Type} (f : State → α) (h : ∀ (i : Inp) (s : State), f (recompute i s) = f s)
    (a : Nat) (s : State) : f (recomputeBound a s) = f s := by
  unfold recomputeBound
  have fold : ∀ (l : List Inp) (t : State),
      f (l.foldl (fun t i => if boundTo s a i then recompute i t else t) t) = f t := by
    intro l
    induction l with
    | nil => intro t; rfl
    | cons i l ih =>
      intro t
      rw [List.foldl_cons, ih]
      split
      · exact h i t
      · rfl
  exact fold _ s

/-! ### recomputeBound -/

section

variable (a : Nat) (s : State)

@[simp] theorem recomputeBound_hold : (recomputeBound a s).hold = s.hold :=
  recomputeBound_keeps State.hold (fun i t => recompute_hold i t) a s
@[simp] theorem recomputeBound_cause : (recomputeBound a s).cause = s.cause :=
  recomputeBound_keeps State.cause (fun i t => recompute_cause i t) a s
@[simp] theorem recomputeBound_pins : (recomputeBound a s).pins = s.pins :=
  recomputeBound_keeps State.pins (fun i t => recompute_pins i t) a s
@[simp] theorem recomputeBound_loader : (recomputeBound a s).loader = s.loader :=
  recomputeBound_keeps State.loader (fun i t => recompute_loader i t) a s
@[simp] theorem recomputeBound_monitors : (recomputeBound a s).monitors = s.monitors :=
  recomputeBound_keeps State.monitors (fun i t => recompute_monitors i t) a s
@[simp] theorem recomputeBound_peers : (recomputeBound a s).peers = s.peers :=
  recomputeBound_keeps State.peers (fun i t => recompute_peers i t) a s
@[simp] theorem recomputeBound_announcer : (recomputeBound a s).announcer = s.announcer :=
  recomputeBound_keeps State.announcer (fun i t => recompute_announcer i t) a s
@[simp] theorem recomputeBound_bus : (recomputeBound a s).bus = s.bus :=
  recomputeBound_keeps State.bus (fun i t => recompute_bus i t) a s
@[simp] theorem recomputeBound_port : (recomputeBound a s).port = s.port :=
  recomputeBound_keeps State.port (fun i t => recompute_port i t) a s
@[simp] theorem recomputeBound_pending : (recomputeBound a s).pending = s.pending :=
  recomputeBound_keeps State.pending (fun i t => recompute_pending i t) a s

end

/-! ### giveUpActive -/

section

variable (s : State)

@[simp] theorem giveUpActive_hold : (giveUpActive  s).hold = s.hold := by
  unfold giveUpActive
  repeat' split
  all_goals simp
@[simp] theorem giveUpActive_cause : (giveUpActive  s).cause = s.cause := by
  unfold giveUpActive
  repeat' split
  all_goals simp
@[simp] theorem giveUpActive_pins : (giveUpActive  s).pins = s.pins := by
  unfold giveUpActive
  repeat' split
  all_goals simp
@[simp] theorem giveUpActive_loader : (giveUpActive  s).loader = s.loader := by
  unfold giveUpActive
  repeat' split
  all_goals simp
@[simp] theorem giveUpActive_monitors : (giveUpActive  s).monitors = s.monitors := by
  unfold giveUpActive
  repeat' split
  all_goals simp
@[simp] theorem giveUpActive_follower : (giveUpActive  s).follower = s.follower := by
  unfold giveUpActive
  repeat' split
  all_goals simp
@[simp] theorem giveUpActive_peers : (giveUpActive  s).peers = s.peers := by
  unfold giveUpActive
  repeat' split
  all_goals simp
@[simp] theorem giveUpActive_announcer : (giveUpActive  s).announcer = s.announcer := by
  unfold giveUpActive
  repeat' split
  all_goals simp
@[simp] theorem giveUpActive_bus : (giveUpActive  s).bus = s.bus := by
  unfold giveUpActive
  repeat' split
  all_goals simp
@[simp] theorem giveUpActive_log : (giveUpActive  s).log = s.log := by
  unfold giveUpActive
  repeat' split
  all_goals simp
@[simp] theorem giveUpActive_port : (giveUpActive  s).port = s.port := by
  unfold giveUpActive
  repeat' split
  all_goals simp
@[simp] theorem giveUpActive_pending : (giveUpActive  s).pending = s.pending := by
  unfold giveUpActive
  repeat' split
  all_goals simp

end

/-! ### takeInput -/

section

variable (l : Option Inp) (i : Inp) (s : State)

@[simp] theorem takeInput_hold : (takeInput l i s).hold = s.hold := by simp [takeInput]
@[simp] theorem takeInput_cause : (takeInput l i s).cause = s.cause := by simp [takeInput]
@[simp] theorem takeInput_pins : (takeInput l i s).pins = s.pins := by simp [takeInput]
@[simp] theorem takeInput_loader : (takeInput l i s).loader = s.loader := by simp [takeInput]
@[simp] theorem takeInput_monitors : (takeInput l i s).monitors = s.monitors := by simp [takeInput]
@[simp] theorem takeInput_peers : (takeInput l i s).peers = s.peers := by simp [takeInput]
@[simp] theorem takeInput_announcer : (takeInput l i s).announcer = s.announcer := by simp [takeInput]
@[simp] theorem takeInput_bus : (takeInput l i s).bus = s.bus := by simp [takeInput]
@[simp] theorem takeInput_log : (takeInput l i s).log = s.log := by simp [takeInput]
@[simp] theorem takeInput_port : (takeInput l i s).port = s.port := by simp [takeInput]
@[simp] theorem takeInput_pending : (takeInput l i s).pending = s.pending := by simp [takeInput]

end

/-! ### takeOwn -/

section

variable (l : Option Inp) (o : Output) (s : State)

@[simp] theorem takeOwn_hold : (takeOwn l o s).hold = s.hold := by simp [takeOwn]
@[simp] theorem takeOwn_cause : (takeOwn l o s).cause = s.cause := by simp [takeOwn]
@[simp] theorem takeOwn_pins : (takeOwn l o s).pins = s.pins := by simp [takeOwn]
@[simp] theorem takeOwn_loader : (takeOwn l o s).loader = s.loader := by simp [takeOwn]
@[simp] theorem takeOwn_monitors : (takeOwn l o s).monitors = s.monitors := by simp [takeOwn]
@[simp] theorem takeOwn_peers : (takeOwn l o s).peers = s.peers := by simp [takeOwn]
@[simp] theorem takeOwn_announcer : (takeOwn l o s).announcer = s.announcer := by simp [takeOwn]
@[simp] theorem takeOwn_bus : (takeOwn l o s).bus = s.bus := by simp [takeOwn]
@[simp] theorem takeOwn_log : (takeOwn l o s).log = s.log := by simp [takeOwn]
@[simp] theorem takeOwn_port : (takeOwn l o s).port = s.port := by simp [takeOwn]
@[simp] theorem takeOwn_pending : (takeOwn l o s).pending = s.pending := by simp [takeOwn]

end

/-! ### carryOut -/

section

variable (l : Option Inp) (d : Source) (s : State)

@[simp] theorem carryOut_hold : (carryOut l d s).hold = s.hold := by
  unfold carryOut
  repeat' split
  all_goals simp
@[simp] theorem carryOut_cause : (carryOut l d s).cause = s.cause := by
  unfold carryOut
  repeat' split
  all_goals simp
@[simp] theorem carryOut_pins : (carryOut l d s).pins = s.pins := by
  unfold carryOut
  repeat' split
  all_goals simp
@[simp] theorem carryOut_loader : (carryOut l d s).loader = s.loader := by
  unfold carryOut
  repeat' split
  all_goals simp
@[simp] theorem carryOut_monitors : (carryOut l d s).monitors = s.monitors := by
  unfold carryOut
  repeat' split
  all_goals simp
@[simp] theorem carryOut_peers : (carryOut l d s).peers = s.peers := by
  unfold carryOut
  repeat' split
  all_goals simp
@[simp] theorem carryOut_announcer : (carryOut l d s).announcer = s.announcer := by
  unfold carryOut
  repeat' split
  all_goals simp
@[simp] theorem carryOut_bus : (carryOut l d s).bus = s.bus := by
  unfold carryOut
  repeat' split
  all_goals simp
@[simp] theorem carryOut_log : (carryOut l d s).log = s.log := by
  unfold carryOut
  repeat' split
  all_goals simp
@[simp] theorem carryOut_port : (carryOut l d s).port = s.port := by
  unfold carryOut
  repeat' split
  all_goals simp
@[simp] theorem carryOut_pending : (carryOut l d s).pending = s.pending := by
  unfold carryOut
  repeat' split
  all_goals simp

end

/-! ### decideAgain -/

section

variable (d : Source × Cause) (b : State) (s : State)

@[simp] theorem decideAgain_hold : (decideAgain d b s).hold = s.hold := by
  unfold decideAgain
  repeat' split
  all_goals simp
@[simp] theorem decideAgain_cause : (decideAgain d b s).cause = s.cause := by
  unfold decideAgain
  repeat' split
  all_goals simp
@[simp] theorem decideAgain_pins : (decideAgain d b s).pins = s.pins := by
  unfold decideAgain
  repeat' split
  all_goals simp
@[simp] theorem decideAgain_loader : (decideAgain d b s).loader = s.loader := by
  unfold decideAgain
  repeat' split
  all_goals simp
@[simp] theorem decideAgain_monitors : (decideAgain d b s).monitors = s.monitors := by
  unfold decideAgain
  repeat' split
  all_goals simp
@[simp] theorem decideAgain_peers : (decideAgain d b s).peers = s.peers := by
  unfold decideAgain
  repeat' split
  all_goals simp
@[simp] theorem decideAgain_announcer : (decideAgain d b s).announcer = s.announcer := by
  unfold decideAgain
  repeat' split
  all_goals simp
@[simp] theorem decideAgain_bus : (decideAgain d b s).bus = s.bus := by
  unfold decideAgain
  repeat' split
  all_goals simp
@[simp] theorem decideAgain_log : (decideAgain d b s).log = s.log := by
  unfold decideAgain
  repeat' split
  all_goals simp
@[simp] theorem decideAgain_port : (decideAgain d b s).port = s.port := by
  unfold decideAgain
  repeat' split
  all_goals simp
@[simp] theorem decideAgain_pending : (decideAgain d b s).pending = s.pending := by
  unfold decideAgain
  repeat' split
  all_goals simp

end

/-! ### evaluate -/

section

variable (l : Option Inp) (s : State)

@[simp] theorem evaluate_hold : (evaluate l s).1.hold = s.hold := by simp [evaluate]
@[simp] theorem evaluate_cause : (evaluate l s).1.cause = s.cause := by simp [evaluate]
@[simp] theorem evaluate_pins : (evaluate l s).1.pins = s.pins := by simp [evaluate]
@[simp] theorem evaluate_loader : (evaluate l s).1.loader = s.loader := by simp [evaluate]
@[simp] theorem evaluate_monitors : (evaluate l s).1.monitors = s.monitors := by simp [evaluate]
@[simp] theorem evaluate_peers : (evaluate l s).1.peers = s.peers := by simp [evaluate]
@[simp] theorem evaluate_announcer : (evaluate l s).1.announcer = s.announcer := by simp [evaluate]
@[simp] theorem evaluate_bus : (evaluate l s).1.bus = s.bus := by simp [evaluate]
@[simp] theorem evaluate_log : (evaluate l s).1.log = s.log := by simp [evaluate]
@[simp] theorem evaluate_port : (evaluate l s).1.port = s.port := by simp [evaluate]
@[simp] theorem evaluate_pending : (evaluate l s).1.pending = s.pending := by simp [evaluate]

end

/-! ### clearBarredForce -/

section

variable (s : State)

@[simp] theorem clearBarredForce_hold : (clearBarredForce  s).hold = s.hold := by
  unfold clearBarredForce
  repeat' split
  all_goals simp
@[simp] theorem clearBarredForce_cause : (clearBarredForce  s).cause = s.cause := by
  unfold clearBarredForce
  repeat' split
  all_goals simp
@[simp] theorem clearBarredForce_pins : (clearBarredForce  s).pins = s.pins := by
  unfold clearBarredForce
  repeat' split
  all_goals simp
@[simp] theorem clearBarredForce_loader : (clearBarredForce  s).loader = s.loader := by
  unfold clearBarredForce
  repeat' split
  all_goals simp
@[simp] theorem clearBarredForce_monitors : (clearBarredForce  s).monitors = s.monitors := by
  unfold clearBarredForce
  repeat' split
  all_goals simp
@[simp] theorem clearBarredForce_records : (clearBarredForce  s).records = s.records := by
  unfold clearBarredForce
  repeat' split
  all_goals simp
@[simp] theorem clearBarredForce_follower : (clearBarredForce  s).follower = s.follower := by
  unfold clearBarredForce
  repeat' split
  all_goals simp
@[simp] theorem clearBarredForce_peers : (clearBarredForce  s).peers = s.peers := by
  unfold clearBarredForce
  repeat' split
  all_goals simp
@[simp] theorem clearBarredForce_announcer : (clearBarredForce  s).announcer = s.announcer := by
  unfold clearBarredForce
  repeat' split
  all_goals simp
@[simp] theorem clearBarredForce_bus : (clearBarredForce  s).bus = s.bus := by
  unfold clearBarredForce
  repeat' split
  all_goals simp
@[simp] theorem clearBarredForce_port : (clearBarredForce  s).port = s.port := by
  unfold clearBarredForce
  repeat' split
  all_goals simp
@[simp] theorem clearBarredForce_pending : (clearBarredForce  s).pending = s.pending := by
  unfold clearBarredForce
  repeat' split
  all_goals simp

end

/-! ### logSwitch -/

section

variable (b : State) (c : Cause) (s : State)

@[simp] theorem logSwitch_hold : (logSwitch b c s).hold = s.hold := by
  unfold logSwitch
  repeat' split
  all_goals simp
@[simp] theorem logSwitch_cause : (logSwitch b c s).cause = s.cause := by
  unfold logSwitch
  repeat' split
  all_goals simp
@[simp] theorem logSwitch_pins : (logSwitch b c s).pins = s.pins := by
  unfold logSwitch
  repeat' split
  all_goals simp
@[simp] theorem logSwitch_loader : (logSwitch b c s).loader = s.loader := by
  unfold logSwitch
  repeat' split
  all_goals simp
@[simp] theorem logSwitch_monitors : (logSwitch b c s).monitors = s.monitors := by
  unfold logSwitch
  repeat' split
  all_goals simp
@[simp] theorem logSwitch_records : (logSwitch b c s).records = s.records := by
  unfold logSwitch
  repeat' split
  all_goals simp
@[simp] theorem logSwitch_selector : (logSwitch b c s).selector = s.selector := by
  unfold logSwitch
  repeat' split
  all_goals simp
@[simp] theorem logSwitch_follower : (logSwitch b c s).follower = s.follower := by
  unfold logSwitch
  repeat' split
  all_goals simp
@[simp] theorem logSwitch_peers : (logSwitch b c s).peers = s.peers := by
  unfold logSwitch
  repeat' split
  all_goals simp
@[simp] theorem logSwitch_announcer : (logSwitch b c s).announcer = s.announcer := by
  unfold logSwitch
  repeat' split
  all_goals simp
@[simp] theorem logSwitch_bus : (logSwitch b c s).bus = s.bus := by
  unfold logSwitch
  repeat' split
  all_goals simp
@[simp] theorem logSwitch_port : (logSwitch b c s).port = s.port := by
  unfold logSwitch
  repeat' split
  all_goals simp
@[simp] theorem logSwitch_pending : (logSwitch b c s).pending = s.pending := by
  unfold logSwitch
  repeat' split
  all_goals simp

end

/-! ### raiseEvent -/

section

variable (b : State) (s : State)

@[simp] theorem raiseEvent_hold : (raiseEvent b s).hold = s.hold := by
  unfold raiseEvent
  repeat' split
  all_goals simp
@[simp] theorem raiseEvent_cause : (raiseEvent b s).cause = s.cause := by
  unfold raiseEvent
  repeat' split
  all_goals simp
@[simp] theorem raiseEvent_pins : (raiseEvent b s).pins = s.pins := by
  unfold raiseEvent
  repeat' split
  all_goals simp
@[simp] theorem raiseEvent_loader : (raiseEvent b s).loader = s.loader := by
  unfold raiseEvent
  repeat' split
  all_goals simp
@[simp] theorem raiseEvent_monitors : (raiseEvent b s).monitors = s.monitors := by
  unfold raiseEvent
  repeat' split
  all_goals simp
@[simp] theorem raiseEvent_records : (raiseEvent b s).records = s.records := by
  unfold raiseEvent
  repeat' split
  all_goals simp
@[simp] theorem raiseEvent_selector : (raiseEvent b s).selector = s.selector := by
  unfold raiseEvent
  repeat' split
  all_goals simp
@[simp] theorem raiseEvent_follower : (raiseEvent b s).follower = s.follower := by
  unfold raiseEvent
  repeat' split
  all_goals simp
@[simp] theorem raiseEvent_peers : (raiseEvent b s).peers = s.peers := by
  unfold raiseEvent
  repeat' split
  all_goals simp
@[simp] theorem raiseEvent_bus : (raiseEvent b s).bus = s.bus := by
  unfold raiseEvent
  repeat' split
  all_goals simp
@[simp] theorem raiseEvent_log : (raiseEvent b s).log = s.log := by
  unfold raiseEvent
  repeat' split
  all_goals simp
@[simp] theorem raiseEvent_port : (raiseEvent b s).port = s.port := by
  unfold raiseEvent
  repeat' split
  all_goals simp
@[simp] theorem raiseEvent_pending : (raiseEvent b s).pending = s.pending := by
  unfold raiseEvent
  repeat' split
  all_goals simp

end

/-! ### syncWant -/

section

variable (s : State)

@[simp] theorem syncWant_hold : (syncWant  s).hold = s.hold := by
  unfold syncWant
  repeat' split
  all_goals simp
@[simp] theorem syncWant_cause : (syncWant  s).cause = s.cause := by
  unfold syncWant
  repeat' split
  all_goals simp
@[simp] theorem syncWant_pins : (syncWant  s).pins = s.pins := by
  unfold syncWant
  repeat' split
  all_goals simp
@[simp] theorem syncWant_loader : (syncWant  s).loader = s.loader := by
  unfold syncWant
  repeat' split
  all_goals simp
@[simp] theorem syncWant_monitors : (syncWant  s).monitors = s.monitors := by
  unfold syncWant
  repeat' split
  all_goals simp
@[simp] theorem syncWant_records : (syncWant  s).records = s.records := by
  unfold syncWant
  repeat' split
  all_goals simp
@[simp] theorem syncWant_selector : (syncWant  s).selector = s.selector := by
  unfold syncWant
  repeat' split
  all_goals simp
@[simp] theorem syncWant_follower : (syncWant  s).follower = s.follower := by
  unfold syncWant
  repeat' split
  all_goals simp
@[simp] theorem syncWant_peers : (syncWant  s).peers = s.peers := by
  unfold syncWant
  repeat' split
  all_goals simp
@[simp] theorem syncWant_announcer : (syncWant  s).announcer = s.announcer := by
  unfold syncWant
  repeat' split
  all_goals simp
@[simp] theorem syncWant_log : (syncWant  s).log = s.log := by
  unfold syncWant
  repeat' split
  all_goals simp
@[simp] theorem syncWant_port : (syncWant  s).port = s.port := by
  unfold syncWant
  repeat' split
  all_goals simp
@[simp] theorem syncWant_pending : (syncWant  s).pending = s.pending := by
  unfold syncWant
  repeat' split
  all_goals simp

end

/-! ### selectorTurn -/

section

variable (b : State) (m e : Bool) (s : State)

@[simp] theorem selectorTurn_hold : (selectorTurn b m e s).hold = s.hold := by
  unfold selectorTurn
  repeat' split
  all_goals simp
@[simp] theorem selectorTurn_cause : (selectorTurn b m e s).cause = s.cause := by
  unfold selectorTurn
  repeat' split
  all_goals simp
@[simp] theorem selectorTurn_pins : (selectorTurn b m e s).pins = s.pins := by
  unfold selectorTurn
  repeat' split
  all_goals simp
@[simp] theorem selectorTurn_loader : (selectorTurn b m e s).loader = s.loader := by
  unfold selectorTurn
  repeat' split
  all_goals simp
@[simp] theorem selectorTurn_monitors : (selectorTurn b m e s).monitors = s.monitors := by
  unfold selectorTurn
  repeat' split
  all_goals simp
@[simp] theorem selectorTurn_peers : (selectorTurn b m e s).peers = s.peers := by
  unfold selectorTurn
  repeat' split
  all_goals simp
@[simp] theorem selectorTurn_announcer : (selectorTurn b m e s).announcer = s.announcer := by
  unfold selectorTurn
  repeat' split
  all_goals simp
@[simp] theorem selectorTurn_bus : (selectorTurn b m e s).bus = s.bus := by
  unfold selectorTurn
  repeat' split
  all_goals simp
@[simp] theorem selectorTurn_port : (selectorTurn b m e s).port = s.port := by
  unfold selectorTurn
  repeat' split
  all_goals simp
@[simp] theorem selectorTurn_pending : (selectorTurn b m e s).pending = s.pending := by
  unfold selectorTurn
  repeat' split
  all_goals simp

end

/-! ### settleEvent -/

section

variable (b : State) (m e : Bool) (s : State)

@[simp] theorem settleEvent_hold : (settleEvent b m e s).hold = s.hold := by simp [settleEvent]
@[simp] theorem settleEvent_cause : (settleEvent b m e s).cause = s.cause := by simp [settleEvent]
@[simp] theorem settleEvent_pins : (settleEvent b m e s).pins = s.pins := by simp [settleEvent]
@[simp] theorem settleEvent_loader : (settleEvent b m e s).loader = s.loader := by simp [settleEvent]
@[simp] theorem settleEvent_monitors : (settleEvent b m e s).monitors = s.monitors := by simp [settleEvent]
@[simp] theorem settleEvent_peers : (settleEvent b m e s).peers = s.peers := by simp [settleEvent]
@[simp] theorem settleEvent_port : (settleEvent b m e s).port = s.port := by simp [settleEvent]
@[simp] theorem settleEvent_pending : (settleEvent b m e s).pending = s.pending := by simp [settleEvent]

end

end Sys2Proof.Machine
end

