-- ==== Sys2Proof/Laws/Ops.lean ====
section
/-! SUPPORT. What each shared operation can do, said once: the log, the counters, the moves of a record, the Selector's
moves, the want, the event flag and the arithmetic. -/

namespace Sys2Proof.Machine

/-! ### The log and the counters (R182, R133) -/

theorem bump_le (n : Nat) : bump n ≤ 65535 := by unfold bump; omega

@[simp] theorem EventLog.append_uptime (l : EventLog) (k : EventKind) (a b : Nat) :
    (l.append k a b).uptime = l.uptime := by unfold EventLog.append; split <;> rfl

@[simp] theorem EventLog.append_phase (l : EventLog) (k : EventKind) (a b : Nat) :
    (l.append k a b).phase = l.phase := by unfold EventLog.append; split <;> rfl

/-- An append adds one record at the end, or none and OVERFLOW. -/
theorem EventLog.append_cases (l : EventLog) (k : EventKind) (a b : Nat) :
    (l.records.length < 32 ∧ l.append k a b = { l with
      records := l.records ++ [{ uptime := l.uptime, kind := k, arg1 := BitVec.ofNat 8 a, arg2 := BitVec.ofNat 8 b }] }) ∨
    (32 ≤ l.records.length ∧ l.append k a b = { l with overflow := true }) := by
  unfold EventLog.append
  split
  · exact .inl ⟨‹_›, rfl⟩
  · exact .inr ⟨by omega, rfl⟩

theorem EventLog.append_prefix (l : EventLog) (k : EventKind) (a b : Nat) :
    l.records <+: (l.append k a b).records := by
  rcases l.append_cases k a b with ⟨-, h⟩ | ⟨-, h⟩ <;> rw [h]
  exact List.prefix_append _ _

theorem EventLog.append_length (l : EventLog) (k : EventKind) (a b : Nat) (h : l.records.length ≤ 32) :
    (l.append k a b).records.length ≤ 32 := by
  rcases l.append_cases k a b with ⟨hl, e⟩ | ⟨-, e⟩ <;> rw [e]
  · simp; omega
  · exact h

@[simp] theorem logEvent_log (k : EventKind) (a b : Nat) (s : State) :
    (logEvent k a b s).log = s.log.append k a b := rfl

/-- What a move records stands at the end of the log, which keeps its time. -/
theorem logNotice_log (i : Inp) (r : InputRec) (n : Notice) (s : State) :
    s.log.records <+: (logNotice i r n s).log.records ∧ (logNotice i r n s).log.uptime = s.log.uptime ∧
      (logNotice i r n s).log.phase = s.log.phase := by
  unfold logNotice
  split
  · exact ⟨List.prefix_refl _, rfl, rfl⟩
  · exact ⟨EventLog.append_prefix .., by simp, by simp⟩
  · exact ⟨EventLog.append_prefix .., by simp, by simp⟩

/-! ### The moves of a record (R46 to R54) -/

/-- The fields that no move of the Qualifier touches. -/
abbrev SameGrade (r r' : InputRec) : Prop :=
  r'.raw = r.raw ∧ r'.effective = r.effective ∧ r'.hop = r.hop ∧ r'.path = r.path

theorem InputRec.bar_grade (r : InputRec) (x : Reasons) : SameGrade r (r.bar x) := ⟨rfl, rfl, rfl, rfl⟩

theorem InputRec.promote_grade (r : InputRec) (full : Bool) : SameGrade r (r.promote full).1 := by
  unfold InputRec.promote; split <;> exact ⟨rfl, rfl, rfl, rfl⟩

theorem InputRec.usableMove_grade (r : InputRec) (c : InputCfg) (o : Origin) (x : Reasons) :
    SameGrade r (r.usableMove c o x).1 := by
  unfold InputRec.usableMove; repeat' split
  all_goals exact ⟨rfl, rfl, rfl, rfl⟩

/-- A move keeps the grade, the hop count and the path. -/
theorem InputRec.move_grade (r : InputRec) (c : InputCfg) (full : Bool) (x : Reasons) :
    SameGrade r (r.move c full x).1 := by
  unfold InputRec.move InputRec.prove
  repeat' split
  all_goals first
    | exact ⟨rfl, rfl, rfl, rfl⟩
    | exact InputRec.promote_grade ..
    | exact InputRec.usableMove_grade ..

/-- A promotion does nothing, or takes a PROVING record with a full window to READY. -/
theorem InputRec.promote_cases (r : InputRec) (full : Bool) :
    r.promote full = (r, .nothing) ∨
    (r.state = .proving ∧ full = true ∧ r.wtr.passes = true ∧
      r.promote full = ({ r with state := .ready, wtr := .none }, .ready r.wtr)) := by
  unfold InputRec.promote
  split
  · rename_i h; exact .inr ⟨h.1, h.2.1, h.2.2, rfl⟩
  · exact .inl rfl

/-- A READY or ACTIVE record stays, is suspended on SIGNAL alone, or is barred (R47, R48). -/
theorem InputRec.usableMove_cases (r : InputRec) (c : InputCfg) (o : Origin) (x : Reasons) :
    (x.none = true ∧ r.usableMove c o x = (r, .nothing)) ∨
    (x.onlySignal = true ∧ 0 < c.holdOff ∧ r.usableMove c o x = (r.suspend c o, .nothing)) ∨
    (x.none = false ∧ r.usableMove c o x = (r.bar x, .barred)) := by
  unfold InputRec.usableMove
  by_cases h : x.none = true
  · simp [h]
  · by_cases g : x.onlySignal = true ∧ 0 < c.holdOff
    · simp [h, g]
    · simp [h, g]

/-- A non-empty reason set bars a PROVING record (R47). -/
theorem InputRec.move_proving_bars (r : InputRec) (c : InputCfg) (full : Bool) (x : Reasons)
    (h : r.state = .proving) (hx : x.none = false) : r.move c full x = (r.bar x, .barred) := by
  simp [InputRec.move, h, hx]

/-- Further reasons join a BARRED record, and no notice is given (R47, R64). -/
theorem InputRec.move_barred_joins (r : InputRec) (c : InputCfg) (full : Bool) (x : Reasons)
    (h : r.state = .barred) (hx : x.none = false) :
    r.move c full x = ({ r with reasons := x, hardSeen := r.hardSeen || x.hard }, .nothing) := by
  simp [InputRec.move, h, hx]

/-- An OFF record is never moved (R43). -/
theorem InputRec.move_off (r : InputRec) (c : InputCfg) (full : Bool) (x : Reasons) (h : r.state = .off) :
    r.move c full x = (r, .nothing) := by
  simp [InputRec.move, h]

/-! ### The Selector's moves (R56, R57) -/

theorem InputRec.giveUp_onlySelected (r : InputRec) : OnlySelected r r.giveUp := by
  unfold OnlySelected InputRec.giveUp; repeat' split
  all_goals rfl

theorem InputRec.take_onlySelected (r : InputRec) : OnlySelected r r.take := by
  unfold OnlySelected InputRec.take; repeat' split
  all_goals rfl

theorem onlySelected_refl (r : InputRec) : OnlySelected r r := rfl

theorem onlySelected_trans (a b c : InputRec) (h : OnlySelected a b) (g : OnlySelected b c) : OnlySelected a c := by
  unfold OnlySelected at *; rw [g, h]

theorem giveUpActive_records (s : State) (j : Inp) : OnlySelected s.records[j] (giveUpActive s).records[j] := by
  unfold giveUpActive
  split
  · rename_i a _
    rw [State.withActive_records, State.withRecord_get]
    split
    · rename_i h; subst h; exact InputRec.giveUp_onlySelected _
    · exact onlySelected_refl _
  · exact onlySelected_refl _

theorem takeInput_records (l : Option Inp) (i : Inp) (s : State) (j : Inp) :
    OnlySelected s.records[j] (takeInput l i s).records[j] := by
  have g : OnlySelected s.records[j] (giveUpActive (computeValue l s)).records[j] := by
    have := giveUpActive_records (computeValue l s) j
    rwa [computeValue_records] at this
  simp only [takeInput, State.withFollower_records, State.withActive_records, State.withRecord_get]
  split
  · rename_i h; subst h
    exact onlySelected_trans _ _ _ g (InputRec.take_onlySelected _)
  · exact g

theorem takeOwn_records (l : Option Inp) (o : Output) (s : State) (j : Inp) :
    OnlySelected s.records[j] (takeOwn l o s).records[j] := by
  have g := giveUpActive_records (computeValue l s) j
  simpa [takeOwn] using g

theorem onlySelected_of_eq (s t : State) (h : t.records = s.records) (j : Inp) :
    OnlySelected s.records[j] t.records[j] := by
  simp [OnlySelected, h]

/-- R81: a decision changes nothing, takes the input it names, or goes to the own oscillator in the state it names. -/
theorem carryOut_cases (l : Option Inp) (d : Source) (s : State) :
    (carryOut l d s = s ∧ sourceOf s = d) ∨ (∃ i : Inp, d = .input i ∧ carryOut l d s = takeInput l i s) ∨
    (d = .holdover ∧ carryOut l d s = takeOwn l .holdover s) ∨
    (d = .freeRun ∧ carryOut l d s = takeOwn l .freeRun s) := by
  cases d with
  | input i =>
    by_cases h : s.selector.active = some i
    · exact .inl ⟨by simp only [carryOut, if_pos h], by simp [sourceOf, h]⟩
    · exact .inr (.inl ⟨i, rfl, by simp only [carryOut, if_neg h]⟩)
  | holdover =>
    by_cases h : s.selector.active = none ∧ s.follower.output = .holdover
    · exact .inl ⟨by simp only [carryOut, if_pos h], by simp [sourceOf, h.1, h.2]⟩
    · exact .inr (.inr (.inl ⟨rfl, by simp only [carryOut, if_neg h]⟩))
  | freeRun =>
    by_cases h : s.selector.active = none ∧ s.follower.output = .freeRun
    · exact .inl ⟨by simp only [carryOut, if_pos h], by simp [sourceOf, h.1, h.2]⟩
    · exact .inr (.inr (.inr ⟨rfl, by simp only [carryOut, if_neg h]⟩))

theorem carryOut_records (l : Option Inp) (d : Source) (s : State) (j : Inp) :
    OnlySelected s.records[j] (carryOut l d s).records[j] := by
  rcases carryOut_cases l d s with ⟨h, -⟩ | ⟨i, -, h⟩ | ⟨-, h⟩ | ⟨-, h⟩ <;> rw [h]
  · exact takeInput_records ..
  · exact takeOwn_records ..
  · exact takeOwn_records ..

/-- An evaluation moves records only by taking and giving up. -/
theorem evaluate_records (l : Option Inp) (s : State) (j : Inp) :
    OnlySelected s.records[j] (evaluate l s).1.records[j] := by
  have first := carryOut_records l (decision s (l.isSome && s.selector.active.isNone)).1 s j
  simp only [evaluate, decideAgain]
  split
  · exact onlySelected_trans _ _ _ first (carryOut_records ..)
  · exact first

/-- The Selector's part of the end of an event moves records only by taking and giving up. -/
theorem selectorTurn_records (b : State) (m e : Bool) (s : State) (j : Inp) :
    OnlySelected s.records[j] (selectorTurn b m e s).records[j] := by
  simp only [selectorTurn]
  split
  · exact onlySelected_trans _ _ _ (evaluate_records b.selector.active s j) (onlySelected_of_eq _ _ (by simp) j)
  · exact onlySelected_refl _

/-- The end of an event moves records only by taking and giving up. -/
theorem settleEvent_records (b : State) (m e : Bool) (s : State) (j : Inp) :
    OnlySelected s.records[j] (settleEvent b m e s).records[j] :=
  onlySelected_trans _ _ _ (onlySelected_of_eq s (clearBarredForce s) (by simp) j)
    (onlySelected_trans _ _ _ (selectorTurn_records b m e (clearBarredForce s) j)
      (onlySelected_of_eq _ _ (by simp [settleEvent]) j))

/-! ### The event flag and the want (R136, R122) -/

/-- Only the event flag may be set. -/
theorem raiseEvent_announcer (b s : State) :
    (raiseEvent b s).announcer = s.announcer ∨
    (raiseEvent b s).announcer = { s.announcer with eventFlag := true } := by
  unfold raiseEvent; split
  · exact .inr rfl
  · exact .inl rfl

/-- The want moves the transmitter between IDLE and DEFERRING, and nothing else of the Bus Interface. -/
theorem syncWant_bus (s : State) :
    (syncWant s).bus = { s.bus with
      tx := if s.bus.tx = .idle ∧ wantsFrame s.announcer = true then .deferring
            else if s.bus.tx = .deferring ∧ wantsFrame s.announcer = false then .idle
            else s.bus.tx } := by
  unfold syncWant
  split <;> rename_i h <;> by_cases w : wantsFrame s.announcer = true <;> simp [h, w]
  all_goals cases hb : s.bus; simp_all

/-- The end of an event may set the event flag and moves the transmitter by the want. -/
theorem settleEvent_announcer (b : State) (m e : Bool) (s : State) : SameAnnouncer s (settleEvent b m e s) := by
  have a : (selectorTurn b m e (clearBarredForce s)).announcer = s.announcer := by simp
  unfold SameAnnouncer
  simp only [settleEvent, syncWant_announcer]
  rcases raiseEvent_announcer b (selectorTurn b m e (clearBarredForce s)) with h | h <;> rw [h, a] <;> simp

theorem settleEvent_bus (b : State) (m e : Bool) (s : State) : SameBus s (settleEvent b m e s) := by
  unfold SameBus
  simp only [settleEvent]
  rw [syncWant_bus]
  simp

/-! ### Characters and the line (R114, R120 to R124) -/

/-- The level of each bit of a character that is sent. -/
theorem charLevels_getLsbD (d : Byte) (m : Bool) (k : Nat) :
    (charLevels d m).getLsbD k =
      if k = 0 then false else if k < 9 then d.getLsbD (k - 1) else if k = 9 then m else decide (k = 10) := by
  change BitVec.getLsbD (w := 1 + 1 + 8 + 1) (1#1 ++ BitVec.ofBool m ++ d ++ 0#1) k = _
  simp only [BitVec.getLsbD_append]
  rcases k with _ | k
  · simp
  · rcases Nat.lt_or_ge k 8 with h | h
    · simp [h, show k + 1 < 9 by omega]
    · obtain ⟨j, rfl⟩ := Nat.exists_eq_add_of_le h
      rcases j with _ | _ | j
      · simp
      · simp
      · simp; omega

@[simp] theorem LineChar.sent_start (d : Byte) (m : Bool) : (LineChar.sent d m).start = true := by
  simp [LineChar.start, LineChar.sent, charLevels_getLsbD, -BitVec.getLsbD_eq_getElem]

@[simp] theorem LineChar.sent_mark (d : Byte) (m : Bool) : (LineChar.sent d m).mark = m := by
  simp [LineChar.mark, LineChar.sent, charLevels_getLsbD, -BitVec.getLsbD_eq_getElem]

@[simp] theorem LineChar.sent_stopGood (d : Byte) (m : Bool) : (LineChar.sent d m).stopGood = true := by
  simp [LineChar.stopGood, LineChar.sent, charLevels_getLsbD, -BitVec.getLsbD_eq_getElem]

@[simp] theorem LineChar.sent_data (d : Byte) (m : Bool) : (LineChar.sent d m).data = d := by
  refine BitVec.eq_of_getLsbD_eq fun k hk => ?_
  simp [LineChar.data, LineChar.sent, hk, charLevels_getLsbD, -BitVec.getLsbD_eq_getElem, show 1 + k < 9 by omega]

theorem assembling_iff (b : Bus) : assembling b = true ↔ ∃ chars : List Byte, b.rx = .assemble chars := by
  unfold assembling; split <;> simp_all

theorem idleFor_iff (n : Nat) (b : Bus) :
    idleFor n b = true ↔ b.line = .quiet ∧ ∃ m : Nat, b.idle = some m ∧ n ≤ m := by
  unfold idleFor; split <;> simp_all

/-- A transmission may start exactly when the transmitter defers, no frame is being collected, and the line has been idle
for the threshold. -/
theorem mayStart_iff (s : State) :
    mayStart s = true ↔ s.bus.tx = .deferring ∧ assembling s.bus = false ∧ s.bus.line = .quiet ∧
      ∃ n : Nat, s.bus.idle = some n ∧ threshold s ≤ n := by
  simp [mayStart, idleFor_iff, and_assoc]

/-- A gap abandons a frame exactly when one is being collected and the line has been idle for more than 2 character
times. -/
theorem gapOver_iff (b : Bus) :
    gapOver b = true ↔ assembling b = true ∧ b.line = .quiet ∧ ∃ n : Nat, b.idle = some n ∧ 2 * charTime < n := by
  simp [gapOver, idleFor_iff]

/-- An event that abandons a frame finds one in collection. -/
theorem abandons_assembling {cause : AbandonCause} {b : Bus} (h : abandons cause b = true) : assembling b = true := by
  cases cause <;> simp_all [abandons, gapOver]

/-- A frame is dropped and counted, or nothing happens. -/
theorem dropFrame_cases (cause : AbandonCause) (s : State) :
    (listening s = true ∧ abandons cause s.bus = true ∧ dropFrame cause s = countBad (abandon cause s)) ∨
    ((listening s = false ∨ abandons cause s.bus = false) ∧ dropFrame cause s = s) := by
  unfold dropFrame; split <;> simp_all [or_iff_not_imp_left]

/-- The rest ends exactly when it is in force, nothing is sent, and the line has been idle for 30 character times. -/
theorem restOver_iff (b : Bus) :
    restOver b = true ↔ b.rest = true ∧ b.tx ≠ .sending ∧ b.line = .quiet ∧
      ∃ n : Nat, b.idle = some n ∧ restTime ≤ n := by
  simp [restOver, idleFor_iff, and_assoc]

/-- A start bit, or a frame, leaves the rest in force exactly when it was in force and could not yet end. -/
theorem restKept_iff (b : Bus) : restKept b = true ↔ b.rest = true ∧ restOver b = false := by simp [restKept]

/-- While nothing is sent, the rest a start bit leaves is the one R124 gives. -/
theorem restKept_restAfter (b : Bus) (h : b.tx ≠ .sending) : restKept b = restAfter b := by
  simp only [restKept, restOver, restAfter, idleFor, restTime]
  cases b.rest <;> cases b.line <;> cases b.idle <;> simp [h, charTime]
  exact decide_eq_decide.mpr Iff.rfl

/-- A whole frame finds another one in collection exactly when the collected characters are no beginning of its own, or
a gap had ended them. -/
theorem displaces_iff (bytes : List Byte) (b : Bus) : displaces bytes b = true ↔ Displaced bytes b := by
  unfold displaces Displaced collected
  cases h : b.rx <;> simp [h, gapOver_iff, assembling_iff, charTime, or_comm, ← List.isPrefixOf_iff_prefix]

/-- A whole frame heard leaves the line free, with another frame counted or none. -/
theorem frameHeard_cases (kind : Byte) (f : RxFrame) (s : State) :
    (Displaced (headBytes kind f ++ [f.check]) s.bus ∧ frameHeard kind f s = lineFree .hunt (countBad s)) ∨
    (¬Displaced (headBytes kind f ++ [f.check]) s.bus ∧ frameHeard kind f s = lineFree .hunt s) := by
  unfold frameHeard
  split <;> rename_i h
  · exact .inl ⟨(displaces_iff _ _).mp h, rfl⟩
  · exact .inr ⟨fun g => h ((displaces_iff _ _).mpr g), rfl⟩

/-- The duration of a frame sent, kind by kind (R115, R123). -/
theorem txDuration_eq (f : TxFrame) : txDuration f = lineTime f := by
  cases f <;> simp [txDuration, txParts, announcePayload, charTime]
  omega

/-- The time from a transmission start never passes the frame's end (R123). -/
theorem drivenStep_some (f : TxFrame) (n : Nat) (h : n ≤ txDuration f) :
    drivenStep (some f) n = min (txDuration f) (n + 1) := by
  simp only [drivenStep, stepTo]; split <;> omega

theorem heldLine_cases (held : Option Nat) :
    (held = some 0 ∧ heldLine held = .quiet) ∨ (held ≠ some 0 ∧ heldLine held = .heldActive held) := by
  unfold heldLine; split <;> simp_all

/-- The receiver an attempt's end leaves: in HUNT, where a start bit at that moment is taken as in HUNT. -/
theorem receiverFreed_cases (s : State) :
    (∃ c : LineChar, s.bus.line = .character charTime c ∧ receiverFreed s = headerTaken s c) ∨
    ((∀ c : LineChar, s.bus.line ≠ .character charTime c) ∧ receiverFreed s = .hunt) := by
  unfold receiverFreed
  split
  · rename_i left c h
    by_cases e : left = charTime
    · subst e; exact .inl ⟨c, h, by simp⟩
    · exact .inr ⟨fun d g => e (by rw [h] at g; injection g), by simp [e]⟩
  · rename_i h; exact .inr ⟨fun c => by simp [h], rfl⟩
  · rename_i h; exact .inr ⟨fun c => by simp [h], rfl⟩

/-- Past its answer a frame drives 0x00 on SDO (R178). -/
theorem Port.sdoByte_past (p : Port) (k : Nat) (h : p.sdo.length ≤ k) : p.sdoByte k = 0x00 := by
  simp [Port.sdoByte, h]

/-- The port after the frame of a command other than READ. -/
@[simp] theorem answer_port (args : Nat) (bytes : List Byte) (s : State) :
    (answer args bytes s).port = answeredPort s.port (List.replicate (1 + args) 0x00 ++ bytes) := rfl

/-- The port is no part of what a capture shows. -/
@[simp] theorem capture_withPort (p : Port) (s : State) : capture (s.withPort p) = capture s := rfl

@[simp] theorem readStream_length (first fresh : List Byte) (place count : Nat) :
    (readStream first fresh place count).length = count := by simp [readStream]

/-- The frame of a READ after a data byte, in the words of `Safety.lean`. -/
theorem readingAt_reached (place : Nat) : readingAt place = readReached place := rfl

/-- Data bytes of a READ frame go to the port, and nowhere else. -/
theorem readOn_withPort (count : Nat) (s : State) : ∃ p : Port, readOn count s = s.withPort p := by
  unfold readOn shiftRecords
  split
  · exact ⟨s.port, rfl⟩
  · exact ⟨_, rfl⟩
  all_goals split
  all_goals first | exact ⟨s.port, rfl⟩ | exact ⟨_, rfl⟩

/-! ### Counts that have come to their point -/

theorem reached_iff (limit n : Nat) : reached limit n = true ↔ limit ≤ n + 1 := by simp [reached]

/-- A count that has just been started has not come to its point. -/
theorem reached_zero {limit : Nat} (h : 1 < limit) : reached limit 0 = false := by simpa [reached] using h

theorem ranOut_iff (timer : Option Nat) : ranOut timer = true ↔ timer = some 0 := by simp [ranOut]

/-- An entry's deadline, in the words of `Safety.lean`. -/
theorem deadline_entrySeconds (e : PeerEntry) : e.deadline = entrySeconds e := rfl

theorem PeerEntry.due_iff (e : PeerEntry) : e.due = true ↔ entrySeconds e * second ≤ e.ageCycles + 1 := by
  simp [PeerEntry.due, reached, deadline_entrySeconds]

/-- R162: an entry whose age has been restarted has no deadline due. -/
theorem PeerEntry.due_restarted {e : PeerEntry} (h : 1 ≤ e.interval) (g : e.ageCycles = 0) : e.due = false := by
  have : 1 < e.deadline * second := by unfold PeerEntry.deadline second; split <;> omega
  simpa [PeerEntry.due, g] using reached_zero this

theorem valueDue_iff (s : State) :
    valueDue s = true ↔ s.follower.value.valid = true ∧ (cfg s).limit * second ≤ s.follower.value.ageCycles + 1 := by
  simp [valueDue, reached]

theorem stepComes_iff (c : Image) (n : Nat) :
    stepComes c n = true ↔ (∃ a ∈ [c.age1, c.age2, c.age3], n + 1 = a * second) ∧ n + 1 < c.limit * second := by
  simp [stepComes]

/-! ### The SPI line (R178) -/

/-- The bits of bytes on the line, and those of a byte not yet whole, give the bytes back. -/
theorem spiBytes_spiBits (bytes : List Byte) (extra : List Bool) (h : extra.length < 8) :
    spiBytes (bytes.flatMap spiBits ++ extra) = bytes := by
  induction bytes with
  | nil => match extra, h with
    | [], _ | [_], _ | [_, _], _ | [_, _, _], _ | [_, _, _, _], _ | [_, _, _, _, _], _ | [_, _, _, _, _, _], _
    | [_, _, _, _, _, _, _], _ => rfl
  | cons b l ih =>
    have hb : spiByte (b.getLsbD 7) (b.getLsbD 6) (b.getLsbD 5) (b.getLsbD 4) (b.getLsbD 3) (b.getLsbD 2)
        (b.getLsbD 1) (b.getLsbD 0) = b := by revert b; decide
    have e : spiBits b = [b.getLsbD 7, b.getLsbD 6, b.getLsbD 5, b.getLsbD 4, b.getLsbD 3, b.getLsbD 2, b.getLsbD 1,
      b.getLsbD 0] := rfl
    rw [List.flatMap_cons, e]
    simp only [List.cons_append, List.nil_append, spiBytes, hb, ih]

@[simp] theorem clockBits_append (held : Option Nat) (l m : List Bool) (s : State) :
    clockBits held (l ++ m) s = clockBits held m (clockBits held l s) := by simp [clockBits]

/-- What an edge does to a port that is not held in reset: the frame, the answer on SDO and the queue alone can change. -/
theorem portEdge_only (e : SpiEdge) (s : State) :
    portEdge e s = { s with port := (portEdge e s).port, pending := (portEdge e s).pending } := by
  unfold portEdge
  split
  · split <;> try rfl
    · unfold bitArrives showDone; split <;> (try split) <;> rfl
    · split <;> rfl
  · rfl

/-- While a reset is held an edge does nothing. -/
theorem portEdge_held (e : SpiEdge) (s : State) (h : s.hold ≠ none) : portEdge e s = s := by
  have : portOpen s = false := by cases hs : s.hold <;> simp_all [portOpen]
  simp [portEdge, this]

/-! ### The EEPROM's transfers (R168) -/

@[simp] theorem transferBits_append (l m : List I2cAction) : transferBits (l ++ m) = transferBits l + transferBits m := by
  simp [transferBits]

theorem dataActions_bits (bytes : List Byte) : transferBits (dataActions bytes) = 9 * bytes.length := by
  have key : (dataActions bytes).map I2cAction.bits = List.replicate bytes.length 9 := by
    apply List.ext_getElem <;> simp [dataActions, I2cAction.bits]
  simp [transferBits, key, Nat.mul_comm]

/-- An attempt has lasted a time exactly when it is in progress in LOADING, no reset held, with that many cycles. -/
theorem attemptLasting_eq_some (time n : Nat) (s : State) :
    attemptLasting time s = some n ↔ s.hold = none ∧ s.loader.partState = .loading ∧
      ∃ elapsed : Nat, s.loader.eeprom = .attempt n elapsed ∧ time ≤ elapsed := by
  unfold attemptLasting
  cases h : s.loader.eeprom <;> simp [Option.isNone_iff_eq_none]
  grind

/-- An attempt that has just begun has ended in no way. -/
theorem attemptLasting_begun (time n : Nat) (s : State) (h : s.loader.eeprom = .attempt n 0) (ht : 0 < time) :
    attemptLasting time s = none := by
  unfold attemptLasting; split <;> simp [h]; omega

/-- The least time of a line held low at a bit, in LOSC cycles. -/
theorem failureTime_heldLow (bit : Fin 1017) (read : List Byte) :
    failureTime (.heldLow (some bit) read) = bit.val * 200 + 20001 := by
  simp only [failureTime, i2cBit, millisecond]

theorem failureTime_pos (f : AttemptFailure) : 0 < failureTime f := by
  unfold failureTime; split <;> exact Nat.succ_pos _

@[simp] theorem busAtStart_idle (held : Option Nat) : (busAtStart held).idle = some 0 := rfl

@[simp] theorem busAtStart_line (held : Option Nat) : (busAtStart held).line = heldLine held := rfl

/-! ### Rounding (00_scope.md 4.5) -/

/-- The rounding is the nearest integer, halves away from zero. -/
theorem roundDiv_rounded (num : Int) (den : Nat) (h : 0 < den) : RoundedTo (roundDiv num den) num den := by
  have key : ∀ (n : Int), 0 ≤ n → ∃ q r : Int, (2 * n + den) / (2 * den) = q ∧ 2 * n + den = 2 * den * q + r ∧
      0 ≤ r ∧ r < 2 * den ∧ 0 ≤ q := by
    intro n hn
    refine ⟨_, (2 * n + den) % (2 * den), rfl, ?_, ?_, ?_, ?_⟩
    · exact (Int.mul_ediv_add_emod _ _).symm
    · exact Int.emod_nonneg _ (by omega)
    · exact Int.emod_lt_of_pos _ (by omega)
    · exact Int.ediv_nonneg (by omega) (by omega)
  unfold RoundedTo roundDiv
  split
  · obtain ⟨q, r, e, f, h0, h1, hq⟩ := key num ‹_›
    rw [e]
    have hqd : q * (den : Int) ≥ 0 := mul_nonneg hq (by omega)
    have f' : 2 * num + den = 2 * (q * den) + r := by rw [f]; ring
    generalize q * (den : Int) = x at *
    constructor <;> omega
  · obtain ⟨q, r, e, f, h0, h1, hq⟩ := key (-num) (by omega)
    rw [e]
    have hqd : q * (den : Int) ≥ 0 := mul_nonneg hq (by omega)
    have f' : 2 * -num + den = 2 * (q * den) + r := by rw [f]; ring
    have hx : -q * (den : Int) = -(q * den) := by ring
    rw [hx]
    generalize q * (den : Int) = x at *
    constructor <;> omega

end Sys2Proof.Machine
end

