-- ==== Sys2Proof/WellFormed.lean ====
section
/-! DEFINITION. Which commands are well formed: those that spell an event the spec lets happen. -/

namespace Sys2Proof

open Machine

/-- The data bytes read before a line is held low are those of the bits clocked before it: three bytes of nine bits go
before the first (R168). -/
def AttemptFailure.wf : AttemptFailure → Bool
  | .heldLow (some bit) read => decide (read.length = bit.val / 9 - 3)
  | .heldLow none read => decide (read = [])
  | .writeAddress | .memoryAddress | .readAddress => true

/-- The checks, per command. Every number of an input or a station is in range by its type; the arguments of FORCE,
LOCKOUT, RELEASE and READ may be any byte, since their rules answer for each. -/
def Instr.wf : Instr → Bool
  | .eepromReadDone image _ => decide (image.length = 110)
  | .eepromAttemptFailed failure _ => failure.wf
  | .loadImage image => decide (image.length ≤ 110)
  | .announceReceived f => lengthOk f && intact kindAnnounce f
  | .queryReceived f => lengthOk f && intact kindQuery f
  | .withdrawReceived f => lengthOk f && intact kindWithdraw f
  | .malformedFrame kind f => !knownKind kind && lengthOk f && intact kind f
  | .badFrame kind f => lengthOk f && !intact kind f
  | .frameAbandoned _ => true
  | .unknownCommand code => !knownCommand code
  | .foreignStartBit c => c.start
  | .powerReset | .pinReset | .resetRelease _ _ _ | .msPoint _ _ _ | .gateCompletion _ _ | .holdOffExpiry _
  | .wtrExpiry _ | .settleExpiry | .valueExpiry | .stepAgeReached | .warmupEnd | .entryStale _ | .entryRemoval _
  | .rateWindowEnd _ | .transmissionStart | .restEnd | .announceCompletion | .queryCompletion | .withdrawCompletion _
  | .clash _ | .periodicTimerExpiry | .spacingExpiry | .withdrawWaitExpiry _ | .eepromRetry
  | .read _ _ | .start _ | .force _ | .unforce | .lockout _ | .release _ | .popEvent | .softReset _ => true

end Sys2Proof
end

