-- ==== Sys2Proof/Tests/Slice0.lean ====
section
/-! SUPPORT. The model's own tests: the ill-formed commands, the spec's worked examples, small steps of each command, and
for each obligation with hypotheses a state that meets them. -/

open Sys2Proof Sys2Proof.Machine

namespace Sys2Proof.Tests

set_option maxRecDepth 100000
-- One theorem at a time: a task per theorem would ask for more stacks than the memory limit holds.
set_option Elab.async false

/-! ### Small states -/

/-- A FIXED input of grade 2 at 8,000 Hz, with a hold-off of 1.5 s and a WTR of 60 s. -/
def fixedCfg : InputCfg :=
  { use := .fixed, freq := 8000, fixedGrade := 2, bound := 0, ceiling := 1, priority := 1, holdOff := 15, wtr := 60,
    losMode := .activeHigh }

/-- A PEER input bound to station 3, with neither hold-off nor WTR. -/
def peerCfg : InputCfg := { fixedCfg with use := .peer, bound := 3, priority := 2, holdOff := 0, wtr := 0 }

/-- An image with inputs 1 (FIXED, grade 2), 2 (PEER) and 3 (FIXED, grade 4, no hold-off). -/
def image : Image :=
  { interval := 2, trust := 0xFFFEFF, revertive := false, accept := 400, reject := 500, pull := 1500, settle := 10,
    floor := 11, warmup := 600, age1 := 600, age2 := 3600, age3 := 14400, grade1 := 6, grade2 := 9, grade3 := 10,
    limit := 86400,
    inputs := #v[fixedCfg, peerCfg, { fixedCfg with fixedGrade := 4, holdOff := 0 }, InputCfg.empty, InputCfg.empty,
      InputCfg.empty] }

/-- A monitor with a running gate, `n` counts in the window and a last offset of +40. -/
def monitor (n : Nat) : Monitor :=
  { Monitor.init false with present := true, gate := { run := true, elapsed := 0, edges := 0 },
                            window := List.replicate n 8000, lastOffset := some 40, check := .clear }

/-- The record of an input of grade `g` in state `st`. -/
def recordIn (st : InputState) (g : Nat) : InputRec := { InputRec.init with state := st, raw := g, effective := g }

/-- The record of an input that is BARRED with the reasons `r`. -/
def barredBy (r : Reasons) (g : Nat) : InputRec := { recordIn .barred g with reasons := r, hardSeen := r.hard }

/-- No reason but SIGNAL. -/
def bySignal : Reasons := { Reasons.empty with signal := true }

/-- No reason but FREQ. -/
def byFreq : Reasons := { Reasons.empty with freq := true }

/-- No reason but GRADE. -/
def byGrade : Reasons := { Reasons.empty with grade := true }

/-- No reason but LOCKOUT. -/
def byLockout : Reasons := { Reasons.empty with lockout := true }

/-- What station 9 announces while locked to a FIXED input of grade 2. -/
def content : Content := { cls := .fixedLock, grade := 2, interval := 2, path := [9] }

/-- Station 9, RUNNING and LOCKED on input 1, with 16 offsets of +40; input 2 is BARRED with GRADE, for station 3 has no
entry; input 3 is READY; the line has been idle for 30 character times. -/
def on : State :=
  { State.cleared .power { addrStrap := 9, controllerMode := true, los := 0 } [] with
    hold := none
    loader := { Loader.init with partState := .running, buffer := image, held := true, viaPort := true,
                                 ownAddress := 9, controllerMode := true }
    monitors := #v[monitor 7, monitor 7, monitor 8, Monitor.init false, Monitor.init false, Monitor.init false]
    records := #v[recordIn .active 2, barredBy byGrade 15, recordIn .ready 4, InputRec.init, InputRec.init,
      InputRec.init]
    selector := { active := some 0, force := .none }
    follower := { Follower.init false with output := .locked, history := List.replicate 16 40 }
    announcer := { Announcer.init with mode := .announcing, last := some content, periodicTimer := some 5 }
    bus := { Bus.init with rx := .hunt, tx := .idle, idle := some 26400 } }

/-- The pins at a soft reset: address 12 in controller mode, input 1's LOS line HIGH. -/
def pins : Pins := { addrStrap := 12, controllerMode := true, los := 1 }

/-- The state a command is answered by. -/
def after (c : Instr) (s : State) : State :=
  match exec c s with
  | .next t => t
  | .fault _ => s
  | .refused _ => s

/-- The block just released at address 9 in controller mode. -/
def released : State := after (.resetRelease 9 true 0) State.reset

/-- The block just released at address 9 in EEPROM mode. -/
def loading : State := after (.resetRelease 9 false 0) State.reset

/-- The block at address 9 in EEPROM mode, `elapsed` LOSC cycles into attempt `n`. -/
def reading (n elapsed : Nat) : State := loading.withLoader { loading.loader with eeprom := .attempt n elapsed }

/-- Input 1 of `on` has lost its signal and the output bridges. -/
def bridging : State := after (.msPoint 0 false false) on

/-- Input 1's hold-off has ended and the shelf is on input 3, ACQUIRING. -/
def acquiring : State := after (.holdOffExpiry 0) bridging

/-- Input 3 of `on` out of use, its hold-off of input 1 expired: HOLDOVER on the value of input 1. -/
def inHoldover : State := after (.holdOffExpiry 0) (after (.lockout 3) bridging)

/-- Input 3 of `on` in PROVING with its WTR running and `n` counts. -/
def proving (n : Nat) : State :=
  (on.withRecord 2 { recordIn .proving 4 with wtr := .running 5 }).withMonitor 2 (monitor n)

/-- Input 3 of `on` is BARRED with the reasons `r`, its monitor in agreement, with `n` counts. -/
def barring (r : Reasons) (n : Nat) : State :=
  (on.withRecord 2 (barredBy r 4)).withMonitor 2
    { monitor n with freq := r.freq, signal := r.signal, activityCause := r.signal, present := !r.signal
                     gate := { run := !r.signal, elapsed := 0, edges := 0 } }

/-- A frame with its right check. -/
def frame (kind dest source seq : Byte) (payload : List Byte) : RxFrame :=
  let f : RxFrame := { dest := dest, source := source, seq := seq, payload := payload, check := 0 }
  { f with check := crc8 (headBytes kind f) }

/-- Station 3 announces PEER_LOCK, grade 3, interval 2 s, path [7, 3]. -/
def announce3 (seq : Byte) : RxFrame := frame 0x01 0x00 0x03 seq [0x02, 0x03, 0x02, 0x02, 0x07, 0x03]

/-- What `announce3` carries. -/
def content3 : Content := { cls := .peerLock, grade := 3, interval := 2, path := [7, 3] }

/-- A QUERY from station 3 to station 9. -/
def query3 : RxFrame := frame 0x02 0x09 0x03 0x05 []

/-- A WITHDRAW of station 3. -/
def withdraw3 : RxFrame := frame 0x03 0x00 0x03 0x0B []

/-- The slot of station 3. -/
def station3 : Slot := 2

/-- Station 3 has announced with sequence 10. -/
def heard3 : State := after (.announceReceived (announce3 0x0A)) on

/-- What station 3's entry holds then. -/
def entry3 : PeerEntry :=
  { state := .fresh, lastSeq := 0x0A, cls := .peerLock, grade := 3, interval := 2, path := [7, 3], ageCycles := 0 }

/-- The settle time has passed. -/
def settled (s : State) : State := s.withFollower { s.follower with settle := some 0 }

/-- The holdover value's age is one cycle short of `n` seconds. -/
def aged (n : Nat) (s : State) : State :=
  s.withFollower { s.follower with value := { s.follower.value with ageCycles := n * 20000000 - 1 } }

/-- The age of station 3's entry is one cycle short of `n` seconds. -/
def entryAged (n : Nat) (s : State) : State :=
  s.withEntry station3 (s.peers.entries[station3].map fun e => { e with ageCycles := n * 20000000 - 1 })

/-- `on` with a frame on the line, all of it driven. -/
def sending (f : TxFrame) : State :=
  (on.withAnnouncer { on.announcer with frame := some f, periodicFlag := true, queries := [3] }).withBus
    { on.bus with tx := .sending, driven := txDuration f }

/-- `on` deferring with the periodic flag set. -/
def deferring : State :=
  (on.withAnnouncer { on.announcer with periodicFlag := true, periodicTimer := none }).withBus
    { on.bus with tx := .deferring }

/-- `on` with a soft reset waiting for its WITHDRAW. -/
def withdrawing : State := after (.softReset pins) on

/-- `withdrawing` with the WITHDRAW on the line. -/
def withdrawSent : State := after .transmissionStart withdrawing

/-- `on` with a full event log. -/
def logFull : State :=
  on.withLog { on.log with records := List.replicate 32 { uptime := 1, kind := .switched, arg1 := 0x12, arg2 := 2 } }

/-- The 110 bytes of an image: a signature, a format, good global fields, and the inputs' bytes filled up with OFF
inputs. -/
def imageBytes (signature format : Byte) (inputs : List Byte) : List Byte :=
  [signature, format, 0x02, 0xFF, 0xFF, 0xFF, 0x00, 0x01, 0x90, 0x01, 0xF4, 0x05, 0xDC, 0x0A, 0x0B, 0x02, 0x58] ++
  [0x00, 0x02, 0x58, 0x06, 0x00, 0x0E, 0x10, 0x09, 0x00, 0x38, 0x40, 0x0A, 0x01, 0x51, 0x80] ++ inputs ++
  List.replicate (78 - inputs.length) 0x00

/-- Input 1: FIXED, 8,000 Hz, grade 2, ceiling 1, priority 1, hold-off 1.5 s, WTR 60 s, LOS active-high. -/
def fixedBytes : List Byte := [0x01, 0x00, 0x00, 0x1F, 0x40, 0x02, 0x00, 0x01, 0x01, 0x0F, 0x00, 0x3C, 0x01]

/-- A good image. -/
def goodImage : List Byte := imageBytes 0xB4 0x01 fixedBytes

/-! ### Well-formed commands: each check refuses an ill-formed term -/

theorem test_wf_eepromReadDone : (Instr.eepromReadDone (goodImage.drop 1)).wf = false := by decide

/-- R168: a line held low at bit 36, the first of the second data byte, has one byte read before it. -/
theorem test_wf_eepromAttemptFailed :
    (Instr.eepromAttemptFailed (.heldLow (some 36) []) true).wf = false ∧
    (Instr.eepromAttemptFailed (.heldLow none [0xB4]) true).wf = false ∧
    (Instr.eepromAttemptFailed (.heldLow (some 36) [0xB4]) true).wf = true := by decide
theorem test_wf_loadImage : (Instr.loadImage (0x00 :: goodImage)).wf = false := by decide
theorem test_wf_announceReceived_check :
    (Instr.announceReceived { announce3 0x0A with check := 0x00 }).wf = false := by decide
theorem test_wf_announceReceived_length :
    (Instr.announceReceived (frame 0x01 0x00 0x03 0x01 (List.replicate 13 0x00))).wf = false := by decide
theorem test_wf_queryReceived_check : (Instr.queryReceived { query3 with seq := 0x06 }).wf = false := by decide
theorem test_wf_queryReceived_length :
    (Instr.queryReceived (frame 0x02 0x00 0x03 0x01 (List.replicate 13 0x00))).wf = false := by decide
theorem test_wf_withdrawReceived_check : (Instr.withdrawReceived { withdraw3 with source := 0x04 }).wf = false := by
  decide
theorem test_wf_withdrawReceived_length :
    (Instr.withdrawReceived (frame 0x03 0x00 0x03 0x01 (List.replicate 13 0x00))).wf = false := by decide
theorem test_wf_malformedFrame_kind : (Instr.malformedFrame 0x02 query3).wf = false := by decide
theorem test_wf_malformedFrame_check : (Instr.malformedFrame 0x09 query3).wf = false := by decide
theorem test_wf_malformedFrame_length :
    (Instr.malformedFrame 0x09 (frame 0x09 0x00 0x03 0x01 (List.replicate 13 0x00))).wf = false := by decide
theorem test_wf_badFrame_intact : (Instr.badFrame 0x02 query3).wf = false := by decide
theorem test_wf_badFrame_length :
    (Instr.badFrame 0x09 { query3 with payload := List.replicate 13 0x00 }).wf = false := by decide
theorem test_wf_unknownCommand : (Instr.unknownCommand 0x01).wf = false ∧ (Instr.unknownCommand 0x09).wf = false := by
  decide

theorem test_wf_foreignStartBit : (Instr.foreignStartBit { levels := 0x7FF, held := none }).wf = false := by decide

/-- And well-formed ones pass. -/
theorem test_wf_good :
    (Instr.loadImage goodImage).wf = true ∧ (Instr.eepromReadDone goodImage).wf = true ∧
    (Instr.announceReceived (announce3 0x0A)).wf = true ∧ (Instr.queryReceived query3).wf = true ∧
    (Instr.withdrawReceived withdraw3).wf = true ∧ (Instr.badFrame 0x02 { query3 with check := 0x00 }).wf = true ∧
    (Instr.malformedFrame 0x09 (frame 0x09 0x00 0x03 0x01 [])).wf = true ∧ (Instr.unknownCommand 0x0A).wf = true ∧
    (Instr.foreignStartBit (.sent 0x09 true)).wf = true := by
  decide

/-- The table gives its rows no bits, so no word spells a command. -/
theorem test_decode_none : decodeTableWord 8 0 = none ∧ on.withFetchWord 8 0 = on := by decide +kernel

/-- R178: frames of the code table, one cut short, and one of an unknown code. -/
theorem test_commandOf :
    [[0x01, 0x21, 0x00, 0x00], [0x03], [0x04, 0x07], [0x08], [0x09, 0x00], [0x04], [0x00]].map (commandOf pins none) =
      [some (.read (.record 0x21) 2), some (.start none), some (.force 0x07), some .popEvent, some (.softReset pins), none,
        some (.unknownCommand 0x00)] := by decide

/-- R178: FORCE 3 on SPI. At 15 bits nothing is taken; the sixteenth, most significant bit first, takes it; and byte 3 on
SDO is DONE, 1 0 1 0 0 0 0 0. -/
theorem test_spi_force :
    let frame := portEdge .csnFalls on
    let bits : List Bool := spiBits 0x04 ++ spiBits 0x03
    let whole := clockBits none bits frame
    let taken := after (.force 3) { whole with pending := [] }
    bits = [false, false, false, false, false, true, false, false, false, false, false, false, false, false, true, true] ∧
    (clockBits none (bits.take 15) frame).pending = [] ∧ whole.pending = [.force 3] ∧
    (portEdge (.csnRises pins) whole).pending = [.force 3] ∧
    ((List.range 8).map fun k => sdoLevel (clockBits none (List.replicate k true) taken)) =
      [some true, some false, some true, some false, some false, some false, some false, some false] := by decide +kernel

/-- R179, R181: READ of the status takes its address at the sixteenth bit and its first data byte as SCK then falls; SOFT
RESET is taken at the rise of CSN, its DONE on SDO before. -/
theorem test_spi_read_softReset :
    let read := portEdge (.sckRises false none) (clockBits none (spiBits 0x01 ++ [false, false, false, false, false, false,
      false]) (portEdge .csnFalls on))
    let soft := clockBits none (spiBits 0x09) (portEdge .csnFalls on)
    read.pending = [.read (.record 0) 0] ∧ (portEdge .sckFalls read).pending = [.read (.record 0) 0, .read .onward 1] ∧
    soft.pending = [] ∧ sdoLevel soft = some true ∧ (portEdge (.csnRises pins) soft).pending = [.softReset pins] := by
  decide +kernel

/-- R173, R178: a short LOAD IMAGE is taken at the rise of CSN with its whole bytes; START cut short takes nothing; a
reset cuts a frame short, and its later bits take nothing. -/
theorem test_spi_cut :
    (portEdge (.csnRises pins) (clockBits none (spiBits 0x02 ++ spiBits 0xB4 ++ [true]) (portEdge .csnFalls on))).pending =
      [.loadImage [0xB4]] ∧
    (portEdge (.csnRises pins) (clockBits none ((spiBits 0x03).take 7) (portEdge .csnFalls on))).pending = [] ∧
    (let cut := after (.resetRelease 9 true 0) (after .pinReset (clockBits none ((spiBits 0x03).take 7)
      (portEdge .csnFalls on)))
     (clockBits none [true] cut).pending = []) := by decide +kernel

/-- R114: the header 0x09 on the line, bit by bit: start, 1 0 0 1 0 0 0 0, mark, stop; and the bits read back. -/
theorem test_charLevels :
    (List.range 11).map (LineChar.sent 0x09 true).levels.getLsbD =
      [false, true, false, false, true, false, false, false, false, true, true] ∧
    (LineChar.sent 0x09 true).data = 0x09 ∧ (LineChar.sent 0x09 false).mark = false := by decide

/-- R115: of the six characters of a QUERY the first alone is a mark character. -/
theorem test_txChars :
    (txChars 9 (.query 3 0x07)).map LineChar.mark = [true, false, false, false, false, false] ∧
    ((txChars 9 (.query 3 0x07)).map LineChar.data).take 5 = [0x03, 0x02, 0x09, 0x07, 0x00] := by decide

/-! ### The spec's worked examples -/

/-- The check characters of 6.2.1. -/
theorem test_crc_table :
    crc8 [0x00] = 0x00 ∧ crc8 [0x01] = 0x07 ∧ crc8 [0xFF] = 0xF3 ∧ crc8 [0x01, 0x02] = 0x1B ∧
    crc8 [0x31, 0x32, 0x33, 0x34, 0x35, 0x36, 0x37, 0x38, 0x39] = 0xF4 ∧ crc8 [0x01, 0x02, 0x1B] = 0x00 := by decide

/-- The cases a to h of 2.7.1, each from its sum. -/
theorem test_offset_cases :
    windowedOffset [16384003] 2048000 = 18 ∧ windowedOffset [79999955] 10000000 = -56 ∧
    windowedOffset [64021] 8000 = 32767 ∧ windowedOffset [80000002] 10000000 = 3 ∧
    windowedOffset [79999998] 10000000 = -3 ∧ windowedOffset [800000004] 100000000 = 1 ∧
    windowedOffset [800000003] 100000000 = 0 ∧ windowedOffset [12352000] 2048000 = -32767 := by decide +kernel

/-- The window of 2.7.2 at completions 8, 9 and 10. -/
theorem test_window_slides :
    let w8 := [2048000, 2048001, 2048000, 2048001, 2048000, 2048000, 2048001, 2048000]
    windowedOffset w8 2048000 = 18 ∧ windowedOffset (joinWindow w8 2048000) 2048000 = 18 ∧
    windowedOffset (joinWindow (joinWindow w8 2048000) 2047998) 2048000 = 0 := by decide +kernel

/-- The checks of 2.8.1: pull limit 1500, windows 400 and 500, O = +40, after warm-up. -/
theorem test_check_hysteresis :
    let check := fun (offset : Int) (before : Bool) =>
      combineChecks (absoluteFails false 1500 offset) (relativePart true 400 500 offset 40) before
    check 300 false = (false, .clear) ∧ check 480 false = (false, .hold) ∧ check 560 false = (true, .relative) ∧
    check 470 true = (true, .hold) ∧ check 430 true = (false, .clear) := by decide +kernel

/-- The means of the holdover mean example. -/
theorem test_holdover_means :
    holdoverMean (List.replicate 8 (-60) ++ List.replicate 8 (-65)) = -63 ∧ holdoverMean [1000] = 63 ∧
    holdoverMean [8] = 1 ∧ holdoverMean [-7] = 0 ∧ holdoverMean (List.replicate 16 32767) = 32767 := by decide +kernel

/-- The holdover grade decay table for base grades 4, 8 and 12. -/
theorem test_holdover_decay :
    [0, 599, 600, 3599, 3600, 14399, 14400, 86399].map (holdoverGradeAt image 4) = [4, 4, 6, 6, 9, 9, 10, 10] ∧
    [0, 599, 600, 3599, 3600, 14399, 14400, 86399].map (holdoverGradeAt image 8) = [8, 8, 8, 8, 9, 9, 10, 10] ∧
    [0, 599, 600, 3599, 3600, 14399, 14400, 86399].map (holdoverGradeAt image 12) = List.replicate 8 11 := by decide

/-- The image of the clamping example at station 9. -/
def clampExample : List Byte :=
  [0xB4, 0x01, 0x00, 0xFF, 0xFF, 0xFF, 0x00, 0x02, 0x58, 0x01, 0xF4, 0x9C, 0x40, 0x0A, 0x0B, 0x13, 0x88] ++
  [0x00, 0x02, 0x58, 0x06, 0x00, 0x01, 0x2C, 0x09, 0x01, 0x86, 0xA0, 0x0A, 0x01, 0x51, 0x80] ++
  [0x01, 0x00, 0x00, 0x1F, 0x40, 0x00, 0x00, 0x01, 0x01, 0x00, 0x00, 0x00, 0x00] ++
  [0x02, 0x00, 0x00, 0x00, 0x00, 0x00, 0x09, 0x00, 0x00, 0x00, 0x00, 0x00, 0x00] ++
  [0x05, 0x00, 0x00, 0x00, 0x00, 0x00, 0x00, 0x00, 0x00, 0x00, 0x00, 0x00, 0x00] ++
  [0x02, 0x00, 0x1F, 0x40, 0x00, 0x01, 0x0C, 0x01, 0x00, 0x50, 0x00, 0x00, 0x00] ++
  [0x01, 0x00, 0x00, 0x13, 0x88, 0x01, 0x00, 0x01, 0x01, 0x00, 0x00, 0x00, 0x00] ++ List.replicate 13 0x00

/-- The clamping example: 12 fields are altered, to the values of its table. -/
theorem test_clamp_example :
    let c := (clampImage 9 clampExample).1
    (clampImage 9 clampExample).2 = 12 ∧ c.interval = 1 ∧ c.trust = 0xFFFEFF ∧ c.accept = 500 ∧ c.reject = 500 ∧
    c.pull = 32767 ∧ c.warmup = 3600 ∧ c.age1 = 600 ∧ c.age2 = 600 ∧ c.age3 = 86400 ∧ c.limit = 86400 ∧
    c.inputs.toList.map InputCfg.use = [.fixed, .off, .off, .peer, .fixed, .off] ∧
    (c.inputs[0]).fixedGrade = 1 ∧ (c.inputs[3]).priority = 1 ∧ (c.inputs[3]).holdOff = 50 ∧
    (c.inputs[4]).freq = 8000 := by decide +kernel

/-- An entry for the ranking example: only its class is read. -/
def entryOfClass (cls : AnnClass) : PeerEntry := { entry3 with cls := cls }

/-- A record for the ranking example. -/
def ranked (st : InputState) (grade hop : Nat) : InputRec := { recordIn st grade with hop := hop }

/-- The six inputs of the ranking example, at station 9, LOCKED on input 3. -/
def sixInputs : State :=
  ((({ on with
    loader := { on.loader with buffer := { image with inputs :=
      #v[{ fixedCfg with priority := 2 }, { peerCfg with bound := 5, priority := 1 },
        { peerCfg with bound := 11, priority := 3 }, { peerCfg with bound := 20, priority := 1 },
        { fixedCfg with priority := 4 }, { peerCfg with bound := 17, priority := 2 }] } }
    records := #v[ranked .ready 4 0, ranked .ready 3 2, ranked .active 3 1, ranked .ready 11 1, barredBy byFreq 3,
      ranked .ready 3 1]
    selector := { active := some 2, force := .none }
    }.withEntry 4 (some (entryOfClass .peerLock))).withEntry 10 (some (entryOfClass .fixedLock))).withEntry 19
      (some (entryOfClass .holdover))).withEntry 16 (some (entryOfClass .holdover))

/-- The ranking example: E is {1, 2, 3, 6} and input 6 ranks first; input 3 stays, and a revertive station leaves it. -/
theorem test_rank_six :
    (List.finRange 6).filter (eligible sixInputs) = [0, 1, 2, 5] ∧ bestInput sixInputs = some 5 ∧
    (decision sixInputs false).1 = .input 2 ∧
    decision { sixInputs with loader := { sixInputs.loader with
      buffer := { sixInputs.loader.buffer with revertive := true } } } false = (.input 5, .reverted) := by decide +kernel

/-- The ranking example's first event: with input 3 at grade 5 the shelf switches to input 6. -/
theorem test_rank_first_event :
    decision (sixInputs.withRecord 2 (ranked .active 5 1)) false = (.input 5, .better) := by decide +kernel

/-- The example of eligibility in holdover: base grade 4; input 1 at grade 6, input 2 at grade 9 announcing HOLDOVER. -/
def eligibleInHoldover (age : Nat) : State :=
  { on.withEntry station3 (some (entryOfClass .holdover)) with
    records := #v[recordIn .ready 6, recordIn .ready 9, barredBy byLockout 4, InputRec.init, InputRec.init,
      InputRec.init]
    selector := { active := none, force := .none }
    follower := { Follower.init false with
      output := .holdover, value := { valid := true, value := 5, base := 4, ageCycles := age * 20000000, source := some 0 } } }

/-- To 599 s neither input is eligible; at 600 s input 1 is, and is taken. -/
theorem test_eligible_in_holdover :
    (decision (eligibleInHoldover 599) false).1 = .holdover ∧
    decision (eligibleInHoldover 600) false = (.input 0, .available) := by decide +kernel

/-! ### One step of each command -/

/-- R167: power-on clears a running part, held until its release. -/
theorem test_powerReset : (after .powerReset on).hold = some .power ∧ (after .powerReset on).selector.active = none := by
  decide +kernel

/-- R167: RESETN during a held POWER reset begins nothing. -/
theorem test_pinReset : (after .pinReset on).cause = .pin ∧ after .pinReset State.reset = State.reset := by decide +kernel

/-- R166: the straps of the release give the own address and AWAIT_IMAGE or LOADING. -/
theorem test_resetRelease :
    released.loader.ownAddress = 9 ∧ released.loader.partState = .awaitImage ∧ loading.loader.partState = .loading ∧
    released.follower.warm = true := by decide +kernel

/-- R166: addresses 0 and 25 are no station's. -/
theorem test_resetRelease_address :
    (after (.resetRelease 0 true 0) State.reset).loader.cause = .address ∧
    (after (.resetRelease 25 true 0) State.reset).loader.partState = .cfgFault ∧
    (after (.resetRelease 24 true 0) State.reset).loader.ownAddress = 24 := by decide +kernel

/-- R21, R48, R96: a window with no edge on the LOCKED active input with a hold-off: SUSPECT and BRIDGING. -/
theorem test_msPoint_bridges :
    bridging.follower.output = .bridging ∧ bridging.records[(0 : Inp)].state = .suspect ∧
    bridging.monitors[(0 : Inp)].window = [] ∧ bridging.follower.value.value = 40 := by decide +kernel

/-- R18: a seventh LOS sample that differs changes nothing yet, and the eighth is accepted. -/
theorem test_msPoint_debounce :
    (after (.msPoint 3 true true) (on.withMonitor 3 { Monitor.init false with losCount := 6 })).monitors[(3 : Inp)].losLevel
      = false ∧
    (after (.msPoint 3 true true) (on.withMonitor 3 { Monitor.init false with losCount := 7 })).monitors[(3 : Inp)].losLevel
      = true := by decide +kernel

/-- R31: the eighth count fills the window, one edge too many is 1,562.5 units, and the frequency check sets FREQ on the
absolute part alone, the input being active. -/
theorem test_gateCompletion :
    (after (.gateCompletion 0 8001) on).monitors[(0 : Inp)].lastOffset = some 1563 ∧
    (after (.gateCompletion 0 8001) on).monitors[(0 : Inp)].check = .absolute ∧
    (after (.gateCompletion 0 8001) on).records[(0 : Inp)].state = .barred := by decide +kernel

/-- R25: with a 1 ms point due in the same cycle, the gate does not complete before it. -/
theorem test_gateCompletion_tie :
    let due := on.withMonitor 0 { monitor 7 with msPhase := 20000 }
    after (.gateCompletion 0 8000) due = due := by decide +kernel

/-- R100: a good count of the LOCKED active input joins the history, whose oldest leaves. -/
theorem test_gateCompletion_history :
    (after (.gateCompletion 0 8000) on).follower.history = List.replicate 15 40 ++ [0] := by decide +kernel

/-- R49, R94, R98: the hold-off of the active input expires: barred, and the next input ACQUIRING. -/
theorem test_holdOffExpiry :
    acquiring.records[(0 : Inp)].state = .barred ∧ acquiring.selector.active = some 2 ∧
    acquiring.follower.output = .acquiring ∧ acquiring.follower.settle = some 200000000 := by decide +kernel

/-- R92, R98: with nothing eligible and a value, the output is in HOLDOVER and the grade is the value's base. -/
theorem test_holdOffExpiry_holdover :
    inHoldover.follower.output = .holdover ∧ ownGrade inHoldover = 2 ∧ outputOffset inHoldover = 40 := by decide +kernel

/-- R53, R54: with a full window the input is READY; with seven counts it waits SERVED. -/
theorem test_wtrExpiry :
    (after (.wtrExpiry 2) (proving 8)).records[(2 : Inp)].state = .ready ∧
    (after (.wtrExpiry 2) (proving 7)).records[(2 : Inp)].wtr = .served := by decide +kernel

/-- R95, R110: LOCKED, and OUTPUT_LOCKED (5) of input 3 at grade 4; after a take of the same moment the timer runs anew. -/
theorem test_settleExpiry :
    (after .settleExpiry (settled acquiring)).follower.output = .locked ∧
    (after .settleExpiry (settled acquiring)).log.records.getLast? =
      some { uptime := 0, kind := .outputLocked, arg1 := 3, arg2 := 4 } ∧
    (let s := settled (acquiring.withRecord 0 (recordIn .ready 2))
     (after .settleExpiry (after (.force 1) s)).follower.output = .acquiring) := by decide +kernel

/-- R104: in HOLDOVER with nothing eligible the output runs free at the limit of 86,400 s; a record that FORCE computes in
the same moment replaces the one that came to the limit (R104, R106). -/
theorem test_valueExpiry :
    (after .valueExpiry (aged 86400 inHoldover)).follower.output = .freeRun ∧
    (after .valueExpiry (aged 86400 inHoldover)).follower.value = HoldValue.invalid ∧
    (let s := aged 86400 (on.withFollower { on.follower with
       value := { valid := true, value := 7, base := 2, ageCycles := 0, source := some 0 } })
     (after .valueExpiry (after (.force 7) s)).follower.output = .holdover) := by decide +kernel

/-- R105: the first step age, 600 s, worsens base grade 2 to 6. -/
theorem test_stepAgeReached :
    let s := aged 600 inHoldover
    (after .stepAgeReached s).follower.value.age = 600 ∧ holdoverGrade (after .stepAgeReached s) = 6 ∧
    holdoverGrade s = 2 := by decide +kernel

/-- R108: warm-up ends, WARMUP_DONE with 600 s in its two bytes. -/
theorem test_warmupEnd :
    let t := after .warmupEnd (on.withFollower { on.follower with warm := true })
    t.follower.warm = false ∧ t.log.records = [{ uptime := 0, kind := .warmupDone, arg1 := 0x02, arg2 := 0x58 }] := by
  decide +kernel

/-- R156, R3 to R6: station 3's ANNOUNCE makes its entry and input 2's grade, path and hop count. -/
theorem test_announceReceived :
    heard3.peers.entries[station3] = some entry3 ∧ heard3.records[(1 : Inp)].effective = 3 ∧
    heard3.records[(1 : Inp)].path = [7, 3] ∧ heard3.bus.intact = 1 := by decide +kernel

/-- R155: the same sequence again is a repetition and is counted. -/
theorem test_announceReceived_repeated :
    (after (.announceReceived (announce3 0x0A)) heard3).peers.seqDiscarded = 1 := by decide +kernel

/-- R157: the query flag, and the want of an ANNOUNCE. -/
theorem test_queryReceived :
    (after (.queryReceived query3) on).announcer.queryFlag = true ∧ (after (.queryReceived query3) on).bus.tx = .deferring := by
  decide +kernel

/-- R158: a WITHDRAW leaves input 2 BARRED with GRADE and its path. -/
theorem test_withdrawReceived :
    let t := after (.withdrawReceived withdraw3) heard3
    (t.peers.entries[station3]).map PeerEntry.state = some .withdrawn ∧ t.records[(1 : Inp)].state = .barred ∧
    t.records[(1 : Inp)].path = [7, 3] := by decide +kernel

/-- R158: a WITHDRAW from a station with no entry makes none. -/
theorem test_withdrawReceived_noEntry :
    (after (.withdrawReceived withdraw3) on).peers.entries[station3] = none := by decide +kernel

/-- R118, R119: a frame with a bad check is counted once; another frame in collection before it is counted as well, and
the frame's own first characters are not. -/
theorem test_badFrame :
    let f := { query3 with check := 0x00 }
    let s := fun chars => on.withBus { on.bus with rx := .assemble chars, idle := some 0 }
    (after (.badFrame 0x02 f) on).bus.bad = 1 ∧ (after (.badFrame 0x02 f) (s [0x09, 0x02, 0x04])).bus.bad = 2 ∧
    (after (.badFrame 0x02 f) (s [0x09, 0x02, 0x03])).bus.bad = 1 := by decide +kernel

/-- R119: a new header for this station abandons the frame and begins another; a gap of 2 character times does not, one
cycle more does; in HUNT there is nothing to abandon. -/
theorem test_frameAbandoned :
    let s := on.withBus { on.bus with rx := .assemble [0x00, 0x01] }
    (after (.frameAbandoned (.newMark 0x09)) s).bus.rx = .assemble [0x09] ∧
    (after (.frameAbandoned (.newMark 0x08)) s).bus.rx = .hunt ∧
    (after (.frameAbandoned .idleGap) (s.withBus { s.bus with idle := some 1761 })).bus.bad = 1 ∧
    (after (.frameAbandoned .idleGap) (s.withBus { s.bus with idle := some 1760 })).bus.bad = 0 ∧
    after (.frameAbandoned .idleGap) on = on ∧
    (after (.frameAbandoned (.framingError (some 5))) s).bus.line = .heldActive (some 5) := by decide +kernel

/-- R159, R162: at 3 × its interval, 6 s, the entry is STALE, and its address joins the query list; an ANNOUNCE or a
WITHDRAW of the same moment, taken first, leaves it as that frame made it. -/
theorem test_entryStale :
    let s := entryAged 6 heard3
    ((after (.entryStale station3) s).peers.entries[station3]).map PeerEntry.state = some .stale ∧
    (after (.entryStale station3) s).announcer.queries = [3] ∧
    ((after (.entryStale station3) (after (.announceReceived (announce3 0x0B)) s)).peers.entries[station3]).map
      PeerEntry.state = some .fresh ∧
    ((after (.entryStale station3) (after (.withdrawReceived withdraw3) s)).peers.entries[station3]).map
      PeerEntry.state = some .withdrawn ∧
    ((after (.announceReceived (announce3 0x0A)) (after (.entryStale station3) s)).peers.entries[station3]).map
      PeerEntry.state = some .fresh := by decide +kernel

/-- R160, R162: at 6 × its interval, 12 s, the entry is removed and input 2 has no path; a WITHDRAW of the same moment,
taken first, puts the removal off, and taken after it finds no entry. -/
theorem test_entryRemoval :
    let s := entryAged 12 (after (.entryStale station3) (entryAged 6 heard3))
    let t := after (.entryRemoval station3) s
    t.peers.entries[station3] = none ∧ t.records[(1 : Inp)].hop = 0 ∧ t.records[(1 : Inp)].state = .barred ∧
    ((after (.entryRemoval station3) (after (.withdrawReceived withdraw3) s)).peers.entries[station3]).map
      PeerEntry.state = some .withdrawn ∧
    (after (.withdrawReceived withdraw3) t).peers.seqDiscarded = 1 := by decide +kernel

/-- R154: the window closes. -/
theorem test_rateWindowEnd :
    (heard3.peers.windows[station3]).isSome = true ∧
    (after (.rateWindowEnd station3) heard3).peers.windows[station3] = none := by decide +kernel

/-- R141: a deferring station hands its current content; with the same content and the event flag alone it hands nothing. -/
theorem test_transmissionStart :
    (after .transmissionStart deferring).announcer.frame = some (.announce content false 0) ∧
    (after .transmissionStart (deferring.withAnnouncer
      { deferring.announcer with periodicFlag := false, eventFlag := true })).bus.tx = .idle := by decide +kernel

/-- R121, R122: station 9 waits for 13 character times of idle line, 11,440 cycles; a start bit of another station first
leaves it deferring. -/
theorem test_transmissionStart_waits :
    let s := fun (n : Nat) => deferring.withBus { deferring.bus with idle := some n }
    (after .transmissionStart (s 11440)).bus.tx = .sending ∧ (after .transmissionStart (s 11439)).bus.tx = .deferring ∧
    (after .transmissionStart (after (.foreignStartBit (.sent 0x00 false)) deferring)).bus.tx = .deferring := by
  decide +kernel

/-- R124: the rest ends after 30 character times of idle line, 26,400 cycles, and not one cycle sooner; a start bit from
another station before that moment leaves it in force, and one at it does not. -/
theorem test_restEnd :
    let s := fun (n : Nat) => on.withBus { on.bus with rest := true, idle := some n }
    (after .restEnd (s 26400)).bus.rest = false ∧ (after .restEnd (s 26399)).bus.rest = true ∧
    (after (.foreignStartBit (.sent 0x00 false)) (s 26400)).bus.rest = false ∧
    (after (.foreignStartBit (.sent 0x00 false)) (s 26399)).bus.rest = true := by decide +kernel

/-- R142: 250 ms from the start of an 11-character frame are 4,990,320 cycles from its end. -/
theorem test_announceCompletion :
    let t := after .announceCompletion (sending (.announce content false 0))
    t.announcer.spacingTimer = some 4990320 ∧ t.announcer.periodicTimer = some 40000000 ∧ t.bus.sent = 1 := by
  decide +kernel

/-- R144: the destination leaves the list. -/
theorem test_queryCompletion :
    (after .queryCompletion (sending (.query 3 0))).announcer.queries = [] := by decide +kernel

/-- R131, R18, R166: the reset takes place, with cause SOFT, and the release samples the straps and the LOS lines. -/
theorem test_withdrawCompletion :
    let t := after (.withdrawCompletion pins) withdrawSent
    t.cause = .soft ∧ t.loader.partState = .awaitImage ∧ t.loader.ownAddress = 12 ∧
    t.monitors[(0 : Inp)].losLevel = true := by decide +kernel

/-- R125, R128: the eighth clash in a row silences the station. -/
theorem test_clash :
    (after (.clash pins) (sending (.query 3 0))).bus.tx = .deferring ∧
    (after (.clash pins) ((sending (.query 3 0)).withBus { (sending (.query 3 0)).bus with clashRun := 7 })).bus.tx
      = .silent := by decide +kernel

/-- R125, R127: after a clash the other station's character is still on the line, and its start bit at the moment of the
clash is taken in either order. -/
theorem test_clash_line :
    let c := Instr.foreignStartBit (.sent 0x09 true)
    let s := sending (.query 3 0)
    (after (.clash pins) (after c s)).bus.line = .character 880 (.sent 0x09 true) ∧
    (after (.clash pins) (after c s)).bus.rx = .assemble [0x09] ∧
    after (.clash pins) (after c s) = after c (after (.clash pins) s) := by decide +kernel

/-- R137: the periodic flag, and the want of an ANNOUNCE. -/
theorem test_periodicTimerExpiry :
    let s := on.withAnnouncer { on.announcer with periodicTimer := some 0 }
    (after .periodicTimerExpiry s).announcer.periodicFlag = true ∧ (after .periodicTimerExpiry s).bus.tx = .deferring ∧
    (after .periodicTimerExpiry (after .announceCompletion (sending (.announce content false 0)))).announcer.periodicFlag
      = false := by decide +kernel

/-- R139, R140: with the spacing over, a flag that is set is wanted; with a cycle left it is not over. -/
theorem test_spacingExpiry :
    let s := fun (left : Nat) => on.withAnnouncer { on.announcer with spacingTimer := some left, eventFlag := true }
    (after .spacingExpiry (s 0)).bus.tx = .deferring ∧ after .spacingExpiry (s 1) = s 1 := by decide +kernel

/-- R131: the 50 ms with no WITHDRAW on the line end in the reset; with one on the line it is awaited. -/
theorem test_withdrawWaitExpiry :
    (after (.withdrawWaitExpiry pins) withdrawing).cause = .soft ∧
    (after (.withdrawWaitExpiry pins) withdrawSent).announcer.waitOver = true := by decide +kernel

/-- R131: a clash after the 50 ms ends in the reset, and one before them in another try. -/
theorem test_clash_withdraw :
    (after (.clash pins) (after (.withdrawWaitExpiry pins) withdrawSent)).cause = .soft ∧
    (after .transmissionStart ((after (.clash pins) withdrawSent).withBus { (after (.clash pins) withdrawSent).bus with
      idle := some 11440 })).announcer.frame = some (.withdraw 0x00) := by decide +kernel

/-- R168, R174: a good image starts the part; a bad signature does not. 1,017 bit times of 10 µs are 203,400 cycles. -/
theorem test_eepromReadDone :
    running (after (.eepromReadDone goodImage) (reading 1 203400)) = true ∧
    after (.eepromReadDone goodImage) (reading 1 203399) = reading 1 203399 ∧
    (after (.eepromReadDone (imageBytes 0xB5 0x01 fixedBytes)) (reading 1 203400)).loader.cause = .signature := by
  decide +kernel

/-- R176: the reset is taken first, and the image of the read it abandoned, or START, comes after it. -/
theorem test_reset_first :
    let s := after (.softReset { pins with controllerMode := false }) (reading 1 203400)
    s.loader.partState = .loading ∧ s.loader.ownAddress = 12 ∧ after (.eepromReadDone goodImage) s = s ∧
    after (.eepromAttemptFailed .writeAddress true) s = s ∧
    (after (.start (some 0)) (after (.softReset pins) (after (.loadImage goodImage) released))).port.sdo = [0x00, 0xA1] := by
  decide +kernel

/-- R168: the transfer that reads an image: 0x50 to write, 0x00, 0x50 to read, 110 bytes, the last unacknowledged. -/
theorem test_wholeRead :
    let l := wholeRead goodImage
    l.length = 116 ∧ transferBits l = 1017 ∧ l.take 6 = [.start, .device 0x50 false true, .memory 0x00 true, .start,
      .device 0x50 true true, .data 0xB4 true] ∧ l.drop 114 = [.data 0x00 false, .stop] := by decide +kernel

/-- R168: 5 ms, that is 100,000 cycles, after the first failure; EEPROM_ABSENT at the third; 9 bit times are 1,800 cycles.
-/
theorem test_eepromAttemptFailed :
    (after (.eepromAttemptFailed .writeAddress true) (reading 1 1800)).loader.eeprom = .waiting 1 100000 ∧
    (after (.eepromAttemptFailed .writeAddress true) (reading 1 1799)).loader.eeprom = .attempt 1 1799 ∧
    (after (.eepromAttemptFailed .readAddress false) (reading 3 5400)).loader.cause = .eepromAbsent := by decide +kernel

/-- R168: the transfers of three failures: a byte unacknowledged, a line low from the start, and one that stays low from
the third bit of the second data byte. -/
theorem test_failedTransfer :
    failedTransfer .memoryAddress true = [.start, .device 0x50 false true, .memory 0x00 false, .stop] ∧
    failedTransfer (.heldLow none []) false = [] ∧
    failedTransfer (.heldLow (some 38) [0xB4]) false = [.start, .device 0x50 false true, .memory 0x00 true, .start,
      .device 0x50 true true, .data 0xB4 true] := by decide

/-- R168: the second attempt. -/
theorem test_eepromRetry :
    (after .eepromRetry (after (.eepromAttemptFailed .writeAddress true) (reading 1 1800))).loader.eeprom =
      .attempt 2 0 := by decide +kernel

/-- R179, R186: the status record begins with RUNNING, cause NONE, reset cause POWER; address 34 reads as 0xFF. -/
theorem test_read :
    (after (.read (.record 0) 3) on).port.sdo = [0x00, 0x00, 0x03, 0x00, 0x01] ∧
    (after (.read (.record 34) 2) on).port.sdo = [0x00, 0x00, 0xFF, 0xFF] ∧
    (after (.read .onward 1) (after (.read (.record 34) 2) on)).port.sdo = [0x00, 0x00, 0xFF, 0xFF, 0xFF] := by
  decide +kernel

/-- R179, R184: a READ of the event head, one byte of it clocked; then an event is recorded. The other 8 bytes of the
record are still those of the capture; the byte after them is the first of record 0, and in the next pass record 33
counts the event. -/
theorem test_read_wraps :
    let s := after (.lockout 1) (after (.read (.record 33) 1) on)
    let once := { after (.read (.record 33) 1) on with log := s.log }
    (after (.read .onward 9) once).port.sdo = [0x00, 0x00] ++ List.replicate 9 0x00 ++ [0x03] ∧
    ((after (.read .onward 588) once).port.sdo.getD 589 0) = 0x02 ∧
    (after (.read .onward 1) s).port.sdo = s.port.sdo := by decide +kernel

/-- R173: a good image is DONE and held; a running part refuses it. -/
theorem test_loadImage :
    (after (.loadImage goodImage) released).loader.held = true ∧
    (after (.loadImage goodImage) on).port.sdo.getLast? = some 0xA1 ∧
    (after (.loadImage (imageBytes 0xB4 0x02 fixedBytes)) released).loader.cause = .format := by decide +kernel

/-- R174, R175: START with an image held runs the part, STARTED first; with none it is REFUSED. -/
theorem test_start :
    let t := after (.start (some 0)) (after (.loadImage goodImage) released)
    running t = true ∧ t.log.records.head? = some { uptime := 0, kind := .started, arg1 := 0x01, arg2 := 0x00 } ∧
    (after (.start (some 0)) released).port.sdo = [0x00, 0xA1] := by decide +kernel

/-- R121, R132: the idle count is 0 at START, grows at the idle level, and stays 0 on a line held active. -/
theorem test_start_line :
    ([some 0, some 2, none].map fun held =>
      (tick (tick (tick (after (.start held) (after (.loadImage goodImage) released))))).bus.idle) =
      [some 3, some 1, some 0] := by decide +kernel

/-- R83, R84: a forced READY input is active; a BARRED one is REFUSED; 8 is INVALID. -/
theorem test_force :
    (after (.force 3) on).selector.active = some 2 ∧ (after (.force 2) on).port.sdo = [0x00, 0x00, 0xA1] ∧
    (after (.force 8) on).port.sdo = [0x00, 0x00, 0xA2] ∧ (after (.force 7) on).follower.output = .holdover := by
  decide +kernel

/-- R88: after UNFORCE the Selector goes back to the strictly better input. -/
theorem test_unforce : (after .unforce (after (.force 3) on)).selector.active = some 0 := by decide +kernel

/-- R62: LOCKOUT of the active input. -/
theorem test_lockout :
    (after (.lockout 1) on).selector.active = some 2 ∧ (after (.lockout 1) on).records[(0 : Inp)].reasons = byLockout ∧
    (after (.lockout 7) on).port.sdo = [0x00, 0x00, 0xA2] ∧ (after (.lockout 4) on).port.sdo = [0x00, 0x00, 0xA1] := by
  decide +kernel

/-- R63, R54: a RELEASE with a full window gives READY with its WTR met. -/
theorem test_release :
    (after (.release 3) (after (.lockout 3) on)).records[(2 : Inp)].state = .ready ∧
    (after (.release 3) (barring byLockout 7)).records[(2 : Inp)].wtr = .met := by decide +kernel

/-- R183: the oldest record leaves; an empty list gives an empty record. -/
theorem test_popEvent :
    (after .popEvent logFull).log.records.length = 31 ∧
    (after .popEvent logFull).port.sdo = [0x00, 0xA0, 0x00, 0x00, 0x00, 0x01, 0x02, 0x12, 0x02] ∧
    (after .popEvent on).port.sdo = [0x00, 0xA0, 0x00, 0x00, 0x00, 0x00, 0x00, 0x00, 0x00] := by decide +kernel

/-- R131, R181: the running part first wants a WITHDRAW for at most 50 ms; one not RUNNING resets at once. -/
theorem test_softReset :
    withdrawing.announcer.withdrawWait = some 1000000 ∧ withdrawing.bus.tx = .deferring ∧
    (after (.softReset pins) released).cause = .soft ∧
    (after (.softReset pins) released).loader.ownAddress = 12 := by decide +kernel

/-- R178: an unknown command is INVALID. -/
theorem test_unknownCommand : (after (.unknownCommand 0x0A) on).port.sdo = [0x00, 0xA2] := by decide +kernel

/-- R117, R119, R121: a header for this station is collected, one for another is not, and each restarts the idle count; a
character that follows a gap of more than 2 character times finds the frame abandoned. -/
theorem test_foreignStartBit :
    (after (.foreignStartBit (.sent 0x09 true)) on).bus.rx = .assemble [0x09] ∧
    (after (.foreignStartBit (.sent 0x08 true)) on).bus.rx = .hunt ∧
    (after (.foreignStartBit (.sent 0x08 true)) on).bus.idle = some 0 ∧
    (let t := fun n => after (.foreignStartBit (.sent 0x05 false))
      (on.withBus { on.bus with rx := .assemble [0x09, 0x02], idle := some n })
     (t 1760).bus.rx = .assemble [0x09, 0x02, 0x05] ∧ (t 1760).bus.bad = 0 ∧
     (t 1761).bus.rx = .hunt ∧ (t 1761).bus.bad = 1) := by decide +kernel

/-- R114: a short pulse changes nothing, nor is a start bit looked for inside a character or before the line's return to
the idle level, and a character whose stop bit is at the active level is no header. -/
theorem test_foreignStartBit_bad :
    after (.foreignStartBit { levels := 0x7FF, held := none }) on = on ∧
    (∀ line ∈ [Line.character 1 (.sent 0x00 false), .heldActive (some 1)],
      let s := on.withBus { on.bus with line := line, idle := some 0 }
      after (.foreignStartBit (.sent 0x09 true)) s = s) ∧
    (after (.foreignStartBit { levels := 0x212, held := none }) on).bus.rx = .hunt := by decide +kernel

/-- R152: an intact frame of unknown kind from a trusted station is counted twice over: intact, and malformed. -/
theorem test_malformedFrame :
    let t := after (.malformedFrame 0x09 (frame 0x09 0x00 0x03 0x01 [])) on
    t.bus.intact = 1 ∧ t.bus.bad = 1 := by decide +kernel

/-- R182: an idle block counts its second. -/
theorem test_tick_second :
    (match step (on.withLog { on.log with phase := 19999999 }) with
      | .next t => t.log.uptime
      | .fault _ => 0
      | .refused _ => 0) = 1 := by decide +kernel

/-- R121: after a framing error the line is held until it returns to the idle level, and the idle count stays. -/
theorem test_tick_line :
    let t := fun (line : Line) => tickBus (on.withBus { on.bus with line := line, idle := some 0 })
    (t (.character 1 { levels := 0x212, held := some 5 })).line = .heldActive (some 5) ∧
    (t (.heldActive (some 1))).line = .quiet ∧ (t (.heldActive none)).idle = some 0 ∧ (t .quiet).idle = some 1 := by
  decide +kernel

/-- R123: the frame's time grows from its transmission start to its end, the 264 µs of a QUERY. -/
theorem test_tick_driven :
    let s := sending (.query 3 0)
    ([5278, 5279, 5280].map fun n => (tickBus (s.withBus { s.bus with driven := n })).driven) = [5279, 5280, 5280] ∧
    (tickBus on).driven = on.bus.driven := by decide +kernel

/-! ### For each obligation, states and operands that meet its hypotheses, and its clauses at the ends of their ranges -/

theorem witness_StepTakesFront : { on with pending := [.restEnd, .popEvent] }.pending = .restEnd :: [.popEvent] := by decide

theorem witness_UptimeCountsSeconds :
    (State.reset.hold ≠ none ∧ State.reset.pending = []) ∧
    (on.hold = none ∧ on.pending = [] ∧ on.log.phase < 20000000 ∧
      on.log.uptime * 20000000 + on.log.phase + 20000000 < 4294967296 * 20000000) ∧
    tickLine (.heldActive (some (1 + 1))) = .heldActive (some 1) ∧
    tickLine (.character (1 + 1) (LineChar.sent 0x09 true)) = .character 1 (LineChar.sent 0x09 true) := by decide +kernel

/-- The counts move in one cycle of a block with a WTR, a value's age and an entry's age just short of their points, a
frame in collection, a running gate, and a second that ends. -/
theorem witness_UptimeCountsSeconds_counts :
    let s := ((((proving 3).withRecord 0 { recordIn .suspect 2 with holdOff := some 7 }).withBus
        { on.bus with rx := .assemble [0x09], idle := some 1760 }).withFollower { on.follower with
        warm := true, warmCount := 598, settle := some 1
        value := { valid := true, value := 40, base := 2, ageCycles := 600 * 20000000 - 2, source := some 0 } }).withEntry
        station3 (some { entry3 with ageCycles := 6 * 20000000 - 1 })
    let t := tick (s.withLog { s.log with phase := 19999999 })
    t.records[(2 : Inp)].wtr = .running 6 ∧ t.records[(0 : Inp)].holdOff = some 6 ∧ t.bus.idle = some 1761 ∧
      t.follower.warmCount = 599 ∧ t.follower.settle = some 0 ∧ t.follower.value.ageCycles = 600 * 20000000 - 1 ∧
      t.peers.entries[station3] = some { entry3 with ageCycles := 6 * 20000000 - 1 } ∧
      t.monitors[(0 : Inp)].gate.elapsed = 1 ∧ t.monitors[(0 : Inp)].msPhase = 1 := by and_intros <;> decide +kernel

theorem witness_ReadShiftsRecords_spi :
    [true, false].length < 8 ∧ on.hold = none ∧
    (portEdge .csnFalls on).port.frame = some { bits := [], high := false } ∧
    argumentsOf 0x02 = 110 ∧ argumentsOf 0x04 = 1 ∧ argumentsOf 0x03 = 0 ∧
    portEdge .csnFalls State.reset = State.reset ∧ sdoLevel State.reset = none := by decide +kernel

theorem witness_CommandsKeepToTheirPart :
    (running on = true ∧ running (after .popEvent on) = true) ∧
    (State.reset.hold ≠ none ∧ Instr.popEvent ≠ .powerReset ∧ runningOnly .popEvent = false) ∧
    (running released = false ∧ runningOnly (.clash pins) = true) := by decide +kernel

theorem witness_ResetsClearEveryUnit :
    on.hold = none ∧ State.reset.hold = some .power ∧ (after .pinReset on).hold = some .pin := by decide +kernel

/-- The addresses at the ends of the two cases of the straps. -/
theorem witness_ResetsClearEveryUnit_straps :
    StrapsRead 0 true (after (.resetRelease 0 true 0) State.reset).loader ∧
    StrapsRead 1 true (after (.resetRelease 1 true 0) State.reset).loader ∧
    StrapsRead 24 false (after (.resetRelease 24 false 0) State.reset).loader ∧
    StrapsRead 25 false (after (.resetRelease 25 false 0) State.reset).loader := by
  refine ⟨?_, ?_, ?_, ?_⟩ <;> decide +kernel

/-- A station that is SILENT. -/
def silent : State := on.withBus { on.bus with duplicate := true, tx := .silent }

theorem witness_SoftResetWithdrawsFirst :
    (released.hold = none ∧ running released = false) ∧
    (silent.hold = none ∧ silent.bus.duplicate = true ∧ silent.announcer.mode ≠ .withdrawing) ∧
    (on.hold = none ∧ running on = true ∧ on.bus.duplicate = false ∧ on.announcer.mode ≠ .withdrawing) ∧
    (withdrawing.hold = none ∧ running withdrawing = true ∧ withdrawing.announcer.mode = .withdrawing) := by
  decide +kernel

/-- The WITHDRAW on the line, with the seventh and the eighth clash in a row, and with the 50 ms over; the wait for the
line; and another frame on it. -/
theorem witness_WithdrawEndsInReset :
    (running withdrawSent = true ∧ withdrawSent.bus.tx = .sending ∧
      withdrawSent.announcer.frame = some (.withdraw 0x00) ∧ withdrawSent.announcer.mode = .withdrawing ∧
      withdrawSent.announcer.withdrawWait ≠ none) ∧
    (running withdrawing = true ∧ withdrawing.announcer.mode = .withdrawing ∧
      withdrawing.announcer.withdrawWait ≠ none ∧ withdrawing.bus.tx ≠ .sending) ∧
    (let s := after (.softReset pins) (sending (.query 3 0))
     running s = true ∧ s.announcer.mode = .withdrawing ∧ s.announcer.withdrawWait ≠ none ∧ s.bus.tx = .sending ∧
      s.announcer.frame = some (.query 3 0)) ∧
    (withdrawSent.announcer.waitOver = false ∧ withdrawSent.bus.clashRun < 7 ∧ withdrawSent.bus.duplicate = false) ∧
    (let s := after (.withdrawWaitExpiry pins) withdrawSent
     s.announcer.waitOver = true ∧ s.announcer.frame = some (.withdraw 0x00) ∧ s.announcer.mode = .withdrawing ∧
      s.bus.tx = .sending) ∧
    (let s := fun (n : Nat) => withdrawSent.withBus { withdrawSent.bus with clashRun := n }
     (s 6).bus.clashRun < 7 ∧ 7 ≤ (s 7).bus.clashRun ∧ (s 7).announcer.mode = .withdrawing ∧ (s 7).bus.tx = .sending ∧
      running (s 7) = true) := by decide +kernel

theorem witness_EightSamplesAgree :
    let s : State := { on with pending := List.replicate 8 (.msPoint 0 true true) ++ [.popEvent] }
    s.hold = none ∧ s.pending = List.replicate 8 (.msPoint 0 true true) ++ [.popEvent] := by decide +kernel

/-- `on` with the detectors of input 4 as given. -/
def detectors (losCount activityRun : Nat) (present : Bool) : State :=
  on.withMonitor 3 { Monitor.init false with losCount := losCount, activityRun := activityRun, present := present }

/-- The clauses of the two detectors at 6 and 7, and of SIGNAL. -/
theorem witness_MsPointDetects :
    on.hold = none ∧ (detectors 6 0 true).monitors[(3 : Inp)].losCount < 7 ∧
    7 ≤ (detectors 7 0 true).monitors[(3 : Inp)].losCount ∧
    (detectors 0 6 false).monitors[(3 : Inp)].activityRun < 7 ∧
    7 ≤ (detectors 0 7 false).monitors[(3 : Inp)].activityRun ∧
    (measuring on 0 = true ∧ measuring on 3 = false) ∧
    (on.monitors[(0 : Inp)].signal = false ∧ (after (.msPoint 0 false false) on).monitors[(0 : Inp)].signal = true) ∧
    ((barring bySignal 0).monitors[(2 : Inp)].signal = true ∧ (after (.msPoint 2 false true)
      ((barring bySignal 0).withMonitor 2 { (barring bySignal 0).monitors[(2 : Inp)] with activityRun := 7 })).monitors[
        (2 : Inp)].signal = false) := by decide +kernel

/-- A state in which input `i` has SIGNAL, its activity about to be PRESENT again. -/
def aboutToClear (i : Inp) (s : State) : State :=
  s.withMonitor i { s.monitors[i] with activityRun := 7 }

/-- SIGNAL arises on a READY or ACTIVE input with and without a hold-off, on a PROVING and on a BARRED one. -/
theorem witness_SignalMovesInput_arises :
    (measuring on 0 = true ∧ RecordsLawful on ∧ MeasuringLaw on ∧ on.records[(0 : Inp)].state = .active ∧
      0 < (inputCfg on 0).holdOff ∧ on.monitors[(0 : Inp)].signal = false) ∧
    (on.records[(2 : Inp)].state = .ready ∧ (inputCfg on 2).holdOff = 0 ∧ measuring on 2 = true) ∧
    ((proving 7).records[(2 : Inp)].state = .proving ∧ measuring (proving 7) 2 = true ∧ RecordsLawful (proving 7) ∧
      MeasuringLaw (proving 7)) ∧
    (on.records[(1 : Inp)].state = .barred ∧ measuring on 1 = true ∧ on.monitors[(1 : Inp)].signal = false ∧
      (after (.msPoint 1 false false) on).monitors[(1 : Inp)].signal = true) := by
  and_intros <;> decide +kernel

/-- Two reasons, SIGNAL and LOCKOUT. -/
def bySignalAndLockout : Reasons := { bySignal with lockout := true }

/-- `bridging` with the bridging origin ACQUIRING. -/
def bridgingAfresh : State :=
  bridging.withFollower { bridging.follower with bridging := some .acquiring, history := [] }

/-- A SUSPECT input 1 with origin READY, the shelf on input 3. -/
def standby : State :=
  aboutToClear 0 (((bridging.withRecord 0 { bridging.records[(0 : Inp)] with origin := some .ready }).withRecord 2
    (recordIn .active 4)).withActive (some 2) |>.withFollower { on.follower with output := .locked })

/-- SIGNAL clears on a SUSPECT input by its origin and the bridging origin. -/
theorem witness_SignalMovesInput_returns :
    (measuring (aboutToClear 0 bridging) 0 = true ∧ SelectionLaw (aboutToClear 0 bridging) ∧
      Settled (aboutToClear 0 bridging) ∧ bridging.records[(0 : Inp)].origin = some .active ∧
      bridging.follower.bridging = some .locked) ∧
    (RecordsLawful (aboutToClear 0 bridgingAfresh) ∧ MeasuringLaw (aboutToClear 0 bridgingAfresh) ∧
      SelectionLaw (aboutToClear 0 bridgingAfresh) ∧ Settled (aboutToClear 0 bridgingAfresh) ∧
      (after (.msPoint 0 false true) (aboutToClear 0 bridgingAfresh)).follower.settle = some 200000000) ∧
    (measuring standby 0 = true ∧ RecordsLawful standby ∧ MeasuringLaw standby ∧ SelectionLaw standby ∧
      standby.records[(0 : Inp)].origin = some .ready ∧
      (after (.msPoint 0 false true) standby).monitors[(0 : Inp)].signal = false ∧
      (after (.msPoint 0 false true) standby).records[(0 : Inp)].state = .active) := by and_intros <;> decide +kernel

/-- SIGNAL clears on a SUSPECT input, and on a BARRED one with and without another reason. -/
theorem witness_SignalMovesInput_clears :
    (measuring (aboutToClear 0 bridging) 0 = true ∧ RecordsLawful (aboutToClear 0 bridging) ∧
      MeasuringLaw (aboutToClear 0 bridging) ∧ (aboutToClear 0 bridging).records[(0 : Inp)].state = .suspect ∧
      (after (.msPoint 0 false true) (aboutToClear 0 bridging)).monitors[(0 : Inp)].signal = false) ∧
    (RecordsLawful (aboutToClear 2 (barring bySignal 0)) ∧ MeasuringLaw (aboutToClear 2 (barring bySignal 0)) ∧
      (aboutToClear 2 (barring bySignal 0)).records[(2 : Inp)].reasons = bySignal ∧
      (after (.msPoint 2 false true) (aboutToClear 2 (barring bySignal 0))).monitors[(2 : Inp)].signal = false) ∧
    (RecordsLawful (aboutToClear 2 (barring bySignalAndLockout 0)) ∧
      MeasuringLaw (aboutToClear 2 (barring bySignalAndLockout 0)) ∧
      { bySignalAndLockout with signal := false } ≠ Reasons.empty) := by and_intros <;> decide +kernel

/-- The largest difference that does not clamp at 8,000 Hz, and the next. -/
theorem witness_WindowedOffsetRounds :
    0 < 8000 ∧ windowedOffset [64020] 8000 = 31250 ∧ windowedOffset [64021] 8000 = 32767 := by decide +kernel

/-- With 7 counts and with 6; one cycle before a 1 ms point and at it. -/
theorem witness_GateCompletionMeasures :
    (let s := fun (n : Nat) => on.withMonitor 0 { monitor 7 with msPhase := n }
     (s 19999).monitors[(0 : Inp)].msPhase < 20000 ∧ 20000 ≤ (s 20000).monitors[(0 : Inp)].msPhase ∧
      measuring (s 19999) 0 = true) ∧
    (measuring on 0 = true ∧ on.monitors[(0 : Inp)].gate.run = true ∧ on.monitors[(0 : Inp)].msPhase < 20000 ∧
      on.monitors[(0 : Inp)].window.length ≤ 8 ∧
      (after (.gateCompletion 0 8000) on).monitors[(0 : Inp)].window.length = 8) ∧
    (measuring (proving 6) 2 = true ∧ (proving 6).monitors[(2 : Inp)].gate.run = true ∧
      (proving 6).monitors[(2 : Inp)].window.length ≤ 8 ∧
      (after (.gateCompletion 2 8000) (proving 6)).monitors[(2 : Inp)].window.length = 7) := by decide +kernel

/-- Input 3 of `on` in PROVING with 7 counts and the WTR status `w`. -/
def provingWith (w : Wtr) : State := (proving 7).withRecord 2 { recordIn .proving 4 with wtr := w }

/-- PROVING with 7 counts and each WTR status; the completion leaves the window full and FREQ clear. -/
theorem witness_GateCompletionMeasures_passes :
    (∀ w ∈ [Wtr.served, .met, .waived, .running 5], RecordsLawful (provingWith w)) ∧
    (∀ w ∈ [Wtr.served, .met, .waived, .running 5], SelectionLaw (provingWith w)) ∧
    (let s := provingWith .waived
     measuring s 2 = true ∧ s.records[(2 : Inp)].state = .proving ∧ s.monitors[(2 : Inp)].gate.run = true ∧
      s.monitors[(2 : Inp)].msPhase < 20000 ∧ s.monitors[(2 : Inp)].window.length = 7 ∧ s.log.records.length < 32 ∧
      (after (.gateCompletion 2 8000) s).monitors[(2 : Inp)].freq = false) ∧
    ([Wtr.served, .met, .waived, .running 5].map fun w =>
      (after (.gateCompletion 2 8000) (provingWith w)).records[(2 : Inp)].state) = [.ready, .ready, .ready, .proving] ∧
    ([Wtr.served, .met, .waived].map fun w =>
      (after (.gateCompletion 2 8000) (provingWith w)).log.records.map EventRec.arg2) = [[0x02], [0x03], [0x04]] := by
  and_intros <;> decide +kernel

/-- `on` with the output offset, and so the gap of an offset of 0 from it, at `o`. -/
def withOutputOffset (o : Int) : State := on.withMonitor 0 { monitor 7 with lastOffset := some o }

/-- The bounds of the relative part, an offset of 0 against outputs of 400, 401, 500 and 501, and both parts failing. -/
theorem witness_FrequencyCheckTable :
    (measuring on 2 = true ∧ on.monitors[(2 : Inp)].gate.run = true ∧ on.monitors[(2 : Inp)].msPhase < 20000 ∧
      on.monitors[(2 : Inp)].window.length = 8 ∧ (cfg on).accept ≤ (cfg on).reject) ∧
    (outputOffset on = 40 ∧ outputOffset inHoldover = 40 ∧ outputOffset (after .valueExpiry (aged 86400 inHoldover)) = 0) ∧
    (after (.gateCompletion 2 8000) (withOutputOffset 400)).monitors[(2 : Inp)].check = .clear ∧
    (after (.gateCompletion 2 8000) (withOutputOffset 401)).monitors[(2 : Inp)].check = .hold ∧
    (after (.gateCompletion 2 8000) (withOutputOffset 500)).monitors[(2 : Inp)].check = .hold ∧
    (after (.gateCompletion 2 8000) (withOutputOffset 501)).monitors[(2 : Inp)].check = .relative ∧
    (after (.gateCompletion 2 8001) on).monitors[(2 : Inp)].check = .both ∧
    (after (.gateCompletion 2 8001) (withOutputOffset 1100)).monitors[(2 : Inp)].check = .absolute := by
  and_intros <;> decide +kernel

/-- The state with no WTR on input 3. -/
def noWtr (s : State) : State :=
  s.withLoader { s.loader with buffer := { s.loader.buffer with
    inputs := s.loader.buffer.inputs.set 2 { s.loader.buffer.inputs[2] with wtr := 0 } } }

/-- FREQ arises on the active input; it clears on a BARRED one with and without a WTR, and with another reason. -/
theorem witness_FreqMovesInput :
    (measuring on 0 = true ∧ on.monitors[(0 : Inp)].gate.run = true ∧ on.monitors[(0 : Inp)].msPhase < 20000 ∧
      RecordsLawful on ∧ SelectionLaw on ∧ on.records[(0 : Inp)].state ≠ .off ∧ on.monitors[(0 : Inp)].window.length = 7 ∧
      on.monitors[(0 : Inp)].freq = false ∧ (after (.gateCompletion 0 8001) on).monitors[(0 : Inp)].freq = true) ∧
    (measuring (barring byFreq 8) 2 = true ∧ (barring byFreq 8).monitors[(2 : Inp)].gate.run = true ∧
      (barring byFreq 8).monitors[(2 : Inp)].msPhase < 20000 ∧
      RecordsLawful (barring byFreq 8) ∧ SelectionLaw (barring byFreq 8) ∧
      (barring byFreq 8).records[(2 : Inp)].hardSeen = true ∧ (inputCfg (barring byFreq 8) 2).wtr ≠ 0 ∧
      (after (.gateCompletion 2 8000) (barring byFreq 8)).monitors[(2 : Inp)].freq = false) ∧
    (let s := noWtr (barring byFreq 8)
     RecordsLawful s ∧ SelectionLaw s ∧ s.records[(2 : Inp)].hardSeen = true ∧ (inputCfg s 2).wtr = 0) ∧
    (RecordsLawful (barring { byFreq with lockout := true } 8) ∧ SelectionLaw (barring { byFreq with lockout := true } 8) ∧
      { { byFreq with lockout := true } with freq := false } ≠ Reasons.empty) := by and_intros <;> decide +kernel

theorem witness_HistoryTakesOffsets :
    (measuring on 0 = true ∧ on.monitors[(0 : Inp)].gate.run = true ∧ on.monitors[(0 : Inp)].msPhase < 20000 ∧
      RecordsLawful on ∧ SelectionLaw on ∧ BusLaw on ∧ on.selector.active = some 0 ∧
      on.follower.output = .locked ∧ on.follower.history.length ≤ 16 ∧
      on.monitors[(0 : Inp)].window.length ≤ 8 ∧
      (after (.gateCompletion 0 8000) on).monitors[(0 : Inp)].freq = false) ∧
    (measuring acquiring 2 = true ∧ acquiring.monitors[(2 : Inp)].gate.run = true ∧ RecordsLawful acquiring ∧
      SelectionLaw acquiring ∧ BusLaw acquiring ∧ acquiring.selector.active = some 2 ∧
      acquiring.follower.output = .acquiring ∧ acquiring.monitors[(2 : Inp)].window.length ≤ 8 ∧
      (after (.gateCompletion 2 8000) acquiring).monitors[(2 : Inp)].freq = false) := by and_intros <;> decide +kernel

theorem witness_HoldOffExpiryBars :
    running bridging = true ∧ RecordsLawful bridging ∧ SelectionLaw bridging ∧
    bridging.records[(0 : Inp)].state = .suspect ∧ bridging.log.records.length < 32 := by and_intros <;> decide +kernel

theorem witness_WtrExpiryServes :
    (running (proving 8) = true ∧ RecordsLawful (proving 8) ∧ SelectionLaw (proving 8) ∧
      (proving 8).records[(2 : Inp)].state = .proving ∧ (proving 8).records[(2 : Inp)].wtr = .running 5 ∧
      (proving 8).monitors[(2 : Inp)].window.length = 8) ∧
    (running (proving 7) = true ∧ RecordsLawful (proving 7) ∧ SelectionLaw (proving 7) ∧
      (proving 7).records[(2 : Inp)].wtr = .running 5 ∧ (proving 7).monitors[(2 : Inp)].window.length ≠ 8) := by
  and_intros <;> decide +kernel

/-- The numbers 0, 1, 6 and 7, a used and an OFF input. -/
theorem witness_LockoutBars :
    on.hold = none ∧ RecordsLawful on ∧ SelectionLaw on ∧
    (after (.lockout 0) on).port.sdo = [0x00, 0x00, 0xA2] ∧ (after (.lockout 7) on).port.sdo = [0x00, 0x00, 0xA2] ∧
    (measuring on 0 = true ∧ on.records[(0 : Inp)].state ≠ .off ∧ on.records[(0 : Inp)].reasons.lockout = false) ∧
    measuring on 5 = false ∧ (after (.lockout 6) on).port.sdo = [0x00, 0x00, 0xA1] := by and_intros <;> decide +kernel

/-- LOCKOUT with another reason, after a hard reason, and alone with seven and with eight counts. -/
theorem witness_ReleaseFrees :
    (on.hold = none ∧ RecordsLawful on ∧ SelectionLaw on ∧ on.records[(0 : Inp)].reasons.lockout = false) ∧
    (RecordsLawful (barring { byFreq with lockout := true } 8) ∧ SelectionLaw (barring { byFreq with lockout := true } 8) ∧
      measuring (barring { byFreq with lockout := true } 8) 2 = true) ∧
    (let hard := (barring byLockout 8).withRecord 2 { barredBy byLockout 4 with hardSeen := true }
     RecordsLawful hard ∧ SelectionLaw hard ∧ hard.records[(2 : Inp)].hardSeen = true ∧ (inputCfg hard 2).wtr ≠ 0) ∧
    (RecordsLawful (barring byLockout 7) ∧ SelectionLaw (barring byLockout 7) ∧
      (barring byLockout 7).records[(2 : Inp)].hardSeen = false ∧
      (barring byLockout 7).monitors[(2 : Inp)].window.length ≠ 8) ∧
    (RecordsLawful (barring byLockout 8) ∧ SelectionLaw (barring byLockout 8) ∧
      (barring byLockout 8).monitors[(2 : Inp)].window.length = 8 ∧ (barring byLockout 8).log.records.length < 32) := by
  and_intros <;> decide +kernel

/-- The settle time passed, and with time left. -/
theorem witness_SettleExpiryLocks :
    (let s := settled acquiring
     running s = true ∧ s.follower.output = .acquiring ∧ s.follower.settle = some 0 ∧ s.selector.active = some 2) ∧
    acquiring.follower.settle = some (199999999 + 1) ∧ on.follower.settle = none := by decide +kernel

/-- In HOLDOVER and in a locked state, one cycle short of the limit, and one cycle sooner. -/
theorem witness_ValueExpires :
    (let s := aged 86400 inHoldover
     running s = true ∧ s.follower.value.valid = true ∧ RecordsLawful s ∧ SelectionLaw s ∧ BusLaw s ∧
      s.follower.output = .holdover ∧ (cfg s).limit * 20000000 ≤ s.follower.value.ageCycles + 1) ∧
    (let s := aged 86400 acquiring
     running s = true ∧ s.follower.value.valid = true ∧ RecordsLawful s ∧ SelectionLaw s ∧ BusLaw s ∧
      s.follower.output ≠ .holdover ∧ (cfg s).limit * 20000000 ≤ s.follower.value.ageCycles + 1) ∧
    inHoldover.follower.value.ageCycles + 1 < (cfg inHoldover).limit * 20000000 ∧
    on.follower.value.valid = false := by and_intros <;> decide +kernel

theorem witness_StepAgeIsReached :
    (let s := aged 600 inHoldover
     running s = true ∧ s.follower.value.valid = true ∧ RecordsLawful s ∧ SelectionLaw s ∧ BusLaw s ∧
      600 ∈ [(cfg s).age1, (cfg s).age2, (cfg s).age3] ∧ s.follower.value.ageCycles + 1 = 600 * 20000000 ∧
      600 < (cfg s).limit) ∧
    (∀ a ∈ [(cfg inHoldover).age1, (cfg inHoldover).age2, (cfg inHoldover).age3],
      inHoldover.follower.value.ageCycles + 1 ≠ a * 20000000) ∧
    (let s := aged 86400 inHoldover
     (cfg s).limit * 20000000 ≤ s.follower.value.ageCycles + 1) := by and_intros <;> decide +kernel

/-- A schedule in order, and ages at the ends of each step; the two ends of the sum. -/
theorem witness_HoldoverGradeSteps :
    (List.replicate 16 (32767 : Int)).length = 16 ∧ (∀ n ∈ List.replicate 16 (32767 : Int), OffsetInRange n) ∧
    (∀ n ∈ List.replicate 16 (-32767 : Int), OffsetInRange n) ∧
    image.age1 ≤ image.age2 ∧ image.age2 ≤ image.age3 ∧ image.grade1 ≤ image.grade2 ∧ image.grade2 ≤ image.grade3 ∧
    599 < image.age1 ∧ image.age1 ≤ 600 ∧ 3599 < image.age2 ∧ image.age2 ≤ 3600 ∧ 14399 < image.age3 ∧
    image.age3 ≤ 14400 := by decide

/-- `on` in warm-up. -/
def warming : State := on.withFollower { on.follower with warm := true }

theorem witness_WarmupEnds :
    running warming = true ∧ warming.follower.warm = true ∧ RecordsLawful warming ∧ SelectionLaw warming ∧
    warming.log.records.length < 32 := by and_intros <;> decide +kernel

/-- A log that takes one record more, a full one, and a nearly full one that two records of an event overrun. -/
theorem witness_LogTakesWhatFits :
    (on.log.records.length < 32 ∧ logFull.log.records.length = 32 ∧ running (after (.force 3) logFull) = true) ∧
    (let s := on.withLog { on.log with records := logFull.log.records.drop 1 }
     s.log.records.length = 31 ∧ (after (.lockout 1) s).log.records.length = 32 ∧
      (after (.lockout 1) s).log.overflow = true ∧ running (after (.lockout 1) s) = true ∧
      (after (.lockout 1) on).log.records.length = 2) := by decide +kernel

/-- Input 3 of `on`, with no hold-off, is the active one. -/
def onThird : State := ((on.withRecord 0 (recordIn .ready 2)).withRecord 2 (recordIn .active 4)).withActive (some 2)

/-- Input 2 of `on`, bound to station 3 and FRESH, is the active one. -/
def onPeer : State :=
  (((on.withRecord 0 (recordIn .ready 2)).withRecord 1 { recordIn .active 3 with path := [7, 3], hop := 2 }).withActive
    (some 1)).withEntry station3 (some entry3)

/-- SIGNAL arises on an active input with a hold-off while ACQUIRING, and while LOCKED with 15 and 16 offsets; and on a
READY one with a hold-off. -/
theorem witness_SignalMovesInput_bridges :
    (let s := on.withFollower { on.follower with output := .acquiring, settle := some 5, history := [] }
     RecordsLawful s ∧ MeasuringLaw s ∧ SelectionLaw s ∧ Settled s ∧ s.records[(0 : Inp)].state = .active ∧
      0 < (inputCfg s 0).holdOff ∧ (after (.msPoint 0 false false) s).follower.bridging = some .acquiring ∧
      (after (.msPoint 0 false false) s).follower.settle = none) ∧
    (let s := on.withFollower { on.follower with history := List.replicate 15 40 }
     RecordsLawful s ∧ MeasuringLaw s ∧ SelectionLaw s ∧ Settled s ∧ s.follower.history.length ≠ 16 ∧
      (after (.msPoint 0 false false) s).follower.value.valid = false) ∧
    (SelectionLaw on ∧ Settled on ∧ on.follower.history.length = 16) ∧
    (let s := onThird.withRecord 2 (recordIn .active 1)
     RecordsLawful s ∧ MeasuringLaw s ∧ SelectionLaw s ∧ measuring s 0 = true ∧ s.records[(0 : Inp)].state = .ready ∧
      0 < (inputCfg s 0).holdOff ∧ (after (.msPoint 0 false false) s).selector.active = some 2 ∧
      (after (.msPoint 0 false false) s).records[(0 : Inp)].origin = some .ready) := by and_intros <;> decide +kernel

/-- The loss of SIGNAL with a hold-off and without one. -/
theorem witness_ValueComputedOnLoss :
    (running on = true ∧ measuring on 0 = true ∧ RecordsLawful on ∧ SelectionLaw on ∧ on.selector.active = some 0 ∧
      on.follower.output = .locked ∧ on.follower.history.length = 16 ∧ on.monitors[(0 : Inp)].signal = false ∧
      0 < (inputCfg on 0).holdOff ∧ (after (.msPoint 0 false false) on).selector.active = some 0) ∧
    (running onThird = true ∧ measuring onThird 2 = true ∧ RecordsLawful onThird ∧ SelectionLaw onThird ∧
      onThird.selector.active = some 2 ∧ onThird.follower.output = .locked ∧
      onThird.follower.history.length = 16 ∧ onThird.monitors[(2 : Inp)].signal = false ∧
      (inputCfg onThird 2).holdOff = 0) := by and_intros <;> decide +kernel

/-- The eighth disagreeing LOS sample, FREQ arising, LOCKOUT, both FORCEs, and the bound station's entry going STALE. -/
theorem witness_ValueComputedOnLoss_losses :
    (let s := on.withMonitor 0 { monitor 7 with losCount := 7 }
     RecordsLawful s ∧ SelectionLaw s ∧ measuring s 0 = true ∧ 7 ≤ s.monitors[(0 : Inp)].losCount ∧
      (inputCfg s 0).losMode = .activeHigh ∧ s.monitors[(0 : Inp)].losLevel = false ∧
      (after (.msPoint 0 true true) s).follower.output = .bridging) ∧
    (on.monitors[(0 : Inp)].freq = false ∧ (after (.gateCompletion 0 8900) on).monitors[(0 : Inp)].freq = true ∧
      (after (.gateCompletion 0 8900) on).follower.value.valid = true) ∧
    ((1 : Byte).toNat = (0 : Inp).val + 1 ∧ (after (.lockout 1) on).follower.value.source = some 0) ∧
    ((7 : Byte).toNat = 7 ∧ (3 : Byte).toNat = (2 : Inp).val + 1 ∧ on.records[(2 : Inp)].state = .ready) ∧
    (running onPeer = true ∧ RecordsLawful onPeer ∧ SelectionLaw onPeer ∧ onPeer.selector.active = some 1 ∧
      onPeer.follower.output = .locked ∧ onPeer.follower.history.length = 16 ∧ LoaderLaw onPeer ∧
      (inputCfg onPeer 1).use = .peer ∧ (inputCfg onPeer 1).bound = station3.val + 1 ∧
      (∃ e ∈ (entryAged 6 onPeer).peers.entries[station3], e.state = .fresh ∧
        3 * e.interval * 20000000 ≤ e.ageCycles + 1)) := by and_intros <;> decide +kernel

/-- An eligible active input that ranks first, one that does not, none eligible, and the three force settings. -/
theorem witness_DecisionTakesFourSteps :
    (on.selector.force = .none ∧ InEligibleSet on 0 ∧ (∀ j : Inp, InEligibleSet on j → j ≠ 0 → RanksFirst on 0 j)) ∧
    (on.selector.active = some 0) ∧
    ((after .unforce (after (.force 3) on)).selector.force = .none) ∧
    ((∀ j : Inp, ¬InEligibleSet inHoldover j) ∧ inHoldover.follower.output = .holdover) ∧
    ((after (.force 3) on).selector.force = .input 2) ∧ ((after (.force 7) on).selector.force = .holdover) := by
  and_intros <;> decide +kernel

/-- The numbers 0, 1, 6, 7 and 8; a READY and a BARRED input; with a value and with none. -/
theorem witness_ForceHoldsTheShelf :
    (on.hold = none ∧ RecordsLawful on ∧ SelectionLaw on ∧ running on = true ∧ running released = false) ∧
    (after (.force 0) on).port.sdo = [0x00, 0x00, 0xA2] ∧ (after (.force 8) on).port.sdo = [0x00, 0x00, 0xA2] ∧
    (on.records[(2 : Inp)].state = .ready ∧ on.records[(1 : Inp)].state = .barred) ∧
    (after (.force 6) on).port.sdo = [0x00, 0x00, 0xA1] ∧ (after (.force 1) on).port.sdo = [0x00, 0x00, 0xA0] ∧
    (on.follower.output = .locked ∧ on.follower.history.length = 16) ∧
    (after (.force 7) (on.withFollower { on.follower with history := [] })).port.sdo = [0x00, 0x00, 0xA1] ∧
    (RecordsLawful (after (.force 3) on) ∧ SelectionLaw (after (.force 3) on) ∧
      (after (.force 3) on).selector.force ≠ .none) ∧
    (on.selector.active ≠ some 2 ∧ TakeMade 2 (after (.force 3) on) ∧
      (after (.force 3) on).follower.settle = some 200000000) := by and_intros <;> decide +kernel

/-- Input 1 with grade 3, the shelf on it, and input 3 READY at grade 2 or 3 on a revertive station. -/
def rivals (grade : Nat) : State :=
  ((on.withLoader { on.loader with buffer := { image with revertive := true } }).withRecord 0 (recordIn .active 3)).withRecord
    2 { recordIn .ready grade with hop := 0 }

/-- Each cause of R82: FORCED, FAILED, INELIGIBLE, BETTER, REVERTED, AVAILABLE and EXPIRED; FORCE_CLEARED on a barred
input and on an expired value; and a change of content. -/
theorem witness_SwitchesAreRecorded :
    (running on = true ∧ RecordsLawful on ∧ SelectionLaw on ∧ on.log.records.length ≤ 20 ∧
      running (after (.force 3) on) = true ∧ sourceOf on ≠ sourceOf (after (.force 3) on)) ∧
    (let last := fun (s : State) => s.log.records.getLast?.map fun r => (r.kind, r.arg1, r.arg2)
     let forced := after (.force 7) on
     last (after (.force 3) on) = some (.switched, 0x13, 0x01) ∧ last acquiring = some (.switched, 0x13, 0x02) ∧
     last (after .warmupEnd ((rivals 4).withRecord 0 (recordIn .active 12)
       |>.withFollower { on.follower with warm := true })) = some (.switched, 0x13, 0x03) ∧
     last (after .unforce ((rivals 2).withForce (.input 0))) = some (.switched, 0x13, 0x04) ∧
     last (after .unforce ((rivals 3).withForce (.input 0) |>.withLoader { on.loader with
       buffer := { image with revertive := true
                              inputs := image.inputs.set 0 { fixedCfg with priority := 5 } } }))
       = some (.switched, 0x13, 0x05) ∧
     last (after .unforce forced) = some (.switched, 0x71, 0x06) ∧
     last (after .valueExpiry (aged 86400 forced)) = some (.switched, 0x71, 0x07) ∧
     (after .valueExpiry (aged 86400 forced)).log.records.map (fun r => (r.kind, r.arg1, r.arg2)) =
       [(.switched, 0x17, 0x01), (.holdoverExpired, 0x02, 0x04), (.forceCleared, 0x07, 0x02),
         (.switched, 0x71, 0x07)] ∧
     (after (.lockout 1) (after (.force 1) on)).log.records.map (fun r => (r.kind, r.arg1, r.arg2)) =
       [(.inputBarred, 0x01, 0x20), (.forceCleared, 0x01, 0x01), (.switched, 0x13, 0x02)]) ∧
    (on.announcer.mode ≠ .off ∧ currentContent (after (.force 3) on) ≠ currentContent on ∧
      on.announcer.last ≠ some (currentContent (after (.force 3) on))) := by
  and_intros <;> decide +kernel

/-- A SUSPECT input taken; inputs barred, two in one event; and inputs passed, with each status. -/
theorem witness_SwitchesAreRecorded_inputs :
    (let s := standby.withRecord 0 { standby.records[(0 : Inp)] with raw := 5, effective := 5 }
     let t := after (.lockout 3) s
     RecordsLawful s ∧ SelectionLaw s ∧ t.selector.active = some 0 ∧ t.records[(0 : Inp)].state = .suspect ∧
      s.selector.active ≠ some 0 ∧ TakeMade 0 t) ∧
    (let t := after (.entryStale station3) (entryAged 6 onPeer)
     barredRecords onPeer t = [{ uptime := 0, kind := .inputBarred, arg1 := 0x02, arg2 := 0x04 }] ∧
      appended .inputBarred onPeer t = barredRecords onPeer t) ∧
    (let s := barring byLockout 8
     readyRecords s (after (.release 3) s) = [{ uptime := 0, kind := .inputReady, arg1 := 0x03, arg2 := 0x03 }]) ∧
    (readyRecords (proving 8) (after (.wtrExpiry 2) (proving 8)) =
      [{ uptime := 0, kind := .inputReady, arg1 := 0x03, arg2 := 0x02 }]) := by and_intros <;> decide +kernel

/-- A receiver that collects another frame, one that collects this one, and a gap of 1,760 and of 1,761 cycles. -/
theorem witness_AnnounceAccepted_displaced :
    let s := fun (chars : List Byte) (n : Nat) => on.withBus { on.bus with rx := .assemble chars, idle := some n }
    hears (s [0x00, 0x02] 0) (announce3 0x0A) = true ∧
    Displaced (frameChars 0x01 (announce3 0x0A)) (s [0x00, 0x02] 0).bus ∧
    ¬Displaced (frameChars 0x01 (announce3 0x0A)) (s [0x00, 0x01, 0x03] 1760).bus ∧
    Displaced (frameChars 0x01 (announce3 0x0A)) (s [0x00, 0x01, 0x03] 1761).bus ∧
    ¬Displaced (frameChars 0x01 (announce3 0x0A)) on.bus ∧
    (after (.announceReceived (announce3 0x0A)) (s [0x00, 0x02] 0)).bus.bad = 1 := by and_intros <;> decide +kernel

/-- A rest that has run out, and one that has not, when a frame is heard. -/
theorem witness_QueryAccepted_rest :
    let s := fun (n : Nat) => on.withBus { on.bus with rest := true, idle := some n }
    hears (s 26399) query3 = true ∧ verdict (s 26399) 0x02 query3 = .accepted ∧
    (after (.queryReceived query3) (s 26399)).bus.rest = true ∧
    (after (.queryReceived query3) (s 26400)).bus.rest = false := by decide +kernel

theorem witness_AnnounceAccepted :
    hears on (announce3 0x0A) = true ∧ intact 0x01 (announce3 0x0A) = true ∧
    (announce3 0x0A).source.toNat = station3.val + 1 ∧ verdict on 0x01 (announce3 0x0A) = .accepted ∧
    readAnnounce (announce3 0x0A).source.toNat (announce3 0x0A).payload =
      some { content := content3, restart := false } ∧
    ((inputCfg on 1).use = .peer ∧ (inputCfg on 1).bound = station3.val + 1) := by decide +kernel

theorem witness_QueryAccepted :
    hears on query3 = true ∧ intact 0x02 query3 = true ∧ query3.source.toNat = station3.val + 1 ∧
    verdict on 0x02 query3 = .accepted := by decide +kernel

theorem witness_WithdrawAccepted :
    hears heard3 withdraw3 = true ∧ intact 0x03 withdraw3 = true ∧ withdraw3.source.toNat = station3.val + 1 ∧
    verdict heard3 0x03 withdraw3 = .accepted ∧ heard3.peers.entries[station3] = some entry3 ∧ LoaderLaw heard3 ∧
    (entry3.state ≠ .withdrawn ∧ heard3.log.records.length < 32) ∧
    (let s := heard3.withEntry station3 (some { entry3 with state := .withdrawn })
     hears s withdraw3 = true ∧ verdict s 0x03 withdraw3 = .accepted ∧
      (after (.withdrawReceived withdraw3) s).log.records.all (fun r => decide (r.kind ≠ .peerWithdrawn)) = true) ∧
    ((inputCfg heard3 1).use = .peer ∧ (inputCfg heard3 1).bound = station3.val + 1 ∧
      heard3.records[(1 : Inp)].state ≠ .off) := by and_intros <;> decide +kernel

/-- A frame for each verdict but acceptance, and an unknown kind. -/
theorem witness_DiscardedFrames :
    (hears on (frame 0x03 0x09 0x03 0x01 []) = true ∧ intact 0x03 (frame 0x03 0x09 0x03 0x01 []) = true ∧
      verdict on 0x03 (frame 0x03 0x09 0x03 0x01 []) = .malformed) ∧
    verdict on 0x02 (frame 0x02 0x00 0x09 0x01 []) = .ownSource ∧
    verdict (on.withLoader { on.loader with buffer := { image with trust := 0 } }) 0x02 query3 = .untrusted ∧
    verdict (on.withWindow station3 (some { count := 6, left := 5 })) 0x02 query3 = .rate ∧
    (verdict heard3 0x01 (announce3 0x0A) = .sequence ∧ hears heard3 (announce3 0x0A) = true) ∧
    (knownKind 0x09 = false ∧ intact 0x09 (frame 0x09 0x00 0x03 0x01 []) = true ∧
      verdict on 0x09 (frame 0x09 0x00 0x03 0x01 []) ≠ .accepted) := by and_intros <;> decide +kernel

/-- A discarded frame that finds another one in collection: counted once for each. -/
theorem witness_DiscardedFrames_displaced :
    let f := frame 0x03 0x09 0x03 0x01 []
    let s := on.withBus { on.bus with rx := .assemble [0x00, 0x01], idle := some 0 }
    hears s f = true ∧ intact 0x03 f = true ∧ verdict s 0x03 f = .malformed ∧ Displaced (frameChars 0x03 f) s.bus ∧
    (after (.withdrawReceived f) s).bus.bad = 2 ∧ (after (.withdrawReceived f) on).bus.bad = 1 ∧
    (after (.withdrawReceived f) s).bus.idle = some 0 := by decide +kernel

/-- A receiver collecting and a receiver in HUNT. -/
theorem witness_ReceiverFrames :
    (running on = true ∧ on.bus.tx ≠ .sending ∧ on.bus.rx = .hunt ∧ (cfg on).trust.getLsbD station3.val = true ∧
      hears on (frame 0x09 0x00 0x03 0x01 []) = true ∧ (3 : Nat) ≠ on.loader.ownAddress) ∧
    (hears on { query3 with check := 0x00 } = true ∧ intact 0x02 { query3 with check := 0x00 } = false) ∧
    (let s := fun n => on.withBus { on.bus with rx := .assemble [0x00, 0x01, 0x02], idle := some n }
     (s 1760).bus.rx = .assemble [0x00, 0x01, 0x02] ∧ (s 1760).bus.line = .quiet ∧ (s 1760).bus.idle = some 1760 ∧
      1760 < 1761 ∧ (s 1761).bus.idle = some 1761) ∧
    (let s := fun n => on.withBus { on.bus with rest := true, idle := some n }
     (s 26399).bus.rx = .hunt ∧ restAfter (s 26399).bus = true ∧ restAfter (s 26400).bus = false) ∧
    (let s := on.withBus { on.bus with rx := .assemble [0x09, 0x01] }
     Displaced (frameChars 0x02 { query3 with check := 0x00 }) s.bus ∧
      hears s { query3 with check := 0x00 } = true) ∧
    [(0x00 : Byte), 0x01, 0x02].length < 4 ∧
    (let f := [(0x00 : Byte), 0x01, 0x02, 0x00, 0x01, 0x00]
     (f.take 4).length = 4 ∧ 5 ≤ (f.take 5).length ∧ f.length < 6 + byteAt f 4) ∧
    ((LineChar.sent 0x0C false).start = true ∧ (LineChar.sent 0x0C false).mark = false ∧
      (LineChar.sent 0x0C false).stopGood = true ∧ (LineChar.sent 0x0C false).data.toNat ≤ 12) ∧
    (LineChar.start { levels := 0x7FF, held := none } = false ∧ on.pending = []) ∧
    ((on.withBus { on.bus with line := .character 1 (.sent 0x00 false) }).bus.line ≠ .quiet ∧
      (on.withBus { on.bus with line := .heldActive (some 1) }).bus.line = .heldActive (some 1)) := by decide +kernel

/-- A FRESH entry one cycle short of 6 s and one cycle sooner; and an ANNOUNCE that is accepted there. -/
theorem witness_EntryGoesStale :
    (let s := entryAged 6 heard3
     let f := announce3 0x0B
     running s = true ∧ s.peers.entries[station3] = some { entry3 with ageCycles := 119999999 } ∧ entry3.state = .fresh ∧
      3 * entry3.interval * 20000000 ≤ 119999999 + 1 ∧ ¬3 * entry3.interval * 20000000 ≤ 119999998 + 1 ∧ LoaderLaw s ∧
      s.log.records.length < 32 ∧ s.records[(1 : Inp)].state ≠ .off ∧ hears s f = true ∧ intact 0x01 f = true ∧
      f.source.toNat = station3.val + 1 ∧ verdict s 0x01 f = .accepted) ∧
    on.peers.entries[station3] = none ∧ (entry3.state = .fresh ∧ entry3.ageCycles + 1 < 3 * entry3.interval * 20000000)
    := by and_intros <;> decide +kernel

/-- Station 3's entry, STALE. -/
def stale3 : State := after (.entryStale station3) (entryAged 6 heard3)

/-- A STALE entry one cycle short of 12 s and at 6 s, a WITHDRAWN one one cycle short of 6 s, and a WITHDRAW that is
accepted. -/
theorem witness_EntryIsRemoved :
    (let s := entryAged 12 stale3
     running s = true ∧ s.peers.entries[station3] = some { entry3 with state := .stale, ageCycles := 239999999 } ∧
      6 * entry3.interval * 20000000 ≤ 239999999 + 1 ∧ LoaderLaw s ∧ s.log.records.length < 32 ∧
      hears s withdraw3 = true ∧ intact 0x03 withdraw3 = true ∧ verdict s 0x03 withdraw3 = .accepted ∧
      withdraw3.source.toNat = station3.val + 1) ∧
    stale3.peers.entries[station3] = some { entry3 with state := .stale, ageCycles := 120000000 } ∧
    (let s := entryAged 6 (after (.withdrawReceived withdraw3) heard3)
     s.peers.entries[station3] =
        some { entry3 with state := .withdrawn, lastSeq := 0x0B, ageCycles := 119999999 } ∧ LoaderLaw s ∧
      (after (.entryRemoval station3) s).peers.entries[station3] = none) := by and_intros <;> decide +kernel

/-- The thresholds, with and without the rest, and one cycle less; a line that is not idle and a frame being collected. -/
theorem witness_TransmissionStartBuilds_access :
    (let s := fun (rest : Bool) (n : Nat) => deferring.withBus { deferring.bus with rest := rest, idle := some n }
     (s false 11440).bus.idle = some 11440 ∧ (4 + (s false 0).loader.ownAddress) * 880 = 11440 ∧
      (s false 11440).bus.line = .quiet ∧ (s true 26399).bus.rest = true ∧
      after .transmissionStart (s false 11439) = s false 11439 ∧ after .transmissionStart (s true 26399) = s true 26399 ∧
      (after .transmissionStart (s true 26400)).bus.rest = false) ∧
    ((deferring.withBus { deferring.bus with line := .heldActive none }).bus.line ≠ .quiet ∧
      (deferring.withBus { deferring.bus with rx := .assemble [0x00] }).bus.rx = .assemble [0x00]) := by decide +kernel

/-- WITHDRAWING; an ANNOUNCE due; a QUERY due; and nothing. -/
theorem witness_TransmissionStartBuilds :
    (running withdrawing = true ∧ withdrawing.bus.tx = .deferring ∧ withdrawing.announcer.mode = .withdrawing ∧
      withdrawing.bus.idle = some 26400) ∧
    (running deferring = true ∧ deferring.bus.tx = .deferring ∧ deferring.announcer.mode = .announcing ∧
      deferring.announcer.spacingTimer = none ∧ deferring.announcer.periodicFlag = true) ∧
    (let q := deferring.withAnnouncer { deferring.announcer with spacingTimer := some 5, queries := [3] }
     q.announcer.spacingTimer ≠ none ∧ q.announcer.queries.dropWhile (freshStation q) = 3 :: []) ∧
    (let n := deferring.withAnnouncer { deferring.announcer with periodicFlag := false, eventFlag := true }
     n.announcer.last = some (currentContent n) ∧ n.announcer.queries.dropWhile (freshStation n) = []) := by
  decide +kernel

theorem witness_AnnounceCompletes :
    let s := sending (.announce content true 0x07)
    running s = true ∧ s.bus.tx = .sending ∧ s.announcer.frame = some (.announce content true 0x07) ∧
    (s.bus.line = .quiet ∧ (s.withBus { s.bus with line := .character 880 (.sent 0x09 true) }).bus.line =
      .character 880 (.sent 0x09 true)) := by decide +kernel

theorem witness_QueryCompletesAndRests :
    (running (sending (.query 3 0x07)) = true ∧ (sending (.query 3 0x07)).bus.tx = .sending ∧
      (sending (.query 3 0x07)).announcer.frame = some (.query 3 0x07)) ∧
    (let r := on.withBus { on.bus with rest := true, idle := some 26400 }
     running r = true ∧ r.bus.rest = true ∧ r.bus.idle = some 26400 ∧ r.bus.line = .quiet ∧ r.bus.tx ≠ .sending) ∧
    (let r := on.withBus { on.bus with rest := true, idle := some 26399 }
     after .restEnd r = r) := by decide +kernel

/-- The seventh and the eighth clash in a row. -/
theorem witness_ClashIsCounted :
    let s := fun (n : Nat) => (sending (.query 3 0)).withBus { (sending (.query 3 0)).bus with clashRun := n }
    (running (s 6) = true ∧ (s 6).bus.tx = .sending ∧ (s 6).announcer.mode = .announcing ∧ (s 6).bus.clashRun < 7) ∧
    (running (s 7) = true ∧ (s 7).bus.tx = .sending ∧ (s 7).announcer.mode = .announcing ∧ (s 7).bus.clashRun = 7 ∧
      (s 7).bus.duplicate = false) := by decide +kernel

theorem witness_AnnouncerTimersExpire :
    on.announcer.periodicTimer = some (4 + 1) ∧
    ((on.withAnnouncer { on.announcer with periodicTimer := some 0 }).announcer.periodicTimer = some 0 ∧
      running on = true ∧ on.bus.tx = .idle ∧ on.announcer.mode = .announcing ∧
      on.announcer.spacingTimer = none) ∧
    (let s := on.withAnnouncer { on.announcer with spacingTimer := some 0, eventFlag := true }
     running s = true ∧ s.announcer.spacingTimer = some 0 ∧ s.announcer.eventFlag = true) ∧
    (let s := on.withAnnouncer { on.announcer with spacingTimer := some (0 + 1) }
     running s = true ∧ running (after .popEvent s) = true ∧ after .spacingExpiry s = s) ∧
    (let s := sending (.announce content false 0)
     s.bus.tx = .sending ∧ (after .popEvent s).bus.tx = .sending ∧ s.bus.driven = 9680) ∧
    (let s := deferring.withBus { deferring.bus with idle := some 11440 }
     let t := after .transmissionStart s
     s.bus.tx ≠ .sending ∧ t.bus.tx = .sending ∧ running t = true ∧
      t.announcer.frame = some (.announce (currentContent s) false 0)) := by decide +kernel

/-- The least and the longest path. -/
theorem witness_SentAnnounceIsReadBack :
    (9 ≤ 24 ∧ 0 ≤ 24) ∧ PathOf content.path 9 ∧ (1 ≤ content.grade ∧ content.grade ≤ 15) ∧
    (1 ≤ content.interval ∧ content.interval ≤ 8) ∧
    PathOf [1, 2, 3, 4, 5, 6, 24, 9] 9 := by decide +kernel

/-- 109 and 110 bytes; a part that refuses, and one that takes. -/
theorem witness_LoadImageHolds :
    (released.hold = none ∧ released.loader.partState = .awaitImage) ∧ (goodImage.drop 1).length < 110 ∧
    goodImage.length = 110 ∧ on.loader.partState = .running ∧ byteAt goodImage 0 = 0xB4 ∧ byteAt goodImage 1 = 0x01 ∧
    byteAt (imageBytes 0xB5 0x01 fixedBytes) 0 ≠ 0xB4 ∧ byteAt (imageBytes 0xB4 0x02 fixedBytes) 1 ≠ 0x01 := by
  decide +kernel

theorem witness_StartStartsEveryUnit :
    (let s := after (.loadImage goodImage) released
     s.hold = none ∧ s.log.records = [] ∧ s.loader.partState = .awaitImage ∧ s.loader.held = true) ∧
    ((reading 3 203400).loader.partState = .loading ∧ (reading 3 203400).loader.eeprom = .attempt 3 203400 ∧
      running (after (.eepromReadDone goodImage) (reading 3 203400)) = true) ∧
    ((reading 1 203400).hold = none ∧ (reading 1 203400).log.records = [] ∧
      (reading 1 203400).loader.partState = .loading ∧ (reading 1 203400).loader.eeprom = .attempt 1 203400 ∧
      goodImage.length = 110 ∧ byteAt goodImage 0 = 0xB4 ∧ byteAt goodImage 1 = 0x01) ∧
    (after (.start none) (after (.loadImage goodImage) released)).bus.line = .heldActive none ∧
    (let s := after (.loadImage goodImage) released
     let w := s.withFollower { s.follower with warm := true, warmCount := 600 }
     (cfg (after (.start (some 0)) w)).warmup = 600 ∧
      (after (.start (some 0)) w).log.records.getLast?.map (fun r => (r.kind, r.arg1, r.arg2)) =
        some (.warmupDone, 0x02, 0x58) ∧
      (after (.start (some 0)) s).monitors[(0 : Inp)].activityCause = true) ∧
    (released.hold = none ∧ released.loader.held = false) ∧
    (logFull.hold = none ∧ logFull.log.records ≠ [] ∧ logFull.loader.partState ≠ .awaitImage) := by decide +kernel

theorem witness_StartStartsEveryUnit_reset :
    JustReleased .power { addrStrap := 9, controllerMode := false, los := 0 } loading ∧
    JustReleased .soft pins (after (.softReset pins) (reading 1 203400)) := by and_intros <;> decide +kernel

/-- Each failure at its first cycle and one before, at the first and the last attempt, and the reading at its. -/
theorem witness_EepromAttempts :
    ((reading 1 1800).hold = none ∧ (reading 1 1800).loader.partState = .loading ∧
      (reading 1 1800).loader.eeprom = .attempt 1 1800) ∧
    ([AttemptFailure.writeAddress, .memoryAddress, .readAddress, .heldLow none [], .heldLow (some 1016) []].map lostAfter =
      [1800, 3600, 5400, 20001, 223201]) ∧
    (after (.eepromAttemptFailed .readAddress true) (reading 3 5400)).loader.partState = .cfgFault ∧
    after (.eepromAttemptFailed .readAddress true) (reading 3 5399) = reading 3 5399 ∧
    (reading 3 203400).loader.eeprom = .attempt 3 203400 ∧ goodImage.length = 110 ∧
    byteAt (imageBytes 0xB5 0x01 fixedBytes) 0 ≠ 0xB4 ∧ byteAt (imageBytes 0xB4 0x02 fixedBytes) 1 ≠ 0x01 ∧
    (let second := after (.eepromAttemptFailed .writeAddress true) (reading 1 1800)
     second.hold = none ∧ second.loader.partState = .loading ∧ second.loader.eeprom = .waiting 1 100000) := by
  decide +kernel

/-- The addresses 33 and 34, and the codes 0 and 10. -/
theorem witness_ReadShiftsRecords :
    on.hold = none ∧ (33 : Byte).toNat ≤ 33 ∧ 33 < (34 : Byte).toNat ∧
    ¬(1 ≤ (0x00 : Byte).toNat ∧ (0x00 : Byte).toNat ≤ 9) ∧ ¬(1 ≤ (0x0A : Byte).toNat ∧ (0x0A : Byte).toNat ≤ 9) := by
  decide

/-- More of a READ frame: with none in progress, above address 33, before its first byte, and inside a pass, up to the
wrap and past it. -/
theorem witness_ReadShiftsRecords_onward :
    let begun := after (.read (.record 33) 8) on
    on.port.reading = .closed ∧ (after (.read (.record 34) 1) on).port.reading = .blank ∧
    (after (.read (.record 33) 0) on).port.reading = .before 578 ∧ begun.port.reading = .within 586 ∧
    ReadingLaw begun.port ∧ ReadingLaw (after (.read (.record 33) 0) on).port ∧
    586 + 0 < 587 ∧ ¬586 + 1 < 587 ∧ (after (.read .onward 1) begun).port.reading = .before 0 ∧
    (after (.read .onward 2) begun).port.reading = .within 1 := by decide +kernel

/-- A full list, a list of one, and an empty one. -/
theorem witness_PopTakesTheOldest :
    logFull.hold = none ∧ logFull.log.records.length = 32 ∧ on.log.records = [] ∧
    (after .settleExpiry (on.withFollower { on.follower with
      output := .acquiring, settle := some 0, history := [] })).log.records.length = 1 := by decide +kernel

/-- Every law holds of `on`, and a step of it is a next state: the hypotheses of the laws that every step keeps. -/
theorem witness_SizesStand : Bounded on ∧ SilentLaw on ∧ step on = .next (tick on) := by
  refine ⟨?_, ?_, rfl⟩ <;> decide +kernel

theorem witness_BusFollowsThePart : BusLaw on := by and_intros <;> decide +kernel

theorem witness_SelectionStands : RecordsLawful on ∧ SelectionLaw on := by and_intros <;> decide +kernel

theorem witness_ImageAndGatesStand : LoaderLaw on ∧ MeasuringLaw on := by and_intros <;> decide +kernel

/-- With an entry, and a step that creates one. -/
theorem witness_PeerTableStands :
    TableLaw heard3 ∧ on.peers.entries[station3] = none ∧ heard3.peers.entries[station3] ≠ none ∧
    (1 ≤ heard3.loader.ownAddress ∧ heard3.loader.ownAddress ≤ 24) := by and_intros <;> decide +kernel

theorem witness_RecordsAgreeWithTable :
    RecordsLawful heard3 ∧ Agreement heard3 ∧ LoaderLaw heard3 ∧ TableLaw heard3 ∧ GradesLaw heard3 := by
  and_intros <;> decide +kernel

theorem witness_OffsetsStand : OffsetsLaw on := by and_intros <;> decide +kernel

theorem witness_SelectorIsNeverBehind : Lawful on ∧ Settled on := by
  refine ⟨⟨?_, ?_, ⟨?_, ?_, ?_, ?_, ?_⟩, ?_, ?_, ?_, ?_, ?_, ?_, ?_, ?_⟩, ?_⟩ <;> decide +kernel

/-- Locked to a FIXED input, and in HOLDOVER. -/
theorem witness_TransmittedPathsAreValid_holdover :
    let s := (inHoldover.withAnnouncer { inHoldover.announcer with periodicFlag := true }).withBus
      { inHoldover.bus with tx := .deferring }
    Lawful s ∧ s.bus.tx = .deferring ∧ (after .transmissionStart s).announcer.frame =
      some (.announce { cls := .holdover, grade := 2, interval := 2, path := [9] } false 0x00) := by
  refine ⟨⟨?_, ?_, ⟨?_, ?_, ?_, ?_, ?_⟩, ?_, ?_, ?_, ?_, ?_, ?_, ?_, ?_⟩, ?_, ?_⟩ <;> decide +kernel

theorem witness_TransmittedPathsAreValid :
    Lawful deferring ∧ running deferring = true ∧ deferring.bus.tx = .deferring ∧
    (after .transmissionStart deferring).announcer.frame = some (.announce content false 0x00) := by
  refine ⟨⟨?_, ?_, ⟨?_, ?_, ?_, ?_, ?_⟩, ?_, ?_, ?_, ?_, ?_, ?_, ?_, ?_⟩, ?_, ?_, ?_⟩ <;> decide +kernel

end Sys2Proof.Tests
end

section
/-! PROOF. The content a transmission start hands (R9 to R16, R141): what the laws say of the own address, the image and
the active input, the current content case by case, and from them the path and the grade transmitted. -/

namespace Sys2Proof

open Machine

/-! ### A RUNNING part: its own address and its image (R166, R170 to R174) -/

theorem running_iff (s : State) : running s = true ↔ s.hold = none ∧ s.loader.partState = .running := by
  simp [running]

/-- Only CFG_FAULT has no own address. -/
theorem LoaderLaw.ownAddress_range {s : State} (law : LoaderLaw s) (run : running s = true) :
    1 ≤ s.loader.ownAddress ∧ s.loader.ownAddress ≤ 24 := by
  obtain ⟨noHold, part⟩ := (running_iff s).mp run
  obtain ⟨le24, zero_iff, fault, -, -⟩ := law noHold
  have ne0 : s.loader.ownAddress ≠ 0 := fun zero => by
    simpa [part] using fault (zero_iff.mp zero)
  exact ⟨Nat.one_le_iff_ne_zero.mpr ne0, le24⟩

theorem LoaderLaw.image_range {s : State} (law : LoaderLaw s) (run : running s = true) :
    ImageInRange s.loader.ownAddress (cfg s) := by
  obtain ⟨noHold, part⟩ := (running_iff s).mp run
  obtain ⟨-, -, -, held, image⟩ := law noHold
  exact (image (held part)).1

/-! ### Grades of the own oscillator (R13, R70, R105) -/

/-- Outside HOLDOVER the own grade is the floor grade, or 15 in warm-up. -/
theorem ownGrade_of_not_holdover {s : State} (h : s.follower.output ≠ .holdover) : ownGrade s = floorGrade s :=
  if_neg h

theorem floorOrWarm_eq_floorGrade (s : State) : floorOrWarm s = floorGrade s := rfl

theorem floorGrade_range {own : Nat} {s : State} (image : ImageInRange own (cfg s)) :
    1 ≤ floorGrade s ∧ floorGrade s ≤ 15 := by
  obtain ⟨-, -, -, -, floor, -⟩ := image
  unfold floorGrade
  split
  · decide
  · exact floor

/-- The grade steps only worsen the base grade, to a configured grade at most. -/
theorem steppedGrade_range {own : Nat} {c : Image} {base : Nat} (image : ImageInRange own c)
    (hb : 1 ≤ base ∧ base ≤ 15) (age : Nat) : 1 ≤ steppedGrade c base age ∧ steppedGrade c base age ≤ 15 := by
  obtain ⟨-, -, -, -, -, -, -, -, grades, -⟩ := image
  unfold steppedGrade
  repeat' split
  all_goals omega

theorem holdoverGradeAt_range {own : Nat} {c : Image} {base : Nat} (image : ImageInRange own c)
    (hb : 1 ≤ base ∧ base ≤ 15) (age : Nat) : 1 ≤ holdoverGradeAt c base age ∧ holdoverGradeAt c base age ≤ 15 := by
  have stepped := steppedGrade_range image hb age
  obtain ⟨-, -, -, -, floor, -⟩ := image
  unfold holdoverGradeAt
  omega

theorem holdoverGrade_of_valid {s : State} (h : s.follower.value.valid = true) :
    holdoverGrade s = holdoverGradeAt (cfg s) s.follower.value.base s.follower.value.age :=
  if_pos h

/-! ### Paths (R7, R16) -/

theorem validPath_iff (path : List Nat) (station : Nat) : validPath path station = true ↔ PathOf path station := by
  simp [validPath, PathOf, and_assoc]

/-- A station on its own oscillator, or locked to a FIXED input, announces itself alone. -/
theorem PathOf.singleton {a : Nat} (ha : 1 ≤ a ∧ a ≤ 24) : PathOf [a] a := by
  simpa [PathOf] using ha

/-- A heard path with room for one more address, and without the own, is extended by the own. -/
theorem PathOf.append_own {path : List Nat} {station own : Nat} (heard : PathOf path station)
    (room : path.length ≤ 7) (absent : own ∉ path) (ho : 1 ≤ own ∧ own ≤ 24) : PathOf (path ++ [own]) own := by
  obtain ⟨-, addresses, distinct, -⟩ := heard
  refine ⟨by simp; omega, ?_, ?_, by simp⟩
  · intro a ha
    rcases List.mem_append.mp ha with h | h
    · exact addresses a h
    · obtain rfl := List.mem_singleton.mp h
      exact ho
  · exact List.nodup_append.mpr ⟨distinct, List.nodup_singleton own, by grind⟩

/-! ### The entry behind a PEER input (R147, R148) -/

/-- An entry found by an address stands in the table at that address. -/
theorem entryOf_eq_some {s : State} {a : Nat} {e : PeerEntry} (h : entryOf s a = some e) :
    ∃ k : Slot, address k = a ∧ s.peers.entries[k] = some e := by
  unfold entryOf slotOf at h
  split at h
  · rename_i k hk
    split at hk
    · obtain rfl := Option.some.inj hk
      exact ⟨_, by simp only [address]; omega, h⟩
    · cases hk
  · cases h

theorem TableLaw.path_of_entry {s : State} (law : TableLaw s) {a : Nat} {e : PeerEntry} (h : entryOf s a = some e) :
    PathOf e.path a := by
  obtain ⟨k, rfl, hk⟩ := entryOf_eq_some h
  obtain ⟨-, valid, -⟩ := law k e hk
  exact (validPath_iff _ _).mp valid

/-- Only a FRESH entry gives a raw grade better than UNFIT (R3). -/
theorem fresh_of_peerRaw_ne_unfit {o : Option PeerEntry} (h : peerRaw o ≠ unfit) :
    ∃ e : PeerEntry, o = some e ∧ e.state = .fresh := by
  cases o with
  | none => exact absurd rfl h
  | some e => exact ⟨e, rfl, by_contra fun stale => h (if_neg stale)⟩

/-! ### The active input (R44, R45, R69) -/

/-- An ACTIVE record has no reason, and a SUSPECT one SIGNAL alone: none that a grade or a path gives. -/
theorem RecordLaw.soft_reasons_of_isActive {r : InputRec} (law : RecordLaw r) (h : r.isActive = true) :
    r.reasons.grade = false ∧ r.reasons.loop = false ∧ r.reasons.range = false := by
  obtain ⟨bare, -, -, suspect⟩ := law
  rcases of_decide_eq_true h with active | ⟨suspended, -⟩
  · obtain ⟨reasons, -⟩ := bare (.inr (.inr active))
    simp [reasons, Reasons.empty]
  · obtain ⟨reasons, -⟩ := suspect suspended
    simp [reasons, Reasons.empty]

theorem Lawful.active_record {s : State} (law : Lawful s) {a : Inp} (ha : s.selector.active = some a) :
    s.records[a].isActive = true := by
  obtain ⟨-, -, ⟨agrees, -⟩, -⟩ := law
  exact (agrees a).mpr ha

theorem Lawful.record_agrees {s : State} (law : Lawful s) (run : running s = true) (i : Inp) : RecordAgrees s i := by
  obtain ⟨-, -, -, -, -, -, -, agreement, -⟩ := law
  exact agreement run i

/-- The Selector takes no OFF input. -/
theorem Lawful.active_used {s : State} (law : Lawful s) (run : running s = true) {a : Inp}
    (ha : s.selector.active = some a) : (inputCfg s a).use ≠ .off := fun off => by
  have active := law.active_record ha
  rw [(law.record_agrees run a).1 off] at active
  exact absurd active (by decide)

/-- What times a station locked to a PEER input: a FRESH entry, whose path the record shows, with room for the own
address and without it. GRADE absent makes the entry FRESH, LOOP absent keeps the own address out, and RANGE absent
leaves room (R59, R60). -/
theorem Lawful.active_peer_entry {s : State} (law : Lawful s) (run : running s = true) {a : Inp}
    (ha : s.selector.active = some a) (peer : (inputCfg s a).use = .peer) :
    ∃ e ∈ entryOf s (inputCfg s a).bound, e.state = .fresh ∧ e.path.length ≤ 7 ∧ s.loader.ownAddress ∉ e.path ∧
      s.records[a].path = e.path := by
  obtain ⟨-, -, effective, path, -, grade, loop, range, -⟩ := (law.record_agrees run a).2 (law.active_used run ha)
  have active := law.active_record ha
  obtain ⟨-, records, -, -, -, -, table, -, -, -, ⟨grades, -⟩⟩ := law
  obtain ⟨noGrade, noLoop, noRange⟩ := (records a).soft_reasons_of_isActive active
  simp only [rawOf, pathOf, peer] at effective path loop range
  have notUnfit : s.records[a].effective ≠ 15 := of_decide_eq_false (grade ▸ noGrade)
  have absent : s.loader.ownAddress ∉ peerPath (entryOf s (inputCfg s a).bound) := by
    simpa using loop.symm.trans noLoop
  have room : (peerPath (entryOf s (inputCfg s a).bound)).length ≠ 8 := of_decide_eq_false (range ▸ noRange)
  have rawFit : peerRaw (entryOf s (inputCfg s a).bound) ≠ unfit := fun rawUnfit => notUnfit <|
    le_antisymm (grades a).2 (by rw [effective, rawUnfit]; exact le_max_left _ _)
  obtain ⟨e, he, fresh⟩ := fresh_of_peerRaw_ne_unfit rawFit
  obtain ⟨⟨-, atMost8⟩, -⟩ := table.path_of_entry he
  simp only [he, peerPath] at path absent room
  exact ⟨e, he, fresh, by omega, absent, path⟩

/-! ### The current content (R9 to R13) -/

/-- What times the station: nothing, in FREE_RUN or HOLDOVER, or the active input (R92). -/
theorem Lawful.timing_cases {s : State} (law : Lawful s) :
    (s.follower.output = .freeRun ∧ s.selector.active = none) ∨
    (s.follower.output = .holdover ∧ s.selector.active = none ∧ s.follower.value.valid = true) ∨
    ∃ a : Inp, s.selector.active = some a ∧ s.follower.output ≠ .freeRun ∧ s.follower.output ≠ .holdover := by
  obtain ⟨-, -, ⟨-, ⟨own_iff, -⟩, -, ⟨-, valid⟩, -⟩, -⟩ := law
  cases ha : s.selector.active with
  | none =>
    rcases own_iff.mp ha with free | hold
    · exact .inl ⟨free, rfl⟩
    · exact .inr (.inl ⟨hold, rfl, valid hold⟩)
  | some a =>
    have locked : ¬(s.follower.output = .freeRun ∨ s.follower.output = .holdover) := by simp [← own_iff, ha]
    exact .inr (.inr ⟨a, rfl, not_or.mp locked⟩)

theorem currentContent_freeRun {s : State} (h : s.follower.output = .freeRun) :
    currentContent s = freeRunContent s := by
  simp [currentContent, h]

theorem currentContent_holdover {s : State} (h : s.follower.output = .holdover) :
    currentContent s = { cls := .holdover, grade := holdoverGrade s, interval := (cfg s).interval,
                         path := [s.loader.ownAddress] } := by
  simp [currentContent, h]

theorem currentContent_active {s : State} {a : Inp} (ha : s.selector.active = some a)
    (free : s.follower.output ≠ .freeRun) (hold : s.follower.output ≠ .holdover) :
    currentContent s = lockContent s a := by
  unfold currentContent
  cases h : s.follower.output <;> simp_all

theorem lockContent_fixed {s : State} {a : Inp} (h : (inputCfg s a).use = .fixed) :
    lockContent s a = { cls := .fixedLock, grade := s.records[a].effective, interval := (cfg s).interval,
                        path := [s.loader.ownAddress] } := by
  simp [lockContent, h]

theorem lockContent_peer {s : State} {a : Inp} (h : (inputCfg s a).use = .peer) :
    lockContent s a = { cls := .peerLock, grade := s.records[a].effective, interval := (cfg s).interval,
                        path := s.records[a].path ++ [s.loader.ownAddress] } := by
  simp [lockContent, h]

/-! ### The frame a transmission start hands (R123, R141) -/

/-- An ANNOUNCE that the Announcer hands carries the current content. -/
theorem buildFrame_announce {s : State} {c : Content} {restart : Bool} {q : Byte}
    (h : (buildFrame s).frame = some (.announce c restart q)) : c = currentContent s := by
  unfold buildFrame at h
  cases hm : s.announcer.mode with
  | off => simp [hm] at h
  | withdrawing => simp [hm] at h
  | announcing =>
    by_cases due : announceDue s = true
    · have handed : currentContent s = c ∧ s.announcer.restart = restart ∧ s.announcer.seq = q := by
        simpa [hm, due] using h
      exact handed.1.symm
    · cases hq : pruneQueries s <;> simp [hm, due, hq, queryFrame] at h

@[simp] theorem startTransmission_announcer (s : State) : (startTransmission s).announcer = buildFrame s := by
  simp only [startTransmission]
  split <;> simp

/-- A frame on the line is there before the start, or is the one that the Announcer hands. -/
theorem transmissionStart_frame {s t : State} (h : exec .transmissionStart s = .next t) :
    t.announcer.frame = s.announcer.frame ∨ t.announcer.frame = (buildFrame s).frame := by
  obtain rfl := Host.Outcome.next.inj h
  split
  · exact .inr (by simp)
  · exact .inl rfl

/-- The ANNOUNCE that a deferring transmitter hands carries the current content. -/
theorem transmissionStart_announce {s t : State} {c : Content} {restart : Bool} {q : Byte} (law : BusLaw s)
    (tx : s.bus.tx = .deferring) (h : exec .transmissionStart s = .next t)
    (frame : t.announcer.frame = some (.announce c restart q)) : c = currentContent s := by
  obtain ⟨-, -, -, -, sending_iff, -⟩ := law
  have noFrame : s.announcer.frame = none := by_contra fun present =>
    absurd (tx.symm.trans (sending_iff.mpr present)) (by decide)
  rcases transmissionStart_frame h with same | built
  · simp [same, noFrame] at frame
  · exact buildFrame_announce (built ▸ frame)

/-! ### The obligation -/

/-- Settles O60: by what times the station, which is the free-running or the held own oscillator, a FIXED input or a
PEER input; in the last the reasons that an active input lacks make the extended path valid. -/
theorem transmittedPathsAreValid : Obligations.TransmittedPathsAreValid := by
  unfold Obligations.TransmittedPathsAreValid
  intro s t content restart q law run tx step frame
  have source := law.timing_cases
  have ⟨_, _, _, _, bus, loader, table, _, _, _, grades, base⟩ := law
  have own := loader.ownAddress_range run
  have image := loader.image_range run
  rw [transmissionStart_announce bus tx step frame]
  rcases source with ⟨free, none⟩ | ⟨hold, none, valid⟩ | ⟨a, active, notFree, notHold⟩
  case inl =>
    rw [currentContent_freeRun free]
    refine ⟨.singleton own, floorGrade_range image, ?_⟩
    simp [free, none, freeRunContent, floorOrWarm_eq_floorGrade, ownGrade_of_not_holdover]
  case inr.inl =>
    rw [currentContent_holdover hold, holdoverGrade_of_valid valid]
    refine ⟨.singleton own, holdoverGradeAt_range image (base valid) _, ?_⟩
    simp [hold, none, ownGrade, holdoverGrade_of_valid valid, HoldValue.age, second]
  case inr.inr =>
    rw [currentContent_active active notFree notHold]
    have ownFloor := ownGrade_of_not_holdover notHold
    cases use : (inputCfg s a).use with
    | off => exact absurd use (law.active_used run active)
    | fixed =>
      rw [lockContent_fixed use]
      refine ⟨.singleton own, grades a, ?_⟩
      simp [notFree, notHold, active, use, ownFloor]
    | peer =>
      obtain ⟨e, he, fresh, room, absent, path⟩ := law.active_peer_entry run active use
      rw [lockContent_peer use, path]
      refine ⟨(table.path_of_entry he).append_own room absent own, grades a, ?_⟩
      have timedBy : ∃ e' ∈ entryOf s (inputCfg s a).bound, e'.state = .fresh ∧ e'.path.length ≤ 7 ∧
          s.loader.ownAddress ∉ e'.path ∧ e.path = e'.path := ⟨e, he, fresh, room, absent, rfl⟩
      simpa [notFree, notHold, active, use, ownFloor] using timedBy

end Sys2Proof
end

section
/-! PROOF. The windowed offset (R28, R29): what the clamp does, what bounds a rounded quotient, and from them when the
clamped value is still the rounded one, with the table of R29. -/

namespace Sys2Proof

open Machine

/-! ### The clamp and the absolute part of the check (R29, R33) -/

theorem clampOffset_range (n : Int) : -32767 ≤ clampOffset n ∧ clampOffset n ≤ 32767 := by
  simp only [clampOffset, offsetMax]
  omega

theorem clampOffset_natAbs_le (n : Int) : (clampOffset n).natAbs ≤ 32767 := by
  have := clampOffset_range n
  omega

theorem clampOffset_of_natAbs_le {n : Int} (h : n.natAbs ≤ 32767) : clampOffset n = n := by
  simp only [clampOffset, offsetMax]
  omega

theorem absoluteFails_iff (pull : Nat) (offset : Int) :
    absoluteFails false pull offset = true ↔ pull < offset.natAbs := by
  simp only [absoluteFails, Bool.not_false, Bool.true_and, decide_eq_true_eq, Nat.cast_lt]

/-! ### The magnitude of a rounded quotient (00_scope.md 4.5) -/

/-- A rounded quotient is within a bound exactly when the true quotient is less than one half beyond the bound: at the
half itself the rounding goes away from zero. -/
theorem RoundedTo.natAbs_le_iff {r num : Int} {den : Nat} (rounded : RoundedTo r num den) (pos : 0 < den)
    (bound : Nat) : r.natAbs ≤ bound ↔ 2 * num.natAbs < (2 * bound + 1) * den := by
  obtain ⟨near, tie⟩ := rounded
  have product : (r * den).natAbs = r.natAbs * den := by simp [Int.natAbs_mul]
  have limit : (2 * bound + 1) * den = 2 * (bound * den) + den := by ring
  rw [limit]
  constructor
  · intro within
    have := Nat.mul_le_mul_right den within
    omega
  · intro less
    by_contra beyond
    have above : (bound + 1) * den ≤ r.natAbs * den := Nat.mul_le_mul_right den (by omega)
    rw [Nat.succ_mul] at above
    omega

/-- The clamp keeps a rounded quotient rounded exactly when the true quotient is below 32,767.5 in magnitude. -/
theorem RoundedTo.clampOffset_iff {r num : Int} {den : Nat} (rounded : RoundedTo r num den) (pos : 0 < den) :
    RoundedTo (clampOffset r) num den ↔ 2 * num.natAbs < 65535 * den := by
  constructor
  · intro clamped
    exact (clamped.natAbs_le_iff pos 32767).mp (clampOffset_natAbs_le r)
  · intro less
    rwa [clampOffset_of_natAbs_le ((rounded.natAbs_le_iff pos 32767).mpr less)]

theorem windowedOffset_rounded_iff (window : List Nat) {freq : Nat} (pos : 0 < freq) :
    RoundedTo (windowedOffset window freq) (windowDifference window freq * 12500000) freq ↔
      2 * (windowDifference window freq * 12500000).natAbs < 65535 * freq :=
  (roundDiv_rounded _ freq pos).clampOffset_iff pos

/-! ### The table of R29 -/

/-- R29's rows: the frequency, one edge in thousandths of an offset unit, the largest difference that does not clamp. -/
def offsetTable : List (Nat × Nat × Nat) :=
  [(8000, 1562500, 20), (1544000, 8096, 4047), (2048000, 6104, 5368), (10000000, 1250, 26213),
    (100000000, 125, 262139)]

theorem offsetTable_edge : ∀ row ∈ offsetTable, RoundedTo row.2.1 (12500000 * 1000) row.1 := by decide

/-- A row's last column is the largest difference whose quotient is below 32,767.5 in magnitude. -/
theorem offsetTable_largest {row : Nat × Nat × Nat} (mem : row ∈ offsetTable) (difference : Int) :
    difference.natAbs ≤ row.2.2 ↔ 2 * (difference * 12500000).natAbs < 65535 * row.1 := by
  simp only [offsetTable, List.mem_cons, List.not_mem_nil, or_false] at mem
  rcases mem with rfl | rfl | rfl | rfl | rfl <;> dsimp only <;> omega

/-! ### The obligation -/

/-- Settles O10: the rounding is the model's one division, the clamp bounds it, and the clamp changes nothing exactly
while the quotient is below 32,767.5, which each row of the table turns into its largest difference. -/
theorem windowedOffsetRounds : Obligations.WindowedOffsetRounds := by
  unfold Obligations.WindowedOffsetRounds
  intro window freq pos
  refine ⟨⟨_, roundDiv_rounded _ freq pos, rfl⟩, clampOffset_range _, ?clamped, ?table⟩
  case clamped =>
    intro extreme
    have magnitude : (windowedOffset window freq).natAbs = 32767 := by omega
    constructor
    · intro pull below
      rwa [absoluteFails_iff, magnitude]
    · rw [← Bool.not_eq_true, absoluteFails_iff, magnitude]
      exact lt_irrefl _
  case table =>
    intro row mem
    refine ⟨offsetTable_edge row mem, ?_⟩
    rintro rfl
    exact (offsetTable_largest mem _).trans (windowedOffset_rounded_iff window pos).symm

end Sys2Proof
end

section
/-! PROOF. The first-ranked input (R71 to R73): the model's tests are the rules' conditions, the four keys are one
lexicographic key, and the pass over the six inputs keeps the first of those it has met. -/

namespace Sys2Proof

open Machine

/-! ### The eligible set (R71, R72) -/

theorem AnnClass.ownOscillator_iff (c : AnnClass) : c.ownOscillator = true ↔ c = .holdover ∨ c = .freeRun := by
  cases c <;> decide

/-- R72: the own-oscillator strict rule is read from the entry behind a PEER input. -/
theorem boundGroup_eq_true_iff (s : State) (i : Inp) : boundGroup s i = some true ↔
    (inputCfg s i).use = .peer ∧ ∃ e ∈ entryOf s (inputCfg s i).bound, e.cls = .holdover ∨ e.cls = .freeRun := by
  unfold boundGroup
  split
  case isTrue peer => simp [peer, AnnClass.ownOscillator_iff]
  case isFalse other => simp [other]

theorem passesOwnGrade_iff (s : State) (i : Inp) : passesOwnGrade s i = true ↔
    (boundGroup s i = some true → s.records[i].effective < ownGrade s) ∧
    (¬boundGroup s i = some true → s.records[i].effective ≤ ownGrade s) := by
  unfold passesOwnGrade
  split
  case isTrue strict => simp [strict]
  case isFalse loose => simp [loose]

theorem eligible_iff (s : State) (i : Inp) : eligible s i = true ↔ InEligibleSet s i := by
  simp only [eligible, InputRec.fit, Bool.and_eq_true, decide_eq_true_iff, passesOwnGrade_iff, boundGroup_eq_true_iff,
    and_assoc]

/-! ### The ranking (R73) -/

theorem ranksAhead_iff (s : State) (i j : Inp) : ranksAhead s i j = true ↔ RanksFirst s i j :=
  decide_eq_true_iff

/-- The four keys of R73 as one key, ordered lexicographically. -/
def rankKey (s : State) (i : Inp) : ℕ ×ₗ ℕ ×ₗ ℕ ×ₗ Inp :=
  toLex (s.records[i].effective, toLex (s.records[i].hop, toLex ((inputCfg s i).priority, i)))

theorem ranksFirst_iff_rankKey_lt (s : State) (i j : Inp) : RanksFirst s i j ↔ rankKey s i < rankKey s j := by
  simp only [rankKey, Prod.Lex.toLex_lt_toLex]

/-- Input numbers are distinct, so no two inputs rank together. -/
theorem rankKey_injective (s : State) : Function.Injective (rankKey s) := fun i j same => by
  simp only [rankKey, toLex_inj, Prod.mk.injEq] at same
  obtain ⟨-, -, -, number⟩ := same
  exact number

theorem ranksFirst_irrefl (s : State) (i : Inp) : ¬RanksFirst s i i := by
  rw [ranksFirst_iff_rankKey_lt]
  exact lt_irrefl _

theorem RanksFirst.trans {s : State} {i j k : Inp} (hij : RanksFirst s i j) (hjk : RanksFirst s j k) :
    RanksFirst s i k := by
  rw [ranksFirst_iff_rankKey_lt] at *
  exact hij.trans hjk

theorem ranksFirst_iff_not {s : State} {i j : Inp} (ne : i ≠ j) : RanksFirst s i j ↔ ¬RanksFirst s j i := by
  rw [ranksFirst_iff_rankKey_lt, ranksFirst_iff_rankKey_lt, not_lt]
  exact ((rankKey_injective s).ne ne).le_iff_lt.symm

/-! ### The pass over the inputs -/

/-- `best` is what R73 ranks first among the eligible inputs of `inputs`. -/
def FirstAmong (s : State) (inputs : List Inp) : Option Inp → Prop
  | none => ∀ j ∈ inputs, ¬InEligibleSet s j
  | some b => InEligibleSet s b ∧ ∀ j ∈ inputs, InEligibleSet s j → j ≠ b → RanksFirst s b j

/-- An input that is not eligible, or that the best so far ranks ahead of, is passed over; another one displaces the
best so far, and with it ranks ahead of all the others. -/
theorem firstAmong_betterOf {s : State} {inputs : List Inp} {best : Option Inp} (first : FirstAmong s inputs best)
    (i : Inp) : FirstAmong s (inputs ++ [i]) (betterOf s best i) := by
  unfold betterOf
  split
  case isFalse ineligible =>
    rw [eligible_iff] at ineligible
    cases best with
    | none => exact List.forall_mem_append.mpr ⟨first, List.forall_mem_singleton.mpr ineligible⟩
    | some b =>
      obtain ⟨fitBest, ahead⟩ := first
      exact ⟨fitBest, List.forall_mem_append.mpr
        ⟨ahead, List.forall_mem_singleton.mpr fun fit => absurd fit ineligible⟩⟩
  case isTrue fit =>
    rw [eligible_iff] at fit
    have notItself {P : Prop} : InEligibleSet s i → i ≠ i → P := fun _ ne => absurd rfl ne
    cases best with
    | none =>
      exact ⟨fit, List.forall_mem_append.mpr
        ⟨fun j mem fitOther => absurd fitOther (first j mem), List.forall_mem_singleton.mpr notItself⟩⟩
    | some b =>
      obtain ⟨fitBest, ahead⟩ := first
      dsimp only
      split
      case isTrue displaces =>
        rw [ranksAhead_iff] at displaces
        refine ⟨fit, List.forall_mem_append.mpr
          ⟨fun j mem fitOther _ => ?_, List.forall_mem_singleton.mpr notItself⟩⟩
        by_cases old : j = b
        · exact old ▸ displaces
        · exact displaces.trans (ahead j mem fitOther old)
      case isFalse kept =>
        rw [ranksAhead_iff] at kept
        exact ⟨fitBest, List.forall_mem_append.mpr
          ⟨ahead, List.forall_mem_singleton.mpr fun _ ne => (ranksFirst_iff_not ne.symm).mpr kept⟩⟩

theorem bestInput_firstAmong (s : State) : FirstAmong s (List.finRange 6) (bestInput s) := by
  unfold bestInput
  induction List.finRange 6 using List.reverseRecOn with
  | nil => simp [FirstAmong]
  | append_singleton inputs i ih =>
    rw [List.foldl_concat]
    exact firstAmong_betterOf ih i

theorem bestInput_eq_none_iff (s : State) : bestInput s = none ↔ ∀ j : Inp, ¬InEligibleSet s j := by
  have first := bestInput_firstAmong s
  cases best : bestInput s with
  | none =>
    rw [best] at first
    exact iff_of_true rfl fun j => first j (List.mem_finRange j)
  | some b =>
    rw [best] at first
    obtain ⟨fit, -⟩ := first
    exact iff_of_false (by simp) fun noneFit => noneFit b fit

theorem bestInput_eq_some_iff (s : State) (b : Inp) : bestInput s = some b ↔
    InEligibleSet s b ∧ ∀ j : Inp, InEligibleSet s j → j ≠ b → RanksFirst s b j := by
  have first := bestInput_firstAmong s
  constructor
  · intro best
    rw [best] at first
    obtain ⟨fit, ahead⟩ := first
    exact ⟨fit, fun j => ahead j (List.mem_finRange j)⟩
  · rintro ⟨fit, ahead⟩
    cases best : bestInput s with
    | none => exact absurd fit ((bestInput_eq_none_iff s).mp best b)
    | some a =>
      rw [best] at first
      obtain ⟨fitBest, aheadBest⟩ := first
      congr
      by_contra ne
      exact (ranksFirst_iff_not ne).mp (aheadBest b (List.mem_finRange b) fit (Ne.symm ne)) (ahead a fitBest ne)

/-! ### Hop counts (R5) -/

theorem hop_eq_zero_of_fixed {s : State} {j : Inp} (agrees : RecordAgrees s j) (fixed : (inputCfg s j).use = .fixed) :
    s.records[j].hop = 0 := by
  obtain ⟨-, -, -, -, hop, -⟩ := agrees.2 (by simp [fixed])
  simpa [pathOf, fixed] using hop

/-- A grade that passes R71's second condition comes from an entry (R3), and its path names a station at least. -/
theorem one_le_hop_of_peer {s : State} {j : Inp} (agrees : RecordAgrees s j) (table : TableLaw s)
    (peer : (inputCfg s j).use = .peer) (grade : s.records[j].effective ≤ 14) : 1 ≤ s.records[j].hop := by
  obtain ⟨-, -, effective, -, hop, -⟩ := agrees.2 (by simp [peer])
  simp only [rawOf, pathOf, peer] at effective hop
  have rawFit : peerRaw (entryOf s (inputCfg s j).bound) ≠ unfit := fun rawUnfit => by
    rw [rawUnfit, unfit] at effective
    omega
  obtain ⟨e, found, -⟩ := fresh_of_peerRaw_ne_unfit rawFit
  obtain ⟨⟨named, -⟩, -⟩ := table.path_of_entry found
  rwa [hop, found]

/-! ### The obligation -/

/-- Settles O26: the ranking is the order of an injective lexicographic key, the pass over the six inputs ends with the
first of them all, and an eligible PEER input has an entry, whose path is not empty. -/
theorem firstRankedInput : Obligations.FirstRankedInput := by
  unfold Obligations.FirstRankedInput
  intro s
  refine ⟨bestInput_eq_some_iff s, bestInput_eq_none_iff s, fun i j => ranksFirst_iff_not, ranksFirst_irrefl s,
    fun i j k => RanksFirst.trans, fun run agreement table j => ⟨hop_eq_zero_of_fixed (agreement run j), ?_⟩⟩
  rintro peer ⟨-, grade, -⟩
  exact one_le_hop_of_peer (agreement run j) table peer grade

end Sys2Proof
end

section
/-! PROOF. The Peer Table's law (R148): every command but an ANNOUNCE leaves the table with entries it already had, under
the same own address, or empties it; an accepted ANNOUNCE sets the one entry of its source. -/

namespace Sys2Proof

open Machine

section

variable {s t u : State} {k : Slot}

/-! ### The same table -/

/-- The table and the own address are as they were. -/
structure SameTable (s t : State) : Prop where
  entries : t.peers.entries = s.peers.entries
  ownAddress : t.loader.ownAddress = s.loader.ownAddress

theorem SameTable.of_units (peers : t.peers = s.peers) (loader : t.loader = s.loader) : SameTable s t :=
  ⟨by rw [peers], by rw [loader]⟩

theorem SameTable.refl (s : State) : SameTable s s := ⟨rfl, rfl⟩

theorem SameTable.trans (first : SameTable s t) (second : SameTable t u) : SameTable s u :=
  ⟨second.entries.trans first.entries, second.ownAddress.trans first.ownAddress⟩

/-- A command that does nothing when its event cannot occur. -/
theorem SameTable.ite {c : Prop} [Decidable c] (same : SameTable s t) : SameTable s (if c then t else s) := by
  split
  · exact same
  · exact .refl s

/-! ### Entries that were there before -/

/-- The fields of an entry of which `TableLaw` speaks are the same. -/
def SameContent (e e' : PeerEntry) : Prop := e'.path = e.path ∧ e'.grade = e.grade ∧ e'.interval = e.interval

theorem SameContent.refl (e : PeerEntry) : SameContent e e := ⟨rfl, rfl, rfl⟩

theorem SameContent.trans {e e' e'' : PeerEntry} (first : SameContent e e') (second : SameContent e' e'') :
    SameContent e e'' := by
  obtain ⟨path, grade, interval⟩ := first
  obtain ⟨path', grade', interval'⟩ := second
  exact ⟨path'.trans path, grade'.trans grade, interval'.trans interval⟩

/-- No entry is made: each one of `t` stood in `s` at the same place, with the same content and under the same own
address. An emptied table qualifies whatever the own address is. -/
structure EntriesFrom (s t : State) : Prop where
  stood : ∀ k : Slot, ∀ e' ∈ t.peers.entries[k],
    t.loader.ownAddress = s.loader.ownAddress ∧ ∃ e ∈ s.peers.entries[k], SameContent e e'

theorem SameTable.entriesFrom (same : SameTable s t) : EntriesFrom s t where
  stood _ e' mem := ⟨same.ownAddress, e', by rwa [same.entries] at mem, .refl e'⟩

theorem EntriesFrom.trans (first : EntriesFrom s t) (second : EntriesFrom t u) : EntriesFrom s u := by
  refine ⟨fun k e'' mem'' => ?_⟩
  obtain ⟨own', e', mem', content'⟩ := second.stood k e'' mem''
  obtain ⟨own, e, mem, content⟩ := first.stood k e' mem'
  exact ⟨own'.trans own, e, mem, content.trans content'⟩

theorem EntriesFrom.of_units (peers : t.peers = s.peers) (loader : t.loader = s.loader) : EntriesFrom s t :=
  (SameTable.of_units peers loader).entriesFrom

theorem EntriesFrom.refl (s : State) : EntriesFrom s s := (SameTable.refl s).entriesFrom

theorem EntriesFrom.ite {c : Prop} [Decidable c] (kept : EntriesFrom s t) : EntriesFrom s (if c then t else s) := by
  split
  · exact kept
  · exact .refl s

/-- A command whose event occurs, or that does nothing. -/
theorem EntriesFrom.of_guarded {c : Prop} {_ : Decidable c}
    (h : (Host.Outcome.next (if c then u else s) : Host.Outcome State Fault Refusal) = .next t)
    (kept : EntriesFrom s u) : EntriesFrom s t := by
  obtain rfl := Host.Outcome.next.inj h
  exact .ite kept

theorem EntriesFrom.of_emptied (emptied : t.peers = PeerTable.init) : EntriesFrom s t where
  stood _ _ mem := by simp [emptied, PeerTable.init] at mem

/-- An entry removed, or put back with the same content. -/
theorem EntriesFrom.of_set {e : PeerEntry} {x : Option PeerEntry} (found : s.peers.entries[k] = some e)
    (content : ∀ e' ∈ x, SameContent e e') (entries : t.peers.entries = s.peers.entries.set k x)
    (own : t.loader.ownAddress = s.loader.ownAddress) : EntriesFrom s t := by
  refine ⟨fun j e' mem => ⟨own, ?_⟩⟩
  by_cases here : k = j
  · subst here
    exact ⟨e, found, content e' (by simpa [entries] using mem)⟩
  · have elsewhere : (k : Nat) ≠ j := Fin.val_ne_of_ne here
    exact ⟨e', by simpa [entries, Vector.getElem_set, elsewhere] using mem, .refl e'⟩

theorem EntriesFrom.none_of_none (kept : EntriesFrom s t) (absent : s.peers.entries[k] = none) :
    t.peers.entries[k] = none :=
  Option.eq_none_iff_forall_ne_some.mpr fun e' here => by
    obtain ⟨-, e, there, -⟩ := kept.stood k e' here
    simp [absent] at there

theorem EntriesFrom.keeps_tableLaw (kept : EntriesFrom s t) (law : TableLaw s) : TableLaw t := by
  intro k e' mem
  obtain ⟨own, e, there, path, grade, interval⟩ := kept.stood k e' mem
  rw [own, path, grade, interval]
  exact law k e there

/-! ### The end of an event, and a LOSC cycle -/

theorem settleEvent_sameTable (before s : State) (must expired : Bool) :
    SameTable s (settleEvent before must expired s) := .of_units (by simp) (by simp)

theorem answer_sameTable (args : Nat) (bytes : List Byte) (s : State) : SameTable s (answer args bytes s) :=
  .of_units rfl rfl

@[simp] theorem tickLoader_ownAddress (l : Loader) : (tickLoader l).ownAddress = l.ownAddress := by
  unfold tickLoader
  split <;> rfl

/-- A cycle moves nothing of an entry but its age. -/
theorem tickEntry_sameContent (e : PeerEntry) : SameContent e (tickEntry e) := by
  cases e
  exact ⟨rfl, rfl, rfl⟩

theorem tick_entriesFrom (s : State) : EntriesFrom s (tick s) := by
  unfold tick
  split
  case isTrue => exact .refl s
  case isFalse =>
    refine ⟨fun k e' mem => ⟨by simp, ?_⟩⟩
    obtain ⟨e, there, rfl⟩ : ∃ e, s.peers.entries[k] = some e ∧ tickEntry e = e' := by simpa [tickPeers] using mem
    exact ⟨e, there, tickEntry_sameContent e⟩

/-! ### Resets and START empty the table (R147) -/

theorem released_entriesFrom (s : State) (kind : ResetKind) (pins : Pins) (port : Port) (pending : List Instr) :
    EntriesFrom s (released kind pins port pending) := .of_emptied rfl

theorem execPowerReset_entriesFrom (h : execPowerReset s = .next t) : EntriesFrom s t := by
  obtain rfl := Host.Outcome.next.inj h
  exact .of_emptied rfl

theorem execPinReset_entriesFrom (h : execPinReset s = .next t) : EntriesFrom s t := by
  obtain rfl := Host.Outcome.next.inj h
  split
  · exact .refl s
  · exact .of_emptied rfl

theorem execResetRelease_entriesFrom {addrStrap : BitVec 5} {controllerMode : Bool} {los : BitVec 6}
    (h : execResetRelease addrStrap controllerMode los s = .next t) : EntriesFrom s t := by
  obtain rfl := Host.Outcome.next.inj h
  split
  · exact released_entriesFrom ..
  · exact .refl s

theorem softResetNow_entriesFrom (s u : State) (pins : Pins) : EntriesFrom s (softResetNow pins u) :=
  released_entriesFrom ..

@[simp] theorem startInput_peers (i : Inp) (s : State) : (startInput i s).peers = s.peers := by
  unfold startInput
  split <;> simp

@[simp] theorem startInputs_peers (s : State) : (startInputs s).peers = s.peers := by
  unfold startInputs
  induction List.finRange 6 using List.reverseRecOn with
  | nil => rfl
  | append_singleton inputs i ih => simp [ih]

@[simp] theorem clearWarmup_peers (s : State) : (clearWarmup s).peers = s.peers := by simp [clearWarmup]
@[simp] theorem clearWarmup_loader (s : State) : (clearWarmup s).loader = s.loader := by simp [clearWarmup]

@[simp] theorem warmupAtStart_peers (s : State) : (warmupAtStart s).peers = s.peers := by
  unfold warmupAtStart
  split <;> simp

theorem startPart_peers (held : Option Nat) (s : State) : (startPart held s).peers = PeerTable.init := by
  simp [startPart, logStarted, startUnits]

theorem startPart_entriesFrom (s u : State) (held : Option Nat) : EntriesFrom s (startPart held u) :=
  .of_emptied (startPart_peers held u)

theorem execStart_entriesFrom {held : Option Nat} (h : execStart s held = .next t) : EntriesFrom s t :=
  .of_guarded h (.trans (.ite (startPart_entriesFrom ..)) (answer_sameTable ..).entriesFrom)

/-! ### The Image Loader -/

theorem cfgFaultWith_sameTable (cause : LoadCause) (s : State) : SameTable s (cfgFaultWith cause s) := ⟨rfl, rfl⟩

theorem transferred_sameTable (actions : List I2cAction) (s : State) : SameTable s (transferred actions s) := ⟨rfl, rfl⟩

theorem attemptEnd_sameTable (n : Nat) (s : State) : SameTable s (attemptEnd n s) := by
  unfold attemptEnd
  split
  · exact cfgFaultWith_sameTable ..
  · exact ⟨rfl, rfl⟩

theorem loadResult_sameTable (image : List Byte) (s : State) : SameTable s (loadResult image s).2 := by
  unfold loadResult
  split
  · split <;> exact ⟨rfl, rfl⟩
  · exact .refl s

/-- Bytes read are a fault, or start the part. -/
theorem imageRead_entriesFrom (image : List Byte) (held : Option Nat) (s : State) :
    EntriesFrom s (imageRead image held s) := by
  unfold imageRead
  split
  · exact (cfgFaultWith_sameTable ..).entriesFrom
  · exact startPart_entriesFrom ..

theorem transferred_imageRead_entriesFrom (actions : List I2cAction) (image : List Byte) (held : Option Nat)
    (s : State) : EntriesFrom s (imageRead image held (transferred actions s)) :=
  (transferred_sameTable actions s).entriesFrom.trans (imageRead_entriesFrom ..)

theorem execEepromAttemptFailed_sameTable {failure : AttemptFailure} {stop : Bool}
    (h : execEepromAttemptFailed s failure stop = .next t) : SameTable s t := by
  obtain rfl := Host.Outcome.next.inj h
  split
  · exact (transferred_sameTable ..).trans (attemptEnd_sameTable ..)
  · exact .refl s

theorem execEepromRetry_sameTable (h : execEepromRetry s = .next t) : SameTable s t := by
  obtain rfl := Host.Outcome.next.inj h
  refine .ite ?_
  split
  · exact ⟨rfl, rfl⟩
  all_goals exact .refl s

theorem execLoadImage_sameTable {image : List Byte} (h : execLoadImage image s = .next t) : SameTable s t := by
  obtain rfl := Host.Outcome.next.inj h
  refine .ite ?_
  split
  · exact answer_sameTable ..
  · exact (loadResult_sameTable image s).trans (answer_sameTable ..)

/-! ### The inputs and the Selector -/

theorem reportSignal_sameTable (i : Inp) (before : Bool) (m : Monitor) (s : State) :
    SameTable s (reportSignal i before m s) := by
  unfold reportSignal
  repeat' split
  all_goals exact .of_units (by simp) (by simp)

theorem execMsPoint_sameTable {i : Inp} {losHigh edge : Bool} (h : execMsPoint i losHigh edge s = .next t) :
    SameTable s t := by
  obtain rfl := Host.Outcome.next.inj h
  have pins : SameTable s (s.withPins (setLosPin s.pins i losHigh)) := .of_units rfl rfl
  split
  · exact .refl s
  · dsimp only
    split
    · exact pins.trans (reportSignal_sameTable ..)
    · exact pins.trans (.of_units rfl rfl)

@[simp] theorem takeOffset_peers (i : Inp) (m : Monitor) (s : State) : (takeOffset i m s).peers = s.peers := by
  unfold takeOffset
  split <;> simp

@[simp] theorem takeOffset_loader (i : Inp) (m : Monitor) (s : State) : (takeOffset i m s).loader = s.loader := by
  unfold takeOffset
  split <;> simp

theorem completion_sameTable (i : Inp) (edges : Nat) (s : State) : SameTable s (completion i edges s) :=
  .of_units (by simp [completion]) (by simp [completion])

theorem holdOffEnd_sameTable (i : Inp) (s : State) : SameTable s (holdOffEnd i s) :=
  .of_units (by simp [holdOffEnd]) (by simp [holdOffEnd])

theorem wtrEnd_sameTable (i : Inp) (s : State) : SameTable s (wtrEnd i s) :=
  .of_units (by simp [wtrEnd]) (by simp [wtrEnd])

theorem lockInput_sameTable (i : Inp) (s : State) : SameTable s (lockInput i s) := by
  unfold lockInput
  split
  · exact .refl s
  · exact .of_units (by simp) (by simp)

theorem releaseInput_sameTable (i : Inp) (s : State) : SameTable s (releaseInput i s) :=
  .ite (.of_units (by simp) (by simp))

theorem setForce_sameTable (f : Force) (s : State) : SameTable s (setForce f s) := by
  unfold setForce
  split
  · exact .refl s
  · exact .of_units (by simp) (by simp)

theorem execLockout_sameTable {n : Byte} (h : execLockout n s = .next t) : SameTable s t := by
  obtain rfl := Host.Outcome.next.inj h
  refine .ite (.trans ?_ (answer_sameTable ..))
  split
  · exact .ite (lockInput_sameTable ..)
  · exact .refl s

theorem execRelease_sameTable {n : Byte} (h : execRelease n s = .next t) : SameTable s t := by
  obtain rfl := Host.Outcome.next.inj h
  refine .ite (.trans ?_ (answer_sameTable ..))
  split
  · exact .ite (releaseInput_sameTable ..)
  · exact .refl s

theorem execForce_sameTable {n : Byte} (h : execForce n s = .next t) : SameTable s t := by
  obtain rfl := Host.Outcome.next.inj h
  refine .ite (.trans ?_ (answer_sameTable ..))
  split
  · exact .ite (setForce_sameTable ..)
  · exact .refl s

theorem execUnforce_sameTable (h : execUnforce s = .next t) : SameTable s t := by
  obtain rfl := Host.Outcome.next.inj h
  exact .ite (.trans (.ite (setForce_sameTable ..)) (answer_sameTable ..))

/-! ### The Output Follower -/

theorem settleEnd_sameTable (s : State) : SameTable s (settleEnd s) := .of_units rfl rfl

theorem clearHoldoverForce_sameTable (s : State) : SameTable s (clearHoldoverForce s) := .ite (.of_units rfl rfl)

theorem valueEnd_sameTable (s : State) : SameTable s (valueEnd s) :=
  have expired : SameTable s (expireValue s) := .of_units rfl rfl
  (expired.trans (clearHoldoverForce_sameTable _)).trans (settleEvent_sameTable ..)

theorem stepAge_sameTable (age : Nat) (s : State) : SameTable s (stepAge age s) :=
  .of_units (by simp [stepAge]) (by simp [stepAge])

theorem warmupFinish_sameTable (s : State) : SameTable s (warmupFinish s) :=
  .of_units (by simp [warmupFinish]) (by simp [warmupFinish])

/-! ### The Controller Port -/

theorem readOn_sameTable (count : Nat) (s : State) : SameTable s (readOn count s) := by
  obtain ⟨port, eq⟩ := readOn_withPort count s
  exact .of_units (by simp [eq]) (by simp [eq])

theorem openRead_sameTable (a : Nat) (s : State) : SameTable s (openRead a s) := .of_units rfl rfl

theorem execRead_sameTable {place : ReadFrom} {count : Nat} (h : execRead place count s = .next t) :
    SameTable s t := by
  obtain rfl := Host.Outcome.next.inj h
  refine .ite ?_
  split
  · exact (openRead_sameTable ..).trans (readOn_sameTable ..)
  · exact readOn_sameTable ..

theorem beginWithdraw_sameTable (s : State) : SameTable s (beginWithdraw s) :=
  .of_units (by simp [beginWithdraw]) (by simp [beginWithdraw])

theorem softResetTaken_entriesFrom (pins : Pins) (s : State) : EntriesFrom s (softResetTaken pins s) := by
  unfold softResetTaken
  split
  · exact .refl s
  · split
    · exact (beginWithdraw_sameTable s).entriesFrom
    · exact softResetNow_entriesFrom ..

/-! ### The bus -/

theorem abandon_sameTable (cause : AbandonCause) (s : State) : SameTable s (abandon cause s) := by
  cases cause <;> exact .of_units rfl rfl

theorem dropFrame_sameTable (cause : AbandonCause) (s : State) : SameTable s (dropFrame cause s) :=
  .ite ((abandon_sameTable cause s).trans (.of_units rfl rfl))

theorem execFrameAbandoned_sameTable {cause : AbandonCause} (h : execFrameAbandoned cause s = .next t) :
    SameTable s t := by
  obtain rfl := Host.Outcome.next.inj h
  exact dropFrame_sameTable cause s

theorem dropFrame_foreignChar_sameTable (cause : AbandonCause) (c : LineChar) (s : State) :
    SameTable s (foreignChar c (dropFrame cause s)) :=
  (dropFrame_sameTable cause s).trans (.of_units rfl rfl)

theorem frameHeard_peers (kind : Byte) (f : RxFrame) (s : State) : (frameHeard kind f s).peers = s.peers := by
  rcases frameHeard_cases kind f s with ⟨-, eq⟩ | ⟨-, eq⟩ <;> rw [eq] <;> rfl

theorem frameHeard_loader (kind : Byte) (f : RxFrame) (s : State) : (frameHeard kind f s).loader = s.loader := by
  rcases frameHeard_cases kind f s with ⟨-, eq⟩ | ⟨-, eq⟩ <;> rw [eq] <;> rfl

theorem setDuplicate_sameTable (cause arg : Nat) (s : State) : SameTable s (setDuplicate cause arg s) := by
  unfold setDuplicate
  split
  · exact .refl s
  · exact .of_units rfl rfl

theorem startTransmission_sameTable (s : State) : SameTable s (startTransmission s) := by
  unfold startTransmission
  dsimp only
  split <;> exact .of_units (by simp) (by simp)

theorem busCompletion_sameTable (s : State) : SameTable s (busCompletion s) :=
  .of_units (by simp [busCompletion]) (by simp [busCompletion])

theorem announceDone_sameTable (c : Content) (s : State) : SameTable s (announceDone c s) := .of_units rfl rfl

theorem queryDone_sameTable (dest : Nat) (s : State) : SameTable s (queryDone dest s) := .of_units rfl rfl

theorem execAnnounceCompletion_sameTable (h : execAnnounceCompletion s = .next t) : SameTable s t := by
  obtain rfl := Host.Outcome.next.inj h
  split
  case h_1 c _ _ _ => exact .ite ((announceDone_sameTable c s).trans (busCompletion_sameTable _))
  all_goals exact .refl s

theorem execQueryCompletion_sameTable (h : execQueryCompletion s = .next t) : SameTable s t := by
  obtain rfl := Host.Outcome.next.inj h
  split
  case h_1 d _ _ => exact .ite ((queryDone_sameTable d s).trans (busCompletion_sameTable _))
  all_goals exact .refl s

theorem clashEnd_sameTable (s : State) : SameTable s (clashEnd s) :=
  .of_units (by simp [clashEnd]) (by simp [clashEnd])

theorem clashNow_entriesFrom (pins : Pins) (s : State) : EntriesFrom s (clashNow pins s) := by
  unfold clashNow
  dsimp only
  split
  · exact softResetNow_entriesFrom ..
  · exact ((clashEnd_sameTable s).trans (.ite (setDuplicate_sameTable ..))).entriesFrom

theorem withdrawWaitEnd_entriesFrom (pins : Pins) (s : State) : EntriesFrom s (withdrawWaitEnd pins s) := by
  unfold withdrawWaitEnd
  split
  · exact .of_units rfl rfl
  · exact softResetNow_entriesFrom ..

/-! ### One entry changes (R161) -/

section

variable {record : State → State}

theorem changeEntry_entries (e : Option PeerEntry) (s : State) (quiet : ∀ u, SameTable u (record u)) :
    (changeEntry k e record s).peers.entries = s.peers.entries.set k e := by
  simp [changeEntry, (quiet _).entries]

theorem changeEntry_ownAddress (e : Option PeerEntry) (s : State) (quiet : ∀ u, SameTable u (record u)) :
    (changeEntry k e record s).loader.ownAddress = s.loader.ownAddress := by
  simp [changeEntry, (quiet _).ownAddress]

theorem changeEntry_entriesFrom {e : PeerEntry} {x : Option PeerEntry} (found : s.peers.entries[k] = some e)
    (content : ∀ e' ∈ x, SameContent e e') (quiet : ∀ u, SameTable u (record u)) :
    EntriesFrom s (changeEntry k x record s) :=
  .of_set found content (changeEntry_entries x s quiet) (changeEntry_ownAddress x s quiet)

end

theorem queryLost_sameTable (a : Nat) (s : State) : SameTable s (queryLost a s) := .ite (.of_units rfl rfl)

theorem goStale_entriesFrom {e : PeerEntry} (found : s.peers.entries[k] = some e) :
    EntriesFrom s (goStale k e s) :=
  changeEntry_entriesFrom found (by rintro _ ⟨⟩; exact ⟨rfl, rfl, rfl⟩) fun u =>
    have logged : SameTable u (logEvent .peerLost (address k) (classCode e.cls) u) := .of_units rfl rfl
    logged.trans (queryLost_sameTable ..)

theorem removeEntry_entriesFrom {e : PeerEntry} (found : s.peers.entries[k] = some e) :
    EntriesFrom s (removeEntry k e s) :=
  changeEntry_entriesFrom found (by rintro _ ⟨⟩) fun _ => .of_units rfl rfl

theorem execEntryStale_entriesFrom (h : execEntryStale k s = .next t) : EntriesFrom s t := by
  obtain rfl := Host.Outcome.next.inj h
  split
  case h_1 e found => exact .ite (goStale_entriesFrom found)
  case h_2 => exact .refl s

theorem execEntryRemoval_entriesFrom (h : execEntryRemoval k s = .next t) : EntriesFrom s t := by
  obtain rfl := Host.Outcome.next.inj h
  split
  case h_1 e found => exact .ite (removeEntry_entriesFrom found)
  case h_2 => exact .refl s

theorem closeWindow_sameTable (k : Slot) (s : State) : SameTable s (s.withWindow k none) := ⟨rfl, rfl⟩

/-- R158: a WITHDRAW changes its source's entry, if there is one. -/
theorem acceptWithdraw_entriesFrom (k : Slot) (f : RxFrame) (s : State) : EntriesFrom s (acceptWithdraw k f s) := by
  unfold acceptWithdraw
  split
  case h_1 e found =>
    refine changeEntry_entriesFrom found (by rintro _ ⟨⟩; exact ⟨rfl, rfl, rfl⟩) fun u => ?_
    split
    · exact .refl u
    · exact .of_units rfl rfl
  case h_2 => exact .refl s

theorem acceptQuery_sameTable (s : State) : SameTable s (acceptQuery s) :=
  .of_units (by simp [acceptQuery]) (by simp [acceptQuery])

/-- Only an ANNOUNCE makes an entry. -/
theorem actOn_entriesFrom {kind : Byte} (other : kind ≠ kindAnnounce) (f : RxFrame) (k : Slot) (s : State) :
    EntriesFrom s (actOn kind f k s) := by
  unfold actOn
  rw [if_neg other]
  split
  · exact (acceptQuery_sameTable s).entriesFrom
  · exact acceptWithdraw_entriesFrom ..

/-! ### Reception (R149) -/

theorem verdict_congr (peers : t.peers = s.peers) (loader : t.loader = s.loader) (kind : Byte) (f : RxFrame) :
    verdict t kind f = verdict s kind f := by
  unfold verdict judgeSource trusted cfg
  rw [peers, loader]

/-- An accepted frame comes from another station (R150). -/
theorem source_ne_own_of_accepted {kind : Byte} {f : RxFrame} (accepted : verdict s kind f = .accepted) :
    f.source.toNat ≠ s.loader.ownAddress := by
  unfold verdict at accepted
  split at accepted
  case h_1 => cases accepted
  case h_2 =>
    split at accepted
    case isTrue => cases accepted
    case isFalse other => exact other

theorem address_of_slotOf {a : Nat} (found : slotOf a = some k) : address k = a := by
  unfold slotOf at found
  split at found
  · obtain rfl := Option.some.inj found
    simp only [address]
    omega
  · cases found

/-- A verdict other than ACCEPTED touches counters and the rate window alone; an accepted frame acts by its kind, its
rate window counted. -/
theorem applyVerdict_cases (v : Verdict) (kind : Byte) (f : RxFrame) (s : State) :
    SameTable s (applyVerdict v kind f s) ∨
    v = .accepted ∧ ∃ k : Slot, slotOf f.source.toNat = some k ∧
      applyVerdict v kind f s = actOn kind f k (countWindow k s) := by
  cases v with
  | malformed => exact .inl (.of_units rfl rfl)
  | ownSource =>
    have counted : SameTable s (countUntrusted s) := ⟨rfl, rfl⟩
    exact .inl (counted.trans (setDuplicate_sameTable ..))
  | untrusted => exact .inl ⟨rfl, rfl⟩
  | rate => exact .inl ⟨rfl, rfl⟩
  | sequence =>
    left
    dsimp only [applyVerdict]
    split
    · exact ⟨rfl, rfl⟩
    · exact .refl s
  | accepted =>
    dsimp only [applyVerdict]
    split
    case h_1 k found => exact .inr ⟨rfl, k, found, rfl⟩
    case h_2 => exact .inl (.refl s)

/-- A frame received leaves the table, or is accepted and acts by its kind on that table. -/
theorem receive_cases (kind : Byte) (f : RxFrame) (s : State) :
    SameTable s (receive kind f s) ∨
    verdict s kind f = .accepted ∧ ∃ (k : Slot) (u : State), slotOf f.source.toNat = some k ∧ SameTable s u ∧
      receive kind f s = actOn kind f k u := by
  unfold receive
  split
  case isFalse => exact .inl (.refl s)
  case isTrue =>
    unfold handOver
    dsimp only
    generalize heard : (frameHeard kind f s).withBus _ = h
    have peers : h.peers = s.peers := by rw [← heard]; exact frameHeard_peers kind f s
    have loader : h.loader = s.loader := by rw [← heard]; exact frameHeard_loader kind f s
    have same : SameTable s h := .of_units peers loader
    rw [verdict_congr peers loader]
    rcases applyVerdict_cases (verdict s kind f) kind f h with discarded | ⟨accepted, k, found, acts⟩
    · exact .inl (same.trans discarded)
    · exact .inr ⟨accepted, k, countWindow k h, found, same.trans ⟨rfl, rfl⟩, acts⟩

theorem receive_entriesFrom {kind : Byte} (other : kind ≠ kindAnnounce) (f : RxFrame) (s : State) :
    EntriesFrom s (receive kind f s) := by
  rcases receive_cases kind f s with same | ⟨-, k, u, -, same, acts⟩
  · exact same.entriesFrom
  · rw [acts]
    exact same.entriesFrom.trans (actOn_entriesFrom other f k u)

theorem execQueryReceived_entriesFrom {f : RxFrame} (h : execQueryReceived f s = .next t) : EntriesFrom s t := by
  obtain rfl := Host.Outcome.next.inj h
  exact receive_entriesFrom (by decide) f s

theorem execWithdrawReceived_entriesFrom {f : RxFrame} (h : execWithdrawReceived f s = .next t) :
    EntriesFrom s t := by
  obtain rfl := Host.Outcome.next.inj h
  exact receive_entriesFrom (by decide) f s

theorem execMalformedFrame_entriesFrom {kind : Byte} {f : RxFrame} (h : execMalformedFrame kind f s = .next t) :
    EntriesFrom s t := by
  obtain rfl := Host.Outcome.next.inj h
  split
  case isTrue => exact .refl s
  case isFalse unknown => exact receive_entriesFrom (by rintro rfl; exact unknown (by decide)) f s

/-! ### An accepted ANNOUNCE (R156) -/

/-- R153: what a valid ANNOUNCE carries is what R148 asks of an entry. -/
theorem readAnnounce_valid {source : Nat} {payload : List Byte} {a : Announced}
    (read : readAnnounce source payload = some a) :
    validPath a.content.path source = true ∧ (1 ≤ a.content.grade ∧ a.content.grade ≤ 15) ∧
      (1 ≤ a.content.interval ∧ a.content.interval ≤ 8) := by
  unfold readAnnounce at read
  split at read
  · cases read
  · split at read
    case isTrue valid =>
      obtain ⟨grade, interval, -, -, path⟩ := valid
      obtain rfl := Option.some.inj read
      exact ⟨path, grade, interval⟩
    case isFalse => cases read

/-- The accepted ANNOUNCE `f` of another station `k` has set that station's entry, and no other. -/
structure Announces (s t : State) (f : RxFrame) (k : Slot) (a : Announced) : Prop where
  accepted : verdict s kindAnnounce f = .accepted
  source : f.source.toNat = address k
  other : address k ≠ s.loader.ownAddress
  read : readAnnounce (address k) f.payload = some a
  entries : t.peers.entries = s.peers.entries.set k (some (announcedEntry f a))
  ownAddress : t.loader.ownAddress = s.loader.ownAddress

theorem receive_announce (f : RxFrame) (s : State) :
    EntriesFrom s (receive kindAnnounce f s) ∨ ∃ k a, Announces s (receive kindAnnounce f s) f k a := by
  rcases receive_cases kindAnnounce f s with same | ⟨accepted, k, u, found, same, acts⟩
  · exact .inl same.entriesFrom
  · have other := source_ne_own_of_accepted accepted
    have source := address_of_slotOf found
    rw [acts, actOn, if_pos rfl]
    unfold acceptAnnounce
    split
    case h_1 a read =>
      have quiet : ∀ v : State, SameTable v (id v) := SameTable.refl
      exact .inr ⟨k, a, accepted, source.symm, source ▸ other, source ▸ read,
        by rw [changeEntry_entries _ _ quiet, same.entries], by rw [changeEntry_ownAddress _ _ quiet, same.ownAddress]⟩
    case h_2 => exact .inl same.entriesFrom

section

variable {f : RxFrame} {a : Announced}

theorem Announces.entry_self (announces : Announces s t f k a) :
    t.peers.entries[k] = some (announcedEntry f a) := by simp [announces.entries]

theorem Announces.entry_of_ne (announces : Announces s t f k a) {j : Slot} (elsewhere : j ≠ k) :
    t.peers.entries[j] = s.peers.entries[j] := by
  have : (k : Nat) ≠ j := Fin.val_ne_of_ne elsewhere.symm
  simp [announces.entries, this]

theorem Announces.keeps_tableLaw (announces : Announces s t f k a) (law : TableLaw s) : TableLaw t := by
  intro j e mem
  rw [announces.ownAddress]
  by_cases here : j = k
  · subst here
    obtain rfl : announcedEntry f a = e := Option.some.inj (announces.entry_self.symm.trans mem)
    exact ⟨announces.other, readAnnounce_valid announces.read⟩
  · rw [announces.entry_of_ne here] at mem
    exact law j e mem

end

/-! ### What a command and a step can do to the table -/

/-- Every command but a received ANNOUNCE makes no entry. -/
theorem exec_entriesFrom {c : Instr} (other : ∀ f, c ≠ .announceReceived f) (h : exec c s = .next t) :
    EntriesFrom s t := by
  cases c with
  | announceReceived f => exact absurd rfl (other f)
  | powerReset => exact execPowerReset_entriesFrom h
  | pinReset => exact execPinReset_entriesFrom h
  | resetRelease => exact execResetRelease_entriesFrom h
  | msPoint => exact (execMsPoint_sameTable h).entriesFrom
  | gateCompletion i edges => exact .of_guarded h (completion_sameTable i _ s).entriesFrom
  | holdOffExpiry i => exact .of_guarded h (holdOffEnd_sameTable i s).entriesFrom
  | wtrExpiry i => exact .of_guarded h (wtrEnd_sameTable i s).entriesFrom
  | settleExpiry => exact .of_guarded h (settleEnd_sameTable s).entriesFrom
  | valueExpiry => exact .of_guarded h (valueEnd_sameTable s).entriesFrom
  | stepAgeReached => exact .of_guarded h (stepAge_sameTable _ s).entriesFrom
  | warmupEnd => exact .of_guarded h (warmupFinish_sameTable s).entriesFrom
  | queryReceived => exact execQueryReceived_entriesFrom h
  | withdrawReceived => exact execWithdrawReceived_entriesFrom h
  | badFrame => exact .of_guarded h (.of_units (frameHeard_peers ..) (frameHeard_loader ..))
  | frameAbandoned => exact (execFrameAbandoned_sameTable h).entriesFrom
  | entryStale => exact execEntryStale_entriesFrom h
  | entryRemoval => exact execEntryRemoval_entriesFrom h
  | rateWindowEnd => exact .of_guarded h (closeWindow_sameTable ..).entriesFrom
  | transmissionStart => exact .of_guarded h (startTransmission_sameTable s).entriesFrom
  | restEnd => exact .of_guarded h (.of_units rfl rfl)
  | announceCompletion => exact (execAnnounceCompletion_sameTable h).entriesFrom
  | queryCompletion => exact (execQueryCompletion_sameTable h).entriesFrom
  | withdrawCompletion pins => exact .of_guarded h (softResetNow_entriesFrom s s pins)
  | clash pins => exact .of_guarded h (clashNow_entriesFrom pins s)
  | periodicTimerExpiry => exact .of_guarded h (.of_units (syncWant_peers _) (syncWant_loader _))
  | spacingExpiry => exact .of_guarded h (.of_units (syncWant_peers _) (syncWant_loader _))
  | withdrawWaitExpiry pins => exact .of_guarded h (withdrawWaitEnd_entriesFrom pins s)
  | eepromReadDone image held => exact .of_guarded h (transferred_imageRead_entriesFrom ..)
  | eepromAttemptFailed => exact (execEepromAttemptFailed_sameTable h).entriesFrom
  | eepromRetry => exact (execEepromRetry_sameTable h).entriesFrom
  | read => exact (execRead_sameTable h).entriesFrom
  | loadImage => exact (execLoadImage_sameTable h).entriesFrom
  | start => exact execStart_entriesFrom h
  | force => exact (execForce_sameTable h).entriesFrom
  | unforce => exact (execUnforce_sameTable h).entriesFrom
  | lockout => exact (execLockout_sameTable h).entriesFrom
  | release => exact (execRelease_sameTable h).entriesFrom
  | popEvent => exact .of_guarded h (.of_units rfl rfl)
  | softReset pins =>
    exact .of_guarded h ((answer_sameTable ..).entriesFrom.trans (softResetTaken_entriesFrom pins _))
  | unknownCommand => exact .of_guarded h (answer_sameTable ..).entriesFrom
  | foreignStartBit => exact .of_guarded h (dropFrame_foreignChar_sameTable ..).entriesFrom
  | malformedFrame => exact execMalformedFrame_entriesFrom h

/-- A step makes no entry, or takes an accepted ANNOUNCE from the front of the queue. -/
theorem step_table (h : step s = .next t) :
    EntriesFrom s t ∨ ∃ f rest k a, s.pending = .announceReceived f :: rest ∧ Announces s t f k a := by
  unfold step at h
  split at h
  case h_1 =>
    obtain rfl := Host.Outcome.next.inj h
    exact .inl (tick_entriesFrom s)
  case h_2 c rest front =>
    have taken : SameTable s { s with pending := rest } := ⟨rfl, rfl⟩
    by_cases announce : ∃ f, c = .announceReceived f
    · obtain ⟨f, rfl⟩ := announce
      obtain rfl := Host.Outcome.next.inj h
      rcases receive_announce f { s with pending := rest } with kept | ⟨k, a, announces⟩
      · exact .inl (taken.entriesFrom.trans kept)
      · exact .inr ⟨f, rest, k, a, front, { announces with }⟩
    · exact .inl (taken.entriesFrom.trans (exec_entriesFrom (fun f eq => announce ⟨f, eq⟩) h))

/-! ### The size of the table -/

/-- The own address has no entry, so one of the 24 places is empty. -/
theorem TableLaw.length_le {s : State} (law : TableLaw s) (own : 1 ≤ s.loader.ownAddress ∧ s.loader.ownAddress ≤ 24) :
    (s.peers.entries.toList.filter Option.isSome).length ≤ 23 := by
  let k : Slot := ⟨s.loader.ownAddress - 1, by omega⟩
  have ownPlace : address k = s.loader.ownAddress := by simp only [address, k]; omega
  have empty : s.peers.entries[k] = none :=
    Option.eq_none_iff_forall_ne_some.mpr fun e here => (law k e here).1 ownPlace
  have member : none ∈ s.peers.entries.toList := by
    rw [← empty]
    simp
  have fewer : (s.peers.entries.toList.filter Option.isSome).length < s.peers.entries.toList.length :=
    List.length_filter_lt_length_iff_exists.mpr ⟨none, member, by simp⟩
  rw [Vector.length_toList] at fewer
  omega

end

/-! ### The obligation -/

/-- Settles O56: a step that makes no entry keeps the law of those there are; an accepted ANNOUNCE is of another station
and valid, and sets that station's entry alone. -/
theorem peerTableStands : Obligations.PeerTableStands := by
  unfold Obligations.PeerTableStands
  intro s t law h
  rcases step_table h with kept | ⟨f, rest, k, a, front, announces⟩
  case inl =>
    have lawful := kept.keeps_tableLaw law
    exact ⟨lawful, fun low high => lawful.length_le ⟨low, high⟩,
      fun k absent present => absurd (kept.none_of_none absent) present⟩
  case inr =>
    have lawful := announces.keeps_tableLaw law
    refine ⟨lawful, fun low high => lawful.length_le ⟨low, high⟩, fun j absent present => ?_⟩
    obtain rfl : j = k := by_contra fun elsewhere => present ((announces.entry_of_ne elsewhere).trans absent)
    exact ⟨⟨f, rest, front, announces.source, announces.accepted⟩, fun i elsewhere => announces.entry_of_ne elsewhere⟩

end Sys2Proof
end

section
/-! PROOF. POP EVENT (R183): what taking the oldest record does to the log, the bytes that the record is sent in, and what
the command does while no reset is held. -/

namespace Sys2Proof

open Machine

/-! ### The log without its oldest record (R183) -/

section

variable (l : EventLog)

@[simp] theorem EventLog.pop_records : l.pop.records = l.records.tail := rfl
@[simp] theorem EventLog.pop_uptime : l.pop.uptime = l.uptime := rfl
@[simp] theorem EventLog.pop_phase : l.pop.phase = l.phase := rfl

variable {l}

theorem EventLog.pop_overflow_of_emptied (emptied : l.records.tail = []) : l.pop.overflow = false := by
  simp [EventLog.pop, emptied]

theorem EventLog.pop_overflow_of_left (left : l.records.tail ≠ []) : l.pop.overflow = l.overflow := by
  simp [EventLog.pop, left]

end

/-! ### The bytes of the record taken (R183, R186) -/

theorem eventBytes_eq (e : EventRec) : eventBytes e = [BitVec.ofNat 8 (e.uptime / 16777216),
    BitVec.ofNat 8 (e.uptime / 65536), BitVec.ofNat 8 (e.uptime / 256), BitVec.ofNat 8 e.uptime,
    BitVec.ofNat 8 e.kind.code, e.arg1, e.arg2] := rfl

theorem oldestEvent_of_cons {l : EventLog} {e : EventRec} {older : List EventRec} (h : l.records = e :: older) :
    oldestEvent l = eventBytes e := by
  simp [oldestEvent, h]

theorem oldestEvent_of_nil {l : EventLog} (h : l.records = []) :
    oldestEvent l = [0x00, 0x00, 0x00, 0x00, 0x00, 0x00, 0x00] := by
  simp [oldestEvent, h, emptyEvent]

/-! ### The command (R178, R183) -/

theorem portOpen_of_released {s : State} (released : s.hold = none) : portOpen s = true := by
  simp [portOpen, released]

/-- The part state is not asked: an open port is enough. -/
theorem exec_popEvent {s : State} (released : s.hold = none) :
    exec .popEvent s = .next (answer 0 (resDone :: oldestEvent s.log) (s.withLog s.log.pop)) := by
  calc exec .popEvent s = execPopEvent s := rfl
    _ = _ := congrArg Host.Outcome.next (if_pos (portOpen_of_released released))

/-- Settles O50: the log loses its oldest record and the port alone answers, with that record's bytes or the empty
record's. -/
theorem popTakesTheOldest : Obligations.PopTakesTheOldest := by
  unfold Obligations.PopTakesTheOldest
  intro s released
  refine ⟨_, exec_popEvent released, rfl, rfl, rfl, rfl, rfl, EventLog.pop_overflow_of_emptied,
    EventLog.pop_overflow_of_left, ?found, ?empty⟩
  case found =>
    intro e older front
    simp [front, oldestEvent_of_cons front, eventBytes_eq, answeredPort, resDone]
  case empty =>
    intro noRecord
    simp [oldestEvent_of_nil noRecord, answeredPort, resDone]

end Sys2Proof
end


section
/-! PROOF. The moves of a record (R43 to R57): what the Qualifier makes of a lawful record, case by case, and what the
Selector's taking and giving up leave of it. -/

namespace Sys2Proof.Machine

/-! ### Reason sets (R45) -/

theorem Reasons.none_iff (x : Reasons) : x.none = true ↔ x = Reasons.empty := by simp [Reasons.none]

theorem Reasons.none_eq_false_iff (x : Reasons) : x.none = false ↔ x ≠ Reasons.empty := by simp [Reasons.none]

theorem Reasons.onlySignal_iff (x : Reasons) : x.onlySignal = true ↔ x = { Reasons.empty with signal := true } := by
  simp [Reasons.onlySignal]

/-! ### What the Qualifier makes of a record (R46 to R54) -/

/-- The record with which a BARRED input enters PROVING (R52). -/
def InputRec.proven (r : InputRec) (c : InputCfg) : InputRec :=
  { r with state := .proving, reasons := Reasons.empty, hardSeen := false, wtr := entryWtr r.hardSeen c.wtr }

/-- The record with which a PROVING input passes to READY (R54). -/
def InputRec.passed (r : InputRec) : InputRec := { r with state := .ready, wtr := .none }

/-- The record of a BARRED input that further reasons reach (R46, R47). -/
def InputRec.joined (r : InputRec) (x : Reasons) : InputRec :=
  { r with reasons := x, hardSeen := r.hardSeen || x.hard }

/-- Every way in which the Qualifier moves a lawful record `r` on the reason set `x`. -/
inductive InputRec.Moved (r : InputRec) (c : InputCfg) (full : Bool) (x : Reasons) : InputRec × Notice → Prop
  /-- An OFF record is not moved (R43). -/
  | off (state : r.state = .off) : Moved r c full x (r, .nothing)
  /-- The reason set is as it was, and the record does not pass. -/
  | kept (on : r.state ≠ .off) (notBarred : r.state ≠ .barred) (same : x = r.reasons)
      (waits : r.state = .proving → full = true → r.wtr.passes = false) : Moved r c full x (r, .nothing)
  /-- Reasons reach a BARRED record (R46, R47). -/
  | joins (state : r.state = .barred) (some : x ≠ Reasons.empty) : Moved r c full x (r.joined x, .nothing)
  /-- A BARRED record without reasons enters PROVING and waits there (R52). -/
  | proves (state : r.state = .barred) (none : x = Reasons.empty)
      (waits : full = true → (r.proven c).wtr.passes = false) : Moved r c full x (r.proven c, .nothing)
  /-- A BARRED record without reasons passes through PROVING to READY (R52, R54). -/
  | provesAndPasses (state : r.state = .barred) (none : x = Reasons.empty) (isFull : full = true)
      (passes : (r.proven c).wtr.passes = true) :
      Moved r c full x ((r.proven c).passed, .ready (r.proven c).wtr)
  /-- A PROVING record passes to READY (R54). -/
  | passes (state : r.state = .proving) (none : x = Reasons.empty) (isFull : full = true)
      (passes : r.wtr.passes = true) : Moved r c full x (r.passed, .ready r.wtr)
  /-- A READY record is suspended (R48). -/
  | suspendsReady (state : r.state = .ready) (signal : x = { Reasons.empty with signal := true })
      (holdOff : 0 < c.holdOff) : Moved r c full x (r.suspend c .ready, .nothing)
  /-- An ACTIVE record is suspended (R48). -/
  | suspendsActive (state : r.state = .active) (signal : x = { Reasons.empty with signal := true })
      (holdOff : 0 < c.holdOff) : Moved r c full x (r.suspend c .active, .nothing)
  /-- A SUSPECT record returns to its origin (R50). -/
  | resumes (state : r.state = .suspect) (none : x = Reasons.empty) : Moved r c full x (r.resume, .nothing)
  /-- A record becomes BARRED (R47, R49, R51). -/
  | bars (on : r.state ≠ .off) (notBarred : r.state ≠ .barred) (some : x ≠ Reasons.empty) :
      Moved r c full x (r.bar x, .barred)

section

variable {r : InputRec} {c : InputCfg} {full : Bool} {x : Reasons} {m : InputRec × Notice}

/-- A lawful record in PROVING waits there or passes. -/
theorem InputRec.promote_moved (law : RecordLaw r) (state : r.state = .proving) :
    r.Moved c full Reasons.empty (r.promote full) := by
  obtain ⟨-, -, proving, -⟩ := law
  obtain ⟨reasons, -⟩ := proving state
  rcases r.promote_cases full with same | ⟨-, isFull, passes, eq⟩
  · rw [same]
    refine .kept (by simp [state]) (by simp [state]) reasons.symm fun _ isFull => ?_
    by_contra passes
    simp [InputRec.promote, state, isFull, passes] at same
  · rw [eq]
    exact .passes state rfl isFull passes

theorem InputRec.prove_moved (state : r.state = .barred) :
    r.Moved c full Reasons.empty (r.prove c full) := by
  have prove : r.prove c full = (r.proven c).promote full := rfl
  rw [prove]
  by_cases passes : full = true ∧ (r.proven c).wtr.passes = true
  · rw [show (r.proven c).promote full = ((r.proven c).passed, .ready (r.proven c).wtr) from
      if_pos ⟨rfl, passes⟩]
    exact .provesAndPasses state rfl passes.1 passes.2
  · rw [show (r.proven c).promote full = (r.proven c, .nothing) from if_neg fun h => passes h.2]
    exact .proves state rfl (by simpa using passes)

theorem InputRec.usableMove_moved {origin : Origin} (reasons : r.reasons = Reasons.empty)
    (state : r.state = .ready ∧ origin = .ready ∨ r.state = .active ∧ origin = .active) :
    r.Moved c full x (r.usableMove c origin x) := by
  have on : r.state ≠ .off := by rcases state with ⟨h, -⟩ | ⟨h, -⟩ <;> simp [h]
  have notBarred : r.state ≠ .barred := by rcases state with ⟨h, -⟩ | ⟨h, -⟩ <;> simp [h]
  rcases r.usableMove_cases c origin x with ⟨none, eq⟩ | ⟨only, holdOff, eq⟩ | ⟨some, eq⟩ <;> rw [eq]
  · refine .kept on notBarred (by rw [reasons, (Reasons.none_iff x).mp none]) fun h => ?_
    rcases state with ⟨g, -⟩ | ⟨g, -⟩ <;> simp [g] at h
  · have signal := (Reasons.onlySignal_iff x).mp only
    rcases state with ⟨h, rfl⟩ | ⟨h, rfl⟩
    · exact .suspendsReady h signal holdOff
    · exact .suspendsActive h signal holdOff
  · exact .bars on notBarred ((Reasons.none_eq_false_iff x).mp some)

/-- The Qualifier moves a lawful record in one of these ways. -/
theorem InputRec.move_moved (law : RecordLaw r) : r.Moved c full x (r.move c full x) := by
  have ⟨bare, _, _, suspect⟩ := law
  unfold InputRec.move
  split <;> rename_i state
  case h_1 => exact .off state
  case h_2 =>
    split <;> rename_i none
    · rw [(Reasons.none_iff x).mp none]
      exact prove_moved state
    · exact .joins state fun h => none ((Reasons.none_iff x).mpr h)
  case h_3 =>
    split <;> rename_i none
    · rw [(Reasons.none_iff x).mp none]
      exact promote_moved law state
    · exact .bars (by simp [state]) (by simp [state]) fun h => none ((Reasons.none_iff x).mpr h)
  case h_4 => exact usableMove_moved (bare (.inr (.inl state))).1 (.inl ⟨state, rfl⟩)
  case h_5 => exact usableMove_moved (bare (.inr (.inr state))).1 (.inr ⟨state, rfl⟩)
  case h_6 =>
    split <;> rename_i none
    · exact .resumes state ((Reasons.none_iff x).mp none)
    · split <;> rename_i only
      · exact .kept (by simp [state]) (by simp [state])
          (by rw [(suspect state).1, (Reasons.onlySignal_iff x).mp only]) (by simp [state])
      · exact .bars (by simp [state]) (by simp [state]) fun h => none ((Reasons.none_iff x).mpr h)

theorem entryWtr_ne_none (hardSeen : Bool) (configured : Nat) : entryWtr hardSeen configured ≠ .none := by
  unfold entryWtr
  repeat' split
  all_goals simp

/-- A move keeps the table of R44. -/
theorem InputRec.Moved.lawful (moved : r.Moved c full x m) (law : RecordLaw r) : RecordLaw m.1 := by
  have ⟨bare, barred, proving, suspect⟩ := law
  cases moved with
  | off | kept => exact law
  | joins state some =>
    obtain ⟨-, holdOff, wtr, origin, -⟩ := barred state
    simp only [RecordLaw, InputRec.joined, state]
    simp_all
  | proves state none =>
    obtain ⟨-, holdOff, wtr, origin, -⟩ := barred state
    simp [RecordLaw, InputRec.proven, holdOff, origin, entryWtr_ne_none]
  | provesAndPasses state none =>
    obtain ⟨-, holdOff, wtr, origin, -⟩ := barred state
    simp [RecordLaw, RecordBare, InputRec.proven, InputRec.passed, holdOff, origin]
  | passes state none =>
    obtain ⟨reasons, hardSeen, holdOff, -, origin⟩ := proving state
    simp [RecordLaw, RecordBare, InputRec.passed, reasons, hardSeen, holdOff, origin]
  | suspendsReady state =>
    obtain ⟨reasons, hardSeen, holdOff, wtr, origin⟩ := bare (.inr (.inl state))
    simp [RecordLaw, InputRec.suspend, hardSeen, wtr]
  | suspendsActive state =>
    obtain ⟨reasons, hardSeen, holdOff, wtr, origin⟩ := bare (.inr (.inr state))
    simp [RecordLaw, InputRec.suspend, hardSeen, wtr]
  | resumes state none =>
    obtain ⟨reasons, hardSeen, holdOff, wtr, origin⟩ := suspect state
    cases h : r.origin with
    | none => exact absurd h origin
    | some o => cases o <;> simp [RecordLaw, RecordBare, InputRec.resume, hardSeen, wtr, h]
  | bars on notBarred some => simpa [RecordLaw, InputRec.bar] using some

/-- The record holds the reason set it was moved on (R45). -/
theorem InputRec.Moved.reasons_eq (moved : r.Moved c full x m) (law : RecordLaw r) (on : r.state ≠ .off) : m.1.reasons = x := by
  cases moved with
  | off state => exact absurd state on
  | kept _ _ same => exact same.symm
  | proves _ none | provesAndPasses _ none | resumes _ none => exact none.symm
  | suspendsReady _ signal | suspendsActive _ signal => exact signal.symm
  | passes state none => exact (law.2.2.1 state).1.trans none.symm
  | joins | bars => rfl

end

/-! ### What the Selector makes of a record (R56, R57) -/

/-- The record after the Selector may have taken or given up its input: only a READY, ACTIVE or SUSPECT one can have
moved. -/
inductive SelectorMove (r : InputRec) : InputRec → Prop
  | same : SelectorMove r r
  | usable (state : r.state = .ready ∨ r.state = .active) (state' : InputState)
      (chosen : state' = .ready ∨ state' = .active) : SelectorMove r { r with state := state' }
  | suspect (state : r.state = .suspect) (origin : Origin) : SelectorMove r { r with origin := some origin }

section

variable {r r' r'' : InputRec}

theorem SelectorMove.trans (first : SelectorMove r r') (second : SelectorMove r' r'') : SelectorMove r r'' := by
  cases first with
  | same => exact second
  | usable state state' chosen =>
    cases second with
    | same => exact .usable state state' chosen
    | usable _ state'' chosen' => exact .usable state state'' chosen'
    | suspect suspended => rcases chosen with h | h <;> simp [h] at suspended
  | suspect state origin =>
    cases second with
    | same => exact .suspect state origin
    | usable usable => simp [state] at usable
    | suspect _ origin' => exact .suspect state origin'

theorem SelectorMove.lawful (move : SelectorMove r r') (law : RecordLaw r) : RecordLaw r' := by
  cases move with
  | same => exact law
  | usable state state' chosen =>
    have bare : RecordBare r := law.1 (by tauto)
    obtain ⟨reasons, hardSeen, holdOff, wtr, origin⟩ := bare
    rcases chosen with rfl | rfl <;> simp [RecordLaw, RecordBare, reasons, hardSeen, holdOff, wtr, origin]
  | suspect state origin =>
    obtain ⟨-, -, -, suspect⟩ := law
    obtain ⟨reasons, hardSeen, holdOff, wtr, -⟩ := suspect state
    simp [RecordLaw, state, reasons, hardSeen, holdOff, wtr]

theorem SelectorMove.onlySelected (move : SelectorMove r r') : OnlySelected r r' := by cases move <;> rfl

/-- The Selector neither brings an input among those it may choose from, nor takes one out. -/
theorem SelectorMove.fit_eq (move : SelectorMove r r') : r'.fit = r.fit := by
  cases move with
  | same => rfl
  | usable state state' chosen => rcases state with h | h <;> rcases chosen with rfl | rfl <;> simp [InputRec.fit, h]
  | suspect state => simp [InputRec.fit, state]

theorem SelectorMove.eq_of_not_fit (move : SelectorMove r r') (unfit : r.fit = false) : r' = r := by
  cases move with
  | same => rfl
  | usable state => rcases state with h | h <;> simp [InputRec.fit, h] at unfit
  | suspect state => simp [InputRec.fit, state] at unfit

theorem SelectorMove.suspect_iff (move : SelectorMove r r') : r'.state = .suspect ↔ r.state = .suspect := by
  cases move with
  | same => rfl
  | usable state state' chosen => rcases state with h | h <;> rcases chosen with rfl | rfl <;> simp [h]
  | suspect => rfl

theorem InputRec.giveUp_selectorMove (r : InputRec) : SelectorMove r r.giveUp := by
  unfold InputRec.giveUp
  split
  case isTrue active => exact .usable (.inr active) .ready (.inl rfl)
  case isFalse =>
    split
    case isTrue suspect => exact .suspect suspect .ready
    case isFalse => exact .same

theorem InputRec.take_selectorMove (r : InputRec) : SelectorMove r r.take := by
  unfold InputRec.take
  split
  case isTrue ready => exact .usable (.inl ready) .active (.inr rfl)
  case isFalse =>
    split
    case isTrue suspect => exact .suspect suspect .active
    case isFalse => exact .same

/-- An input given up is not active. -/
theorem InputRec.giveUp_not_active (r : InputRec) : r.giveUp.isActive = false := by
  unfold InputRec.giveUp
  repeat' split
  all_goals simp_all [InputRec.isActive]

/-- An input taken from among those the Selector may choose from is active. -/
theorem InputRec.take_active {r : InputRec} (fit : r.fit = true) : r.take.isActive = true := by
  simp only [InputRec.fit, decide_eq_true_eq] at fit
  rcases fit with h | h | h <;> simp [InputRec.take, InputRec.isActive, h]

end

/-! ### The records after an evaluation -/

/-- Every record is as it was but for the Selector's moves. -/
def SelectorMoves (s t : State) : Prop := ∀ j : Inp, SelectorMove s.records[j] t.records[j]

section

variable {s t u : State}

theorem SelectorMoves.of_eq (records : t.records = s.records) : SelectorMoves s t := fun j => by
  rw [records]
  exact .same

theorem SelectorMoves.trans (first : SelectorMoves s t) (second : SelectorMoves t u) : SelectorMoves s u :=
  fun j => (first j).trans (second j)

theorem SelectorMoves.set {i : Inp} {r : InputRec} (move : SelectorMove s.records[i] r) :
    SelectorMoves s (s.withRecord i r) := fun j => by
  rw [State.withRecord_get]
  split
  · rename_i h
    subst h
    exact move
  · exact .same

theorem SelectorMoves.recordsLawful (moves : SelectorMoves s t) (law : RecordsLawful s) : RecordsLawful t :=
  fun j => (moves j).lawful (law j)

theorem giveUpActive_moves (s : State) : SelectorMoves s (giveUpActive s) := by
  unfold giveUpActive
  split
  · rename_i a _
    exact .trans (.set (i := a) (InputRec.giveUp_selectorMove _)) (.of_eq (by simp))
  · exact .of_eq rfl

theorem computeValue_moves (l : Option Inp) (s : State) : SelectorMoves s (computeValue l s) := .of_eq (by simp)

theorem takeInput_moves (l : Option Inp) (i : Inp) (s : State) : SelectorMoves s (takeInput l i s) :=
  .trans (computeValue_moves l s) <| .trans (giveUpActive_moves _) <|
    .trans (.set (i := i) (InputRec.take_selectorMove _)) (.of_eq rfl)

theorem takeOwn_moves (l : Option Inp) (o : Output) (s : State) : SelectorMoves s (takeOwn l o s) :=
  .trans (computeValue_moves l s) <| .trans (giveUpActive_moves _) (.of_eq rfl)

theorem carryOut_moves (l : Option Inp) (d : Source) (s : State) : SelectorMoves s (carryOut l d s) := by
  rcases carryOut_cases l d s with ⟨h, -⟩ | ⟨i, -, h⟩ | ⟨-, h⟩ | ⟨-, h⟩ <;> rw [h]
  · exact .of_eq rfl
  · exact takeInput_moves _ _ _
  · exact takeOwn_moves _ _ _
  · exact takeOwn_moves _ _ _

theorem evaluate_moves (l : Option Inp) (s : State) : SelectorMoves s (evaluate l s).1 := by
  refine .trans (carryOut_moves l (decision s (l.isSome && s.selector.active.isNone)).1 s) ?_
  dsimp only [evaluate, decideAgain]
  split
  · exact carryOut_moves _ _ _
  · exact .of_eq rfl

theorem selectorTurn_moves (before : State) (must expired : Bool) (s : State) :
    SelectorMoves s (selectorTurn before must expired s) := by
  dsimp only [selectorTurn]
  split
  · exact .trans (evaluate_moves before.selector.active s) (.of_eq (by simp))
  · exact .of_eq rfl

theorem settleEvent_moves (before : State) (must expired : Bool) (s : State) :
    SelectorMoves s (settleEvent before must expired s) :=
  .trans (.of_eq (by simp)) <| .trans (selectorTurn_moves before must expired (clearBarredForce s))
    (.of_eq (by simp [settleEvent]))

end

end Sys2Proof.Machine
end


section
/-! PROOF. The laws of the Selector and the Output Follower through an event (R58, R74, R81, R85, R92, R98): what holds
while the Qualifier moves inputs, what holds as the Selector decides, and what a decision carried out restores. -/

namespace Sys2Proof.Machine

section

variable {s t before : State} {i : Inp} {leaver : Option Inp}

/-! ### The Selector gives up and takes (R56, R57, R94, R98) -/

theorem giveUpActive_selector (s : State) : (giveUpActive s).selector = { s.selector with active := none } := by
  unfold giveUpActive
  split
  · simp
  · rename_i h
    rw [← h]

theorem giveUpActive_get (s : State) (j : Inp) :
    (giveUpActive s).records[j] = if s.selector.active = some j then s.records[j].giveUp else s.records[j] := by
  unfold giveUpActive
  split <;> rename_i h
  · rw [State.withActive_records, State.withRecord_get, h]
    by_cases e : (‹Inp› : Inp) = j
    · subst e; simp
    · simp [e]
  · simp [h]

/-- Once the active input is given up, none is. -/
theorem giveUpActive_inactive (active : ActiveAgrees s) (j : Inp) : (giveUpActive s).records[j].isActive = false := by
  rw [giveUpActive_get]
  split
  · exact InputRec.giveUp_not_active _
  · rename_i h
    simpa using mt (active j).mp h

/-- Computing the value touches the value alone. -/
theorem computeValue_follower (l : Option Inp) (s : State) :
    (computeValue l s).follower = { s.follower with value := (computeValue l s).follower.value } := by
  unfold computeValue
  repeat' split
  all_goals rfl

theorem computeValue_some (i : Inp) (locked : s.follower.output = .locked) (full : s.follower.history.length = 16) :
    (computeValue (some i) s).follower.value = { valid := true, value := holdoverMean s.follower.history
                                                 base := s.records[i].effective, ageCycles := 0, source := some i } := by
  simp [computeValue, locked, full]

theorem computeValue_of_not_locked (l : Option Inp)
    (h : ¬(s.follower.output = .locked ∧ s.follower.history.length = 16)) : computeValue l s = s := by
  cases l <;> simp [computeValue, h]

/-- The value is valid afterwards exactly when it was, or has been computed. -/
theorem computeValue_valid (l : Option Inp) (s : State) : (computeValue l s).follower.value.valid =
    (s.follower.value.valid || l.isSome && decide (s.follower.output = .locked ∧ s.follower.history.length = 16)) := by
  cases l with
  | none => simp [computeValue]
  | some i =>
    by_cases h : s.follower.output = .locked ∧ s.follower.history.length = 16
    · simp [computeValue, h]
    · simp [computeValue, h]

theorem takeInput_selector (l : Option Inp) (i : Inp) (s : State) :
    (takeInput l i s).selector = { s.selector with active := some i } := by
  simp [takeInput, giveUpActive_selector]

theorem takeOwn_selector (l : Option Inp) (o : Output) (s : State) :
    (takeOwn l o s).selector = { s.selector with active := none } := by
  simp [takeOwn, giveUpActive_selector]

theorem takeOwn_follower (l : Option Inp) (o : Output) (s : State) :
    (takeOwn l o s).follower = { s.follower with
      value := (computeValue l s).follower.value, output := o, settle := none, bridging := none, history := [] } := by
  simp only [takeOwn, State.withFollower_follower, giveUpActive_follower]
  rw [computeValue_follower]

theorem takeInput_follower_of_suspect (l : Option Inp) (suspect : s.records[i].state = .suspect) :
    (takeInput l i s).follower = { s.follower with
      value := (computeValue l s).follower.value, output := .bridging, settle := none, bridging := some .acquiring
      history := [] } := by
  have kept : (takeInput l i s).records[i].state = .suspect := (takeInput_moves l i s i).suspect_iff.mpr suspect
  simp only [takeInput, State.withFollower_records] at kept
  simp only [takeInput, State.withFollower_follower, outputFor, if_pos kept, State.withActive_follower,
    State.withRecord_follower, giveUpActive_follower]
  rw [computeValue_follower]

theorem takeInput_follower_of_usable (l : Option Inp) (usable : s.records[i].state ≠ .suspect) :
    (takeInput l i s).follower = { s.follower with
      value := (computeValue l s).follower.value, output := .acquiring, settle := settleStart s, bridging := none
      history := [] } := by
  have kept : (takeInput l i s).records[i].state ≠ .suspect := mt (takeInput_moves l i s i).suspect_iff.mp usable
  simp only [takeInput, State.withFollower_records] at kept
  simp only [takeInput, State.withFollower_follower, outputFor, if_neg kept, State.withActive_follower,
    State.withRecord_follower, giveUpActive_follower]
  rw [computeValue_follower]
  simp [settleStart, cfg]

/-- The input taken is the only active one. -/
theorem takeInput_activeAgrees (l : Option Inp) (active : ActiveAgrees s) (fit : s.records[i].fit = true) :
    ActiveAgrees (takeInput l i s) := fun j => by
  have agrees : ActiveAgrees (computeValue l s) := by simpa [ActiveAgrees] using active
  have inactive := giveUpActive_inactive agrees
  have fit' : (giveUpActive (computeValue l s)).records[i].fit = true := by
    rw [(giveUpActive_moves (computeValue l s) i).fit_eq]
    simpa using fit
  rw [takeInput_selector]
  simp only [takeInput, State.withFollower_records, State.withActive_records, State.withRecord_get]
  split
  · rename_i h
    subst h
    simp [-Fin.getElem_fin, InputRec.take_active fit']
  · rename_i h
    simp [-Fin.getElem_fin, inactive j, h]

theorem takeOwn_activeAgrees (l : Option Inp) (o : Output) (active : ActiveAgrees s) :
    ActiveAgrees (takeOwn l o s) := fun j => by
  have agrees : ActiveAgrees (computeValue l s) := by simpa [ActiveAgrees] using active
  rw [takeOwn_selector]
  simp [-Fin.getElem_fin, takeOwn, giveUpActive_inactive agrees j]

/-! ### As the Selector decides -/

/-- The output follows an input: it is in none of the own-oscillator states (R92). -/
abbrev Following (o : Output) : Prop := o ≠ .freeRun ∧ o ≠ .holdover

/-- What holds as the Selector decides, in an event that began with active input `leaver`. The active input may have
been barred and given up, with the output as it was (R58). -/
structure Deciding (leaver : Option Inp) (s : State) : Prop where
  records : RecordsLawful s
  active : ActiveAgrees s
  shape : FollowerShape s.follower
  value : ValueLaw s.follower
  following : ∀ i : Inp, s.selector.active = some i →
    Following s.follower.output ∧ (s.follower.output = .bridging ↔ s.records[i].state = .suspect)
  leaver : leaver = none → ¬Following s.follower.output
  forced : ∀ f : Inp, s.selector.force = .input f → s.records[f].fit = true
  forcedOwn : s.selector.force = .holdover → available s = true

/-- What a decision names can be carried out: an input from among those the Selector may choose from, HOLDOVER with a
value available, and FREE_RUN without; and it is the force, if there is one. -/
structure Sound (d : Source) (s : State) : Prop where
  fit : ∀ i : Inp, d = .input i → s.records[i].fit = true
  available : d = .holdover → available s = true
  unavailable : d = .freeRun → Machine.available s = false
  forced : ∀ f : Inp, s.selector.force = .input f → d = .input f
  forcedOwn : s.selector.force = .holdover → d = .holdover

theorem not_following_iff (o : Output) : ¬Following o ↔ o = .freeRun ∨ o = .holdover := by
  cases o <;> simp [Following]

/-- A state that meets the law is fit for a decision. -/
theorem deciding_of_selectionLaw (records : RecordsLawful s) (law : SelectionLaw s) :
    Deciding s.selector.active s := by
  obtain ⟨active, ⟨own, bridging⟩, shape, value, force, forceOwn⟩ := law
  refine { records, active, shape, value, following := ?_, leaver := ?_, forced := ?_, forcedOwn := ?_ }
  · intro i h
    refine ⟨?_, bridging i h⟩
    have := mt own.mpr (by simp [h])
    simpa using this
  · intro h
    exact (not_following_iff _).mpr (own.mp h)
  · intro f h
    have isActive := (active f).mpr (force f h)
    simp only [InputRec.isActive, decide_eq_true_eq] at isActive
    simp only [InputRec.fit, decide_eq_true_eq]
    tauto
  · intro h
    simp [available, value.2 (forceOwn h)]

/-- With nothing eligible the own oscillator is HOLDOVER exactly when a value is available (R77). -/
theorem ownOscillator_eq (value : ValueLaw s.follower) :
    ownOscillator s = if available s = true then .holdover else .freeRun := by
  unfold ownOscillator
  cases h : s.follower.output with
  | freeRun => simp [available, value.1 h, h]
  | holdover => simp [available, value.2 h]
  | _ => simp

theorem eligible_fit (h : eligible s i = true) : s.records[i].fit = true := by
  simp [eligible] at h
  exact h.1.1

theorem bestInput_eligible (h : bestInput s = some i) : eligible s i = true :=
  (eligible_iff s i).mpr ((bestInput_eq_some_iff s i).mp h).1

theorem decision_forced {f : Inp} (barred : Bool) (h : s.selector.force = .input f) :
    (decision s barred).1 = .input f := by simp [decision, h]

theorem decision_forcedOwn (barred : Bool) (h : s.selector.force = .holdover) :
    (decision s barred).1 = .holdover := by simp [decision, h]

/-- The source decided on does not depend on whether the active input was barred in the event; its cause does. -/
theorem decision_fst (barred : Bool) : (decision s barred).1 = (decision s false).1 := by
  unfold decision
  repeat' split
  all_goals simp_all

/-- Unforced, the decision is an eligible input, or the own oscillator with none eligible. -/
theorem decision_unforced (barred : Bool) (h : s.selector.force = .none) :
    (bestInput s = none ∧ (decision s barred).1 = ownOscillator s) ∨
    ∃ i : Inp, eligible s i = true ∧ (decision s barred).1 = .input i := by
  simp only [decision, h]
  split
  case h_1 none => exact .inl ⟨none, rfl⟩
  case h_2 b best =>
    have eligibleBest := bestInput_eligible best
    right
    split
    case h_1 a active =>
      by_cases e : eligible s a = true
      · rw [if_pos e]
        unfold keepOrLeave
        repeat' split
        · exact ⟨b, eligibleBest, rfl⟩
        · exact ⟨b, eligibleBest, rfl⟩
        · exact ⟨a, e, rfl⟩
      · rw [if_neg e]
        exact ⟨b, eligibleBest, rfl⟩
    case h_2 => exact ⟨b, eligibleBest, rfl⟩

/-- A decision can be carried out. -/
theorem Deciding.sound (ready : Deciding leaver s) (barred : Bool) : Sound (decision s barred).1 s := by
  cases force : s.selector.force with
  | input f =>
    rw [decision_forced barred force]
    refine { fit := ?_, available := by simp, unavailable := by simp, forced := ?_, forcedOwn := by simp [force] }
    · rintro i ⟨⟩
      exact ready.forced f force
    · intro g h
      rw [force] at h
      injection h with h
      rw [h]
  | holdover =>
    rw [decision_forcedOwn barred force]
    exact { fit := by simp, available := fun _ => ready.forcedOwn force, unavailable := by simp
            forced := by simp [force], forcedOwn := fun _ => rfl }
  | none =>
    have noForce : ∀ f : Inp, s.selector.force ≠ .input f := by simp [force]
    rcases decision_unforced barred force with ⟨-, h⟩ | ⟨i, eligible, h⟩ <;> rw [h]
    · rw [ownOscillator_eq ready.value]
      by_cases av : available s = true
      · rw [if_pos av]
        exact { fit := by simp, available := fun _ => av, unavailable := by simp
                forced := fun f h => absurd h (noForce f), forcedOwn := by simp [force] }
      · rw [if_neg av]
        exact { fit := by simp, available := by simp, unavailable := fun _ => by simpa using av
                forced := fun f h => absurd h (noForce f), forcedOwn := by simp [force] }
    · refine { fit := ?_, available := by simp, unavailable := by simp
               forced := fun f h => absurd h (noForce f), forcedOwn := by simp [force] }
      rintro j ⟨⟩
      exact eligible_fit eligible

/-! ### A decision carried out (R81, R85, R92, R98) -/

/-- A value that is available is valid once the output has left its input (R102). -/
theorem Deciding.computeValue_valid_eq (ready : Deciding leaver s) :
    (computeValue leaver s).follower.value.valid = available s := by
  rw [computeValue_valid]
  unfold available
  cases leaver with
  | some i => simp
  | none =>
    have own := (not_following_iff _).mp (ready.leaver rfl)
    have notLocked : s.follower.output ≠ .locked := by rcases own with h | h <;> simp [h]
    simp [notLocked]

theorem Deciding.takeInput_law (ready : Deciding leaver s) (sound : Sound (.input i) s) :
    SelectionLaw (takeInput leaver i s) := by
  have fit := sound.fit i rfl
  have selector := takeInput_selector leaver i s
  have suspect := (takeInput_moves leaver i s i).suspect_iff
  refine ⟨takeInput_activeAgrees leaver ready.active fit, ?_, ?_, ?_, ?_⟩
  · refine ⟨?_, fun j h => ?_⟩
    · rw [selector]
      by_cases e : s.records[i].state = .suspect
      · simp [takeInput_follower_of_suspect leaver e]
      · simp [takeInput_follower_of_usable leaver e]
    · obtain rfl : i = j := by simpa [selector] using h
      rw [suspect]
      by_cases e : s.records[i].state = .suspect
      · simp [-Fin.getElem_fin, takeInput_follower_of_suspect leaver e, e]
      · simp [-Fin.getElem_fin, takeInput_follower_of_usable leaver e, e]
  · by_cases e : s.records[i].state = .suspect
    · simp [takeInput_follower_of_suspect leaver e, FollowerShape]
    · simp [takeInput_follower_of_usable leaver e, FollowerShape, settleStart]
  · by_cases e : s.records[i].state = .suspect
    · simp [takeInput_follower_of_suspect leaver e, ValueLaw]
    · simp [takeInput_follower_of_usable leaver e, ValueLaw]
  · refine ⟨fun f h => ?_, fun h => ?_⟩
    · have := sound.forced f (by simpa [selector] using h)
      simpa [selector] using this
    · exact absurd (sound.forcedOwn (by simpa [selector] using h)) (by simp)

theorem Deciding.takeOwn_law (ready : Deciding leaver s) {o : Output}
    (sound : o = .holdover ∧ Sound .holdover s ∨ o = .freeRun ∧ Sound .freeRun s) :
    SelectionLaw (takeOwn leaver o s) := by
  have selector := takeOwn_selector leaver o s
  have follower := takeOwn_follower leaver o s
  have valid := ready.computeValue_valid_eq
  refine ⟨takeOwn_activeAgrees leaver o ready.active, ?_, ?_, ?_, ?_⟩
  · rcases sound with ⟨rfl, -⟩ | ⟨rfl, -⟩ <;> simp [OutputAgrees, selector, follower]
  · rcases sound with ⟨rfl, -⟩ | ⟨rfl, -⟩ <;> simp [FollowerShape, follower]
  · rcases sound with ⟨rfl, sound⟩ | ⟨rfl, sound⟩
    · simp [ValueLaw, follower, valid, sound.available rfl]
    · simp [ValueLaw, follower, valid, sound.unavailable rfl]
  · rw [ForceLaw, selector, follower]
    rcases sound with ⟨rfl, sound⟩ | ⟨rfl, sound⟩
    · exact ⟨fun f h => absurd (sound.forced f h) (by simp), fun _ => rfl⟩
    · exact ⟨fun f h => absurd (sound.forced f h) (by simp), fun h => absurd (sound.forcedOwn h) (by simp)⟩

/-- A decision that is the current one leaves a lawful state. -/
theorem Deciding.law_of_current (ready : Deciding leaver s) {d : Source} (sound : Sound d s)
    (output : s.selector.active = none → ¬Following s.follower.output) (current : sourceOf s = d) :
    SelectionLaw s := by
  refine ⟨ready.active, ⟨?_, fun i h => (ready.following i h).2⟩, ready.shape, ready.value, ?_, ?_⟩
  · constructor
    · exact fun h => (not_following_iff _).mp (output h)
    · intro own
      by_contra h
      obtain ⟨i, h⟩ := Option.ne_none_iff_exists'.mp h
      exact (not_following_iff _).mpr own (ready.following i h).1
  · intro f h
    have := sound.forced f h
    rw [← current] at this
    unfold sourceOf at this
    split at this
    · rename_i a active
      injection this with e
      rw [active, e]
    · split at this <;> cases this
  · intro h
    have := sound.forcedOwn h
    rw [← current] at this
    unfold sourceOf at this
    split at this
    · cases this
    · split at this
      · assumption
      · cases this

/-- Carrying out a sound decision restores the law. -/
theorem Deciding.carryOut_law (ready : Deciding leaver s) {d : Source} (sound : Sound d s) :
    SelectionLaw (carryOut leaver d s) := by
  cases d with
  | input i =>
    by_cases h : s.selector.active = some i
    · simp only [carryOut, if_pos h]
      exact ready.law_of_current sound (by simp [h]) (by simp [sourceOf, h])
    · simp only [carryOut, if_neg h]
      exact ready.takeInput_law sound
  | holdover =>
    by_cases h : s.selector.active = none ∧ s.follower.output = .holdover
    · simp only [carryOut, if_pos h]
      exact ready.law_of_current sound (by simp [h.2, Following]) (by simp [sourceOf, h])
    · simp only [carryOut, if_neg h]
      exact ready.takeOwn_law (.inl ⟨rfl, sound⟩)
  | freeRun =>
    by_cases h : s.selector.active = none ∧ s.follower.output = .freeRun
    · simp only [carryOut, if_pos h]
      exact ready.law_of_current sound (by simp [h.2, Following]) (by simp [sourceOf, h])
    · simp only [carryOut, if_neg h]
      exact ready.takeOwn_law (.inr ⟨rfl, sound⟩)

theorem Deciding.carryOut_deciding (ready : Deciding leaver s) {d : Source} (sound : Sound d s) :
    Deciding (carryOut leaver d s).selector.active (carryOut leaver d s) :=
  deciding_of_selectionLaw ((carryOut_moves leaver d s).recordsLawful ready.records) (ready.carryOut_law sound)

/-- An evaluation restores the law. -/
theorem Deciding.evaluate_law (ready : Deciding leaver s) : SelectionLaw (evaluate leaver s).1 := by
  dsimp only [evaluate, decideAgain]
  have sound := ready.sound (leaver.isSome && s.selector.active.isNone)
  split
  · have again := ready.carryOut_deciding sound
    exact again.carryOut_law (again.sound false)
  · exact ready.carryOut_law sound

/-! ### While the Qualifier moves inputs (R58) -/

/-- The laws speak of the records, the Selector and the Output Follower alone. -/
theorem selectionLaw_congr (records : t.records = s.records) (selector : t.selector = s.selector)
    (follower : t.follower = s.follower) : SelectionLaw t ↔ SelectionLaw s := by
  simp only [SelectionLaw, ActiveAgrees, OutputAgrees, ForceLaw, records, selector, follower]

theorem recordsLawful_congr (records : t.records = s.records) : RecordsLawful t ↔ RecordsLawful s := by
  simp only [RecordsLawful, records]

/-- What holds of the records and the Selector in an event that began in `before`, while the Qualifier moves inputs: the
active input may have become BARRED, and is then given up, with a force that names it as it was. -/
structure MidRecords (before s : State) : Prop where
  records : RecordsLawful s
  active : ActiveAgrees s
  source : s.selector.active = before.selector.active ∨ s.selector.active = none ∧ ∃ a : Inp,
    before.selector.active = some a ∧ before.records[a].state ≠ .barred ∧ s.records[a].state = .barred
  forced : ∀ f : Inp, s.selector.force = .input f → s.selector.active = some f ∨
    before.records[f].state ≠ .barred ∧ s.records[f].state = .barred

/-- What holds of the Output Follower in such an event: it follows an input that is active, and otherwise stands as it
was. -/
structure MidOutput (before s : State) : Prop where
  shape : FollowerShape s.follower
  value : ValueLaw s.follower
  following : ∀ i : Inp, s.selector.active = some i →
    Following s.follower.output ∧ (s.follower.output = .bridging ↔ s.records[i].state = .suspect)
  own : before.selector.active = none → ¬Following s.follower.output
  forcedOwn : s.selector.force = .holdover → s.follower.output = .holdover

structure MidEvent (before s : State) : Prop extends MidRecords before s, MidOutput before s

theorem MidEvent.begin (records : RecordsLawful s) (law : SelectionLaw s) : MidEvent s s := by
  have ready := deciding_of_selectionLaw records law
  obtain ⟨-, -, -, -, force, forceOwn⟩ := law
  exact { ready with source := .inl rfl, own := ready.leaver, forced := fun f h => .inl (force f h)
                     forcedOwn := forceOwn }

theorem MidRecords.congr (mid : MidRecords before s) (records : t.records = s.records)
    (selector : t.selector = s.selector) : MidRecords before t := by
  obtain ⟨h1, h2, h3, h4⟩ := mid
  constructor <;> simp only [RecordsLawful, ActiveAgrees, records, selector] <;> assumption

theorem MidEvent.congr (mid : MidEvent before s) (records : t.records = s.records)
    (selector : t.selector = s.selector) (follower : t.follower = s.follower) : MidEvent before t := by
  obtain ⟨first, h3, h4, h5, h6, h7⟩ := mid
  refine ⟨first.congr records selector, ?_⟩
  constructor <;> simp only [records, selector, follower] <;> assumption

/-- A property of every record, from the one put in place and the others. -/
theorem State.withRecord_forall {P : Inp → InputRec → Prop} {r : InputRec} (here : P i r)
    (others : ∀ j : Inp, j ≠ i → P j s.records[j]) (j : Inp) : P j (s.withRecord i r).records[j] := by
  rw [State.withRecord_get]
  split
  · rename_i h
    exact h ▸ here
  · rename_i h
    exact others j (Ne.symm h)

/-- A record put in the place of `r` leaves the active input as it stands, and brings none out of BARRED that the event
had barred. -/
structure Quiet (before : State) (i : Inp) (r r' : InputRec) : Prop where
  active : r'.isActive = r.isActive
  barred : r.state = .barred → before.records[i].state ≠ .barred → r'.state = .barred

theorem Quiet.of_standing {r r' : InputRec} (state : r'.state = r.state) (origin : r'.origin = r.origin) :
    Quiet before i r r' :=
  ⟨by simp [InputRec.isActive, state, origin], fun h _ => by rw [state, h]⟩

/-- Inputs that the event has barred stay BARRED. -/
theorem Quiet.stays_barred {r : InputRec} (quiet : Quiet before i s.records[i] r) (j : Inp)
    (notBarred : before.records[j].state ≠ .barred) (barred : s.records[j].state = .barred) :
    (s.withRecord i r).records[j].state = .barred :=
  State.withRecord_forall
    (P := fun j r => s.records[j].state = .barred → before.records[j].state ≠ .barred → r.state = .barred)
    quiet.barred (fun _ _ h _ => h) j barred notBarred

theorem MidRecords.withRecord (mid : MidRecords before s) {r : InputRec} (quiet : Quiet before i s.records[i] r)
    (law : RecordLaw r) : MidRecords before (s.withRecord i r) where
  records := State.withRecord_forall law fun j _ => mid.records j
  active := State.withRecord_forall (P := fun j r => r.isActive = true ↔ s.selector.active = some j)
    (by rw [quiet.active]; exact mid.active i) fun j _ => mid.active j
  source := mid.source.imp_right fun ⟨lost, a, active, notBarred, barred⟩ =>
    ⟨lost, a, active, notBarred, quiet.stays_barred a notBarred barred⟩
  forced := fun f h => (mid.forced f h).imp_right fun ⟨notBarred, barred⟩ =>
    ⟨notBarred, quiet.stays_barred f notBarred barred⟩

/-- A record other than that of the active input, or one that stays SUSPECT or not. -/
theorem MidOutput.withRecord (mid : MidOutput before s) {r : InputRec}
    (suspect : s.selector.active = some i → (r.state = .suspect ↔ s.records[i].state = .suspect)) :
    MidOutput before (s.withRecord i r) where
  shape := mid.shape
  value := mid.value
  following := State.withRecord_forall
    (P := fun j r => s.selector.active = some j →
      Following s.follower.output ∧ (s.follower.output = .bridging ↔ r.state = .suspect))
    (fun h => by rw [suspect h]; exact mid.following i h)
    fun j _ => mid.following j
  own := mid.own
  forcedOwn := mid.forcedOwn

theorem MidEvent.withRecord (mid : MidEvent before s) {r : InputRec} (quiet : Quiet before i s.records[i] r)
    (suspect : s.selector.active = some i → (r.state = .suspect ↔ s.records[i].state = .suspect))
    (law : RecordLaw r) : MidEvent before (s.withRecord i r) :=
  ⟨mid.toMidRecords.withRecord quiet law, mid.toMidOutput.withRecord suspect⟩

/-- The active input is barred: the Selector has none, and the output stands until it decides (R58). -/
theorem MidEvent.barActive (mid : MidEvent before s) {r : InputRec} (active : s.records[i].isActive = true)
    (law : RecordLaw r) (barred : r.state = .barred) (fresh : before.records[i].state ≠ .barred) :
    MidEvent before ((s.withRecord i r).withActive none) := by
  have current := (mid.active i).mp active
  have others : ∀ j : Inp, j ≠ i → s.records[j].isActive = false := fun j h => by
    simpa [current, Ne.symm h] using mt (mid.active j).mp
  have stays : ∀ j : Inp, s.records[j].state = .barred → (s.withRecord i r).records[j].state = .barred :=
    State.withRecord_forall (P := fun j r => s.records[j].state = .barred → r.state = .barred) (fun _ => barred)
      (fun _ _ h => h)
  refine { records := State.withRecord_forall law fun j _ => mid.records j, active := ?_, shape := mid.shape
           value := mid.value, following := by simp, source := .inr ⟨rfl, i, ?_, fresh, by simpa using barred⟩
           own := mid.own, forced := ?_, forcedOwn := mid.forcedOwn }
  · refine State.withRecord_forall (P := fun j r => r.isActive = true ↔ _ = some j) ?_ fun j h => ?_
    · simp [InputRec.isActive, barred]
    · simp [-Fin.getElem_fin, others j h]
  · rcases mid.source with h | ⟨h, -⟩
    · rw [← h, current]
    · simp [current] at h
  · intro f h
    right
    rcases mid.forced f h with g | ⟨notBarred, g⟩
    · obtain rfl : i = f := by simpa [current] using g
      exact ⟨fresh, by simpa using barred⟩
    · exact ⟨notBarred, stays f g⟩

/-- What entering BRIDGING makes of the Output Follower (R96). -/
theorem enterBridging_follower (i : Inp) (s : State) : (enterBridging i s).follower = { s.follower with
    value := (computeValue (some i) s).follower.value, output := .bridging, settle := none
    bridging := some (if s.follower.output = .locked then .locked else .acquiring) } := by
  simp only [enterBridging, State.withFollower_follower]
  rw [computeValue_follower]

theorem leaveBridging_follower (s : State) : (leaveBridging s).follower =
    if s.follower.bridging = some .locked then { s.follower with output := .locked, bridging := none }
    else { s.follower with output := .acquiring, bridging := none, settle := settleStart s } := by
  unfold leaveBridging
  split <;> rfl

/-- What the Output Follower becomes while the active input `i` is suspended or resumed. -/
theorem MidOutput.followed (mid : MidOutput before s) (current : s.selector.active = some i)
    (selector : t.selector = s.selector) (following : Following t.follower.output)
    (source : before.selector.active ≠ none) (shape : FollowerShape t.follower)
    (bridging : t.follower.output = .bridging ↔ t.records[i].state = .suspect) : MidOutput before t where
  shape := shape
  value := ⟨fun h => absurd h following.1, fun h => absurd h following.2⟩
  following := fun j h => by
    obtain rfl : i = j := by simpa [selector, current] using h
    exact ⟨following, bridging⟩
  own := fun h => absurd h source
  forcedOwn := fun h => absurd (mid.forcedOwn (selector ▸ h)) (mid.following i current).1.2

theorem MidRecords.source_ne_none (mid : MidRecords before s) (current : s.selector.active = some i) :
    before.selector.active = some i := by
  rcases mid.source with h | ⟨h, -⟩
  · rw [← h, current]
  · simp [current] at h

/-- The active input is suspended, and the output bridges (R48, R96). -/
theorem MidEvent.suspendActive (mid : MidEvent before s) {r : InputRec} (state : s.records[i].state = .active)
    (law : RecordLaw r) (suspect : r.state = .suspect) (origin : r.origin = some .active) :
    MidEvent before (enterBridging i (s.withRecord i r)) := by
  have isActive : s.records[i].isActive = true := decide_eq_true (.inl state)
  have current := (mid.active i).mp isActive
  have ⟨following, bridging⟩ := mid.following i current
  have notBridging : s.follower.output ≠ .bridging := fun h =>
    absurd (state.symm.trans (bridging.mp h)) (by decide)
  obtain ⟨history, -, -⟩ := mid.shape
  have quiet : Quiet before i s.records[i] r :=
    ⟨by rw [isActive]; exact decide_eq_true (.inr ⟨suspect, origin⟩), fun h => by rw [state] at h; cases h⟩
  refine ⟨(mid.toMidRecords.withRecord quiet law).congr (by simp) (by simp), ?_⟩
  refine mid.toMidOutput.followed current (by simp) ?_ (by simp [mid.source_ne_none current]) ?_ ?_
  · simp [enterBridging_follower, Following]
  · rw [enterBridging_follower]
    cases h : s.follower.output <;> simp_all [FollowerShape, Following]
  · simp [enterBridging_follower, suspect]

/-- The active input returns, and the output leaves BRIDGING (R50, R97). -/
theorem MidEvent.resumeActive (mid : MidEvent before s) {r : InputRec} (state : s.records[i].state = .suspect)
    (origin : s.records[i].origin = some .active) (law : RecordLaw r) (active : r.state = .active) :
    MidEvent before (leaveBridging (s.withRecord i r)) := by
  have isActive : s.records[i].isActive = true := decide_eq_true (.inr ⟨state, origin⟩)
  have current := (mid.active i).mp isActive
  have bridging := (mid.following i current).2.mpr state
  obtain ⟨history, settle, bridgingOrigin⟩ := mid.shape
  have quiet : Quiet before i s.records[i] r :=
    ⟨by rw [isActive]; exact decide_eq_true (.inl active), fun h => by rw [state] at h; cases h⟩
  refine ⟨(mid.toMidRecords.withRecord quiet law).congr (by simp) (by simp), ?_⟩
  refine mid.toMidOutput.followed current (by simp) ?_ (by simp [mid.source_ne_none current]) ?_ ?_
  · rw [leaveBridging_follower]
    split <;> simp [Following]
  · rw [leaveBridging_follower]
    have noSettle : s.follower.settle = none := by simpa [bridging] using settle
    split
    · simp [FollowerShape, noSettle]
    · rename_i h
      have acquiring : s.follower.bridging = some .acquiring := by
        cases o : s.follower.bridging with
        | none => simp [o, bridging] at bridgingOrigin
        | some o' => cases o' <;> simp_all
      simp [FollowerShape, settleStart, history (.inr (.inr (.inr acquiring)))]
  · rw [leaveBridging_follower]
    split <;> simp [active]

/-! ### A move of the Qualifier put in place (R58) -/

theorem InputRec.isActive_eq_false {r : InputRec}
    (h : r.state ≠ .active ∧ (r.state ≠ .suspect ∨ r.origin ≠ some .active)) : r.isActive = false :=
  decide_eq_false (by tauto)

theorem InputRec.resume_active (r : InputRec) (h : r.origin = some .active) : r.resume.state = .active := by
  simp [InputRec.resume, h]

theorem InputRec.resume_ready (r : InputRec) (h : r.origin ≠ some .active) : r.resume.state = .ready := by
  unfold InputRec.resume
  split <;> simp_all

section

variable {c : InputCfg} {full : Bool} {x : Reasons} {m : InputRec × Notice}

theorem applyMove_eq (i : Inp) (m : InputRec × Notice) (s : State) :
    applyMove i m s = followMove i s.records[i] m.1 (logNotice i m.1 m.2 (s.withRecord i m.1)) := rfl

/-- A move that neither suspends, resumes nor bars the active input leaves the Selector and the output alone. -/
theorem followMove_quiet {r r' : InputRec} (suspends : ¬(r.state = .active ∧ r'.state = .suspect))
    (resumes : ¬(r.state = .suspect ∧ r'.state = .active)) (bars : ¬(r.isActive = true ∧ r'.state = .barred)) :
    followMove i r r' s = s := by
  simp only [followMove, if_neg suspends, if_neg resumes, if_neg bars]

/-- A quiet move put in place. -/
theorem MidEvent.applyQuiet (mid : MidEvent before s) (quiet : Quiet before i s.records[i] m.1) (law : RecordLaw m.1)
    (suspect : s.records[i].isActive = true → (m.1.state = .suspect ↔ s.records[i].state = .suspect)) :
    MidEvent before (applyMove i m s) := by
  have put := mid.withRecord quiet (fun h => suspect ((mid.active i).mpr h)) law
  rw [applyMove_eq, followMove_quiet]
  · exact put.congr (by simp) (by simp) (by simp)
  · rintro ⟨active, suspended⟩
    have isActive : s.records[i].isActive = true := decide_eq_true (.inl active)
    exact absurd (active.symm.trans ((suspect isActive).mp suspended)) (by decide)
  · rintro ⟨suspended, active⟩
    have isActive : m.1.isActive = true := decide_eq_true (.inl active)
    rw [quiet.active] at isActive
    exact absurd (active.symm.trans ((suspect isActive).mpr suspended)) (by decide)
  · rintro ⟨isActive, barred⟩
    rw [← quiet.active] at isActive
    simp [InputRec.isActive, barred] at isActive

/-- A move of an input that is not active, and does not become so. -/
theorem MidEvent.applyInactive (mid : MidEvent before s) (law : RecordLaw m.1) (inactive : s.records[i].isActive = false)
    (inactive' : m.1.isActive = false)
    (barred : s.records[i].state = .barred → before.records[i].state ≠ .barred → m.1.state = .barred) :
    MidEvent before (applyMove i m s) :=
  mid.applyQuiet ⟨inactive'.trans inactive.symm, barred⟩ law fun h => absurd (inactive.symm.trans h) (by decide)

/-- The laws through a move of the Qualifier, of an input that the event has not moved before. -/
theorem MidEvent.applyMove (mid : MidEvent before s) (untouched : s.records[i].state = before.records[i].state)
    (moved : s.records[i].Moved c full x m) : MidEvent before (applyMove i m s) := by
  have law := moved.lawful (mid.records i)
  have wasBarred {r' : InputRec} :
      s.records[i].state = .barred → before.records[i].state ≠ .barred → r'.state = .barred :=
    fun h g => absurd (untouched ▸ h) g
  cases moved with
  | off | kept | joins => exact mid.applyQuiet (.of_standing rfl rfl) law fun _ => Iff.rfl
  | proves state | provesAndPasses state | passes state | suspendsReady state =>
    exact mid.applyInactive law (InputRec.isActive_eq_false (by simp [-Fin.getElem_fin, state])) rfl wasBarred
  | suspendsActive state =>
    rw [applyMove_eq, followMove, if_pos ⟨state, rfl⟩]
    exact mid.suspendActive state law rfl rfl
  | resumes state =>
    by_cases origin : s.records[i].origin = some .active
    · rw [applyMove_eq, followMove, if_neg (by simp [-Fin.getElem_fin, state]), if_pos ⟨state, s.records[i].resume_active origin⟩]
      exact mid.resumeActive state origin law (s.records[i].resume_active origin)
    · exact mid.applyInactive law (InputRec.isActive_eq_false (by simp [-Fin.getElem_fin, state, origin]))
        (InputRec.isActive_eq_false (by simp [-Fin.getElem_fin, s.records[i].resume_ready origin])) wasBarred
  | bars on notBarred =>
    by_cases active : s.records[i].isActive = true
    · rw [applyMove_eq, followMove, if_neg (by simp [InputRec.bar]), if_neg (by simp [InputRec.bar]),
        if_pos ⟨active, rfl⟩]
      exact (mid.barActive active law rfl (untouched ▸ notBarred)).congr (by simp) (by simp) (by simp)
    · exact mid.applyInactive law (by simpa using active) rfl fun _ _ => rfl

theorem MidEvent.qualify (mid : MidEvent before s) (untouched : s.records[i].state = before.records[i].state)
    (x : Reasons) : MidEvent before (qualify i x s) :=
  mid.applyMove untouched (InputRec.move_moved (mid.records i))

/-- Moves of other inputs leave a record. -/
theorem applyMove_get (i j : Inp) (m : InputRec × Notice) (s : State) :
    (Machine.applyMove i m s).records[j] = if i = j then m.1 else s.records[j] := by
  rw [applyMove_eq, followMove_records, logNotice_records, State.withRecord_get]

theorem qualify_get (i j : Inp) (x : Reasons) (s : State) : (Machine.qualify i x s).records[j] =
    if i = j then (s.records[i].move (inputCfg s i) (windowFull s i) x).1 else s.records[j] :=
  applyMove_get ..

/-- The record with the grade, path and hop count of its bound entry, before the Qualifier moves it (R3 to R6). -/
def regraded (s : State) (i : Inp) : InputRec :=
  { s.records[i] with
    raw := peerRaw (entryOf s (inputCfg s i).bound)
    effective := max (peerRaw (entryOf s (inputCfg s i).bound)) (inputCfg s i).ceiling
    hop := (peerPath (entryOf s (inputCfg s i).bound)).length
    path := peerPath (entryOf s (inputCfg s i).bound) }

/-- The reasons of a PEER input after a change of its bound entry (R59, R60). -/
def regradedReasons (s : State) (i : Inp) : Reasons :=
  pathReasons s.loader.ownAddress (regraded s i).effective (regraded s i).path s.records[i].reasons

theorem recompute_eq (i : Inp) (s : State) :
    recompute i s = Machine.qualify i (regradedReasons s i) (s.withRecord i (regraded s i)) := rfl

theorem regraded_lawful (law : RecordLaw s.records[i]) : RecordLaw (regraded s i) := law

theorem MidEvent.recompute (mid : MidEvent before s) (untouched : s.records[i].state = before.records[i].state) :
    MidEvent before (recompute i s) := by
  rw [recompute_eq]
  refine (mid.withRecord (i := i) (r := regraded s i) (.of_standing rfl rfl) (fun _ => Iff.rfl)
    (regraded_lawful (mid.records i))).qualify ?_ _
  rw [State.withRecord_self]
  exact untouched

theorem recompute_get_of_ne {i j : Inp} (h : i ≠ j) (s : State) : (Machine.recompute i s).records[j] = s.records[j] := by
  rw [recompute_eq, qualify_get, if_neg h, State.withRecord_get, if_neg h]

theorem recomputeBound_eq (a : Nat) (s : State) : recomputeBound a s =
    (List.finRange 6).foldl (fun t i => if boundTo s a i then Machine.recompute i t else t) s := rfl

/-- The inputs bound to a station move one after the other, each once. -/
theorem MidEvent.recomputeList (p : Inp → Bool) : ∀ (inputs : List Inp) {s : State}, inputs.Nodup →
    MidEvent before s → (∀ i ∈ inputs, s.records[i].state = before.records[i].state) →
    MidEvent before (inputs.foldl (fun t i => if p i then Machine.recompute i t else t) s)
  | [], _, _, mid, _ => mid
  | i :: inputs, s, distinct, mid, untouched => by
    obtain ⟨absent, distinct'⟩ := List.nodup_cons.mp distinct
    rw [List.foldl_cons]
    refine recomputeList p inputs distinct' ?_ fun j mem => ?_
    · split
      · exact mid.recompute (untouched i List.mem_cons_self)
      · exact mid
    · have other : i ≠ j := fun h => absent (h ▸ mem)
      have same := untouched j (List.mem_cons_of_mem _ mem)
      split
      · rw [recompute_get_of_ne other, same]
      · exact same

theorem MidEvent.recomputeBound (mid : MidEvent before s)
    (untouched : ∀ i : Inp, s.records[i].state = before.records[i].state) (a : Nat) :
    MidEvent before (recomputeBound a s) :=
  .recomputeList _ _ (List.nodup_finRange 6) mid fun i _ => untouched i

end

/-! ### The end of an event (R58, R78, R81, R86) -/

theorem evaluationDue_eq_false_iff (before s : State) : evaluationDue before s = false ↔
    (∀ i : Inp, before.records[i].state = s.records[i].state ∧ before.records[i].origin = s.records[i].origin ∧
      before.records[i].effective = s.records[i].effective ∧ before.records[i].hop = s.records[i].hop ∧
      ¬(boundGroup before i = some true ∧ boundGroup s i = some false) ∧
      ¬(boundGroup before i = some false ∧ boundGroup s i = some true)) ∧
    ownGrade before = ownGrade s ∧ before.selector.force = s.selector.force := by
  simp [evaluationDue, List.any_eq_false, -Fin.getElem_fin, and_assoc]

theorem clearBarredForce_selector (s : State) : (clearBarredForce s).selector = { s.selector with
    force := if ∃ f : Inp, s.selector.force = .input f ∧ s.records[f].state = .barred then .none
      else s.selector.force } := by
  unfold clearBarredForce
  split
  · rename_i f h
    by_cases barred : s.records[f].state = .barred
    · simp [-Fin.getElem_fin, barred, h]
    · simp [-Fin.getElem_fin, barred, h]
      rw [← h]
  · rename_i h
    simp [h]
    rw [← h]
  · rename_i h
    simp [h]
    rw [← h]

/-- When the Qualifier has finished, and a force that names a barred input is gone, the Selector can decide. -/
theorem MidEvent.deciding (mid : MidEvent before s) : Deciding before.selector.active (clearBarredForce s) := by
  have selector := clearBarredForce_selector s
  refine { records := (recordsLawful_congr (by simp)).mpr mid.records, active := ?_, shape := by simpa using mid.shape
           value := by simpa using mid.value, following := ?_, leaver := by simpa using mid.own, forced := ?_
           forcedOwn := ?_ }
  · simpa [ActiveAgrees, -Fin.getElem_fin, selector] using mid.active
  · simpa [-Fin.getElem_fin, selector] using mid.following
  · intro f h
    rw [selector] at h
    split at h
    · cases h
    · rename_i notBarred
      rcases mid.forced f h with g | ⟨-, g⟩
      · have isActive := (mid.active f).mpr g
        simp only [InputRec.isActive, decide_eq_true_eq] at isActive
        simp only [clearBarredForce_records, InputRec.fit, decide_eq_true_eq]
        tauto
      · exact absurd ⟨f, h, g⟩ notBarred
  · intro h
    rw [selector] at h
    split at h
    · cases h
    · have holdover := mid.forcedOwn h
      simp [available, mid.value.2 holdover]

/-- Where nothing that the decision reads has changed, the event has barred no active input, and the law stands. -/
theorem MidEvent.law_of_not_due (mid : MidEvent before s) (idle : evaluationDue before (clearBarredForce s) = false) :
    SelectionLaw (clearBarredForce s) := by
  have ready := mid.deciding
  have selector := clearBarredForce_selector s
  obtain ⟨same, -, force⟩ := (evaluationDue_eq_false_iff _ _).mp idle
  have state : ∀ j : Inp, before.records[j].state = s.records[j].state := fun j => by simpa using (same j).1
  have source : s.selector.active = before.selector.active := by
    rcases mid.source with h | ⟨-, a, -, notBarred, barred⟩
    · exact h
    · exact absurd (state a ▸ barred) notBarred
  refine ⟨ready.active, ⟨?_, fun i h => (ready.following i h).2⟩, ready.shape, ready.value, ?_, ?_⟩
  · constructor
    · intro h
      refine (not_following_iff _).mp (ready.leaver ?_)
      rw [← source]
      simpa [selector] using h
    · intro own
      by_contra h
      obtain ⟨i, h⟩ := Option.ne_none_iff_exists'.mp h
      exact (not_following_iff _).mpr own (ready.following i h).1
  · intro f h
    rw [selector] at h ⊢
    split at h
    · cases h
    · rcases mid.forced f h with g | ⟨notBarred, barred⟩
      · exact g
      · exact absurd (state f ▸ barred) notBarred
  · intro h
    rw [selector] at h
    split at h
    · cases h
    · simpa using mid.forcedOwn h

theorem selectorTurn_of_due (before : State) (must expired : Bool) (s : State)
    (due : must = true ∨ evaluationDue before s = true) : selectorTurn before must expired s =
      logSwitch before (if expired then .expired else (evaluate before.selector.active s).2)
        (evaluate before.selector.active s).1 := by
  have : (must || evaluationDue before s) = true := by simpa using due
  simp only [selectorTurn, this, if_true]

theorem selectorTurn_of_not_due (before : State) (expired : Bool) (s : State)
    (idle : evaluationDue before s = false) : selectorTurn before false expired s = s := by
  simp [selectorTurn, idle]

/-- The laws at the end of an event: restored by the evaluation, or untouched where none is due. -/
theorem settleEvent_law (must expired : Bool) (ready : Deciding before.selector.active (clearBarredForce s))
    (idle : must = false → evaluationDue before (clearBarredForce s) = false → SelectionLaw (clearBarredForce s)) :
    RecordsLawful (settleEvent before must expired s) ∧ SelectionLaw (settleEvent before must expired s) := by
  constructor
  · exact (settleEvent_moves before must expired s).recordsLawful
      ((recordsLawful_congr (s := clearBarredForce s) (by simp)).mpr ready.records)
  · rw [selectionLaw_congr (s := selectorTurn before must expired (clearBarredForce s)) (by simp [settleEvent])
      (by simp [settleEvent]) (by simp [settleEvent])]
    by_cases due : must = true ∨ evaluationDue before (clearBarredForce s) = true
    · rw [selectorTurn_of_due _ _ _ _ due]
      exact (selectionLaw_congr (by simp) (by simp) (by simp)).mpr ready.evaluate_law
    · simp only [not_or, Bool.not_eq_true] at due
      obtain ⟨rfl, notDue⟩ := due
      rw [selectorTurn_of_not_due _ _ _ notDue]
      exact idle rfl notDue

theorem MidEvent.settle (mid : MidEvent before s) (must expired : Bool) :
    RecordsLawful (settleEvent before must expired s) ∧ SelectionLaw (settleEvent before must expired s) :=
  settleEvent_law must expired mid.deciding fun _ => mid.law_of_not_due

end

end Sys2Proof.Machine
end


section
/-! PROOF. O45: the clamped image, field by field (R170 to R172). -/

namespace Sys2Proof.Machine

section

/-! ### Clamps -/

theorem clampTo_range {low high : Nat} (n : Nat) (h : low ≤ high) : low ≤ clampTo low high n ∧ clampTo low high n ≤ high := by
  unfold clampTo
  omega

theorem altered_le (a b : Nat) : altered a b ≤ 1 := by
  unfold altered
  split <;> omega

theorem countP_altered (fields : List (Nat × Nat)) :
    fields.countP (fun f => f.1 ≠ f.2) = (fields.map fun f => altered f.1 f.2).sum := by
  induction fields with
  | nil => rfl
  | cons f fields ih =>
    rw [List.countP_cons, List.map_cons, List.sum_cons, ih, altered]
    by_cases h : f.1 = f.2
    · simp [h]
    · simp [h]
      omega

theorem byteAt_lt (bytes : List Byte) (k : Nat) : byteAt bytes k < 256 := (bytes.getD k 0).isLt

theorem word3_lt (bytes : List Byte) (k : Nat) : word3 bytes k < 16777216 := by
  have h0 := byteAt_lt bytes k
  have h1 := byteAt_lt bytes (k + 1)
  have h2 := byteAt_lt bytes (k + 2)
  unfold word3 word2
  omega

theorem word2_eq (bytes : List Byte) (k : Nat) : word2 bytes k = byteAt bytes k * 256 + byteAt bytes (k + 1) := rfl

theorem word3_eq (bytes : List Byte) (k : Nat) : word3 bytes k =
    byteAt bytes k * 65536 + byteAt bytes (k + 1) * 256 + byteAt bytes (k + 2) := by
  unfold word3 word2
  omega

theorem word4_eq (bytes : List Byte) (k : Nat) : word4 bytes k =
    byteAt bytes k * 16777216 + byteAt bytes (k + 1) * 65536 + byteAt bytes (k + 2) * 256 + byteAt bytes (k + 3) := by
  unfold word4
  rw [word3_eq]
  omega

/-! ### One input (R171) -/

variable {own : Nat} {image : List Byte} {k : Nat}

/-- The first stage by its cases: OFF kept, OFF by a clamp, FIXED, or PEER with a station that is not the own. -/
theorem settleUse_cases (own code bound : Nat) :
    code = 0 ∧ settleUse own code bound = (.off, 0) ∨
    (2 < code ∨ code = 2 ∧ (bound = 0 ∨ 24 < bound ∨ bound = own)) ∧ settleUse own code bound = (.off, 1) ∨
    code = 1 ∧ settleUse own code bound = (.fixed, 0) ∨
    code = 2 ∧ (1 ≤ bound ∧ bound ≤ 24 ∧ bound ≠ own) ∧ settleUse own code bound = (.peer, 0) := by
  unfold settleUse useOfCode
  rcases lt_or_ge 2 code with high | low
  · have : code ≠ 0 ∧ code ≠ 1 ∧ code ≠ 2 := by omega
    simp [this, high]
  · interval_cases code
    · simp
    · simp
    · by_cases bad : bound = 0 ∨ 24 < bound ∨ bound = own
      · simp [bad]
      · refine .inr (.inr (.inr ⟨rfl, by omega, ?_⟩))
        simp [bad]

theorem readInput_use (own : Nat) (image : List Byte) (k : Nat) :
    (readInput own image k).1.use = (settleUse own (byteAt image k) (byteAt image (k + 6))).1 := by
  unfold readInput
  dsimp only
  split <;> rfl

theorem readInput_off (off : (settleUse own (byteAt image k) (byteAt image (k + 6))).1 = .off) :
    (readInput own image k).2 = (settleUse own (byteAt image k) (byteAt image (k + 6))).2 := by
  unfold readInput
  dsimp only
  rw [if_pos off]

theorem useRead_readInput (own : Nat) (image : List Byte) (k : Nat) : UseRead own image k (readInput own image k).1.use := by
  rw [readInput_use]
  rcases settleUse_cases own (byteAt image k) (byteAt image (k + 6)) with
    ⟨code, eq⟩ | ⟨code, eq⟩ | ⟨code, eq⟩ | ⟨code, bound, eq⟩ <;> rw [eq]
  · exact ⟨fun _ => rfl, fun h => by omega, fun _ _ => rfl, fun h => by omega⟩
  · exact ⟨fun _ => rfl, fun h => by omega, fun _ _ => rfl, fun h _ _ _ => by omega⟩
  · exact ⟨fun h => by omega, fun _ => rfl, fun h => by omega, fun h => by omega⟩
  · refine ⟨?_, ?_, ?_, fun _ _ _ _ => rfl⟩ <;> (intros; exfalso; omega)

theorem losModeOfCode_iff (code : Nat) :
    (losModeOfCode code = .activeHigh ↔ code = 1) ∧ (losModeOfCode code = .activeLow ↔ code = 2) := by
  unfold losModeOfCode
  split
  · simp_all
  · split <;> simp_all

theorem inputRead_readInput (on : (readInput own image k).1.use ≠ .off) : InputRead image k (readInput own image k).1 := by
  rw [readInput_use] at on
  have modes := losModeOfCode_iff (byteAt image (k + 12))
  simp only [readInput, if_neg on, clampTo, word2_eq, word4_eq, Nat.zero_max]
  exact ⟨rfl, rfl, rfl, rfl, rfl, rfl, rfl, modes⟩

theorem inputInRange_readInput (own : Nat) (image : List Byte) (k : Nat) : InputInRange (readInput own image k).1 := by
  intro on
  obtain ⟨freq, fixedGrade, bound, ceiling, priority, holdOff, wtr, -⟩ := inputRead_readInput on
  refine ⟨?_, ?_, ?_, ?_, ?_, by omega, by omega⟩
  · exact freq ▸ clampTo_range _ (by norm_num)
  · exact fixedGrade ▸ clampTo_range _ (by norm_num)
  rotate_left
  · exact ceiling ▸ clampTo_range _ (by norm_num)
  · exact priority ▸ clampTo_range _ (by norm_num)
  have use := readInput_use own image k
  rcases settleUse_cases own (byteAt image k) (byteAt image (k + 6)) with
    ⟨-, eq⟩ | ⟨-, eq⟩ | ⟨-, eq⟩ | ⟨-, station, eq⟩ <;> rw [eq] at use
  · exact absurd use on
  · exact absurd use on
  · rw [bound, use]
    split <;> simp_all
  · rw [bound, use, if_neg (by simp)]
    exact station.2.1

theorem bound_readInput (peer : (readInput own image k).1.use = .peer) :
    1 ≤ (readInput own image k).1.bound ∧ (readInput own image k).1.bound ≠ own := by
  obtain ⟨-, -, bound, -⟩ := inputRead_readInput (own := own) (image := image) (k := k) (by simp [peer])
  have use := readInput_use own image k
  rw [bound, peer, if_neg (by simp)]
  rcases settleUse_cases own (byteAt image k) (byteAt image (k + 6)) with
    ⟨-, eq⟩ | ⟨-, eq⟩ | ⟨-, eq⟩ | ⟨-, station, eq⟩ <;> rw [eq, peer] at use
  · cases use
  · cases use
  · cases use
  · omega

theorem altered_readInput (own : Nat) (image : List Byte) (k : Nat) :
    (readInput own image k).2 = inputAltered image k (readInput own image k).1 := by
  by_cases off : (readInput own image k).1.use = .off
  · have used := readInput_use own image k ▸ off
    rw [readInput_off used, inputAltered, if_pos off]
    rcases settleUse_cases own (byteAt image k) (byteAt image (k + 6)) with
      ⟨code, eq⟩ | ⟨code, eq⟩ | ⟨code, eq⟩ | ⟨code, -, eq⟩ <;> rw [eq] at used ⊢
    · rw [if_pos code]
    · rw [if_neg (by omega)]
    · cases used
    · cases used
  · rw [inputAltered, if_neg off, countP_altered]
    have on := readInput_use own image k ▸ off
    simp only [readInput, if_neg on, losModeAltered, List.map_cons, List.map_nil, List.sum_cons, List.sum_nil]
    omega

theorem readInput_altered_le (own : Nat) (image : List Byte) (k : Nat) : (readInput own image k).2 ≤ 8 := by
  rw [altered_readInput, inputAltered]
  split
  · split <;> omega
  · have := List.countP_le_length (p := fun f : Nat × Nat => decide (f.1 ≠ f.2))
      (l := inputFields image k (readInput own image k).1)
    simp only [List.length_cons, List.length_nil] at this
    split <;> omega

/-! ### The whole image -/

theorem clampImage_input (own : Nat) (image : List Byte) (i : Inp) :
    (clampImage own image).1.inputs[i] = (readInput own image (32 + 13 * i.val)).1 := by
  simp [clampImage, inputOffset]

theorem globalsRead_clampImage (own : Nat) (image : List Byte) : GlobalsRead image (clampImage own image).1 := by
  simp only [clampImage, clampTo, word2_eq, word3_eq]
  refine ⟨rfl, by simp, rfl, Nat.min_comm _ _, rfl, rfl, rfl, rfl, rfl, rfl, rfl, rfl, rfl, ?_, ?_⟩
  · dsimp only
    omega
  · dsimp only
    omega

theorem imageInRange_of_read {c : Image} (read : GlobalsRead image c) (inputs : ∀ i : Inp, InputInRange c.inputs[i] ∧
    (c.inputs[i].use = .peer → 1 ≤ c.inputs[i].bound ∧ c.inputs[i].bound ≠ own)) : ImageInRange own c := by
  obtain ⟨interval, -, reject, accept, pull, settle, floor, warmup, limit, age1, age2, age3, grade1, grade2, grade3⟩ := read
  have rejects : 1 ≤ c.reject ∧ c.reject ≤ 32767 := reject ▸ clampTo_range _ (by norm_num)
  have limits : 1 ≤ c.limit ∧ c.limit ≤ 16777215 := by
    have bytes := word3_lt image 29
    rw [limit, ← word3_eq image 29]
    omega
  have ages : c.age1 ≤ c.age2 ∧ c.age2 ≤ c.age3 ∧ c.age3 ≤ c.limit := by
    rw [age3, age2, age1]
    refine ⟨le_max_left .., le_max_left .., ?_⟩
    exact max_le (max_le (min_le_left ..) (min_le_left ..)) (min_le_left ..)
  have grades : 1 ≤ c.grade1 ∧ c.grade1 ≤ c.grade2 ∧ c.grade2 ≤ c.grade3 ∧ c.grade3 ≤ 15 := by
    clear limit age1 age2 age3 reject accept pull
    omega
  refine ⟨interval ▸ clampTo_range _ (by norm_num), ?_, pull ▸ clampTo_range _ (by norm_num),
    settle ▸ clampTo_range _ (by norm_num), floor ▸ clampTo_range _ (by norm_num), warmup ▸ min_le_left ..,
    ages, limits, grades, inputs⟩
  rw [accept]
  exact ⟨le_min rejects.1 (le_max_left ..), min_le_left .., rejects.2⟩

theorem imageInRange_clampImage (own : Nat) (image : List Byte) : ImageInRange own (clampImage own image).1 := by
  refine imageInRange_of_read (globalsRead_clampImage own image) fun i => ?_
  rw [clampImage_input]
  exact ⟨inputInRange_readInput own image _, bound_readInput⟩

theorem vector_sum_ofFn (f : Inp → Nat) : (Vector.ofFn f).toList.sum = ((List.finRange 6).map f).sum := by
  rw [Vector.toList_ofFn, List.ofFn_eq_map]

/-- The clamp count, counted field by field. -/
theorem clampImage_count (own : Nat) (image : List Byte) : (clampImage own image).2 =
    (globalFields image (clampImage own image).1).countP (fun f => f.1 ≠ f.2) +
      ((List.finRange 6).map fun i : Inp =>
        inputAltered image (32 + 13 * i.val) (clampImage own image).1.inputs[i]).sum := by
  have inputs : ((Vector.ofFn fun i : Inp => readInput own image (inputOffset i)).map Prod.snd).toList.sum =
      ((List.finRange 6).map fun i : Inp =>
        inputAltered image (32 + 13 * i.val) (clampImage own image).1.inputs[i]).sum := by
    rw [Vector.map_ofFn, vector_sum_ofFn]
    refine congrArg List.sum (List.map_congr_left fun i _ => ?_)
    rw [clampImage_input]
    exact altered_readInput ..
  rw [← inputs, countP_altered]
  simp only [clampImage, List.map_cons, List.map_nil, List.sum_cons, List.sum_nil]
  omega

theorem clampImage_count_le (own : Nat) (image : List Byte) : (clampImage own image).2 ≤ 62 := by
  rw [clampImage_count]
  have globals := List.countP_le_length (p := fun f : Nat × Nat => decide (f.1 ≠ f.2))
    (l := globalFields image (clampImage own image).1)
  have inputs : ((List.finRange 6).map fun i : Inp =>
      inputAltered image (32 + 13 * i.val) (clampImage own image).1.inputs[i]).sum ≤ 6 * 8 := by
    refine (List.sum_le_card_nsmul _ 8 fun n mem => ?_).trans (by simp)
    obtain ⟨i, -, rfl⟩ := List.mem_map.mp mem
    rw [clampImage_input, ← altered_readInput]
    exact readInput_altered_le ..
  simp only [List.length_cons, List.length_nil] at globals
  omega

/-- A valid image is clamped into its ranges. -/
theorem validateImage_range {c : Image} {n : Nat} (h : validateImage own image = .ok (c, n)) :
    ImageInRange own c ∧ n ≤ 62 := by
  unfold validateImage at h
  split at h
  · cases h
  · split at h
    · cases h
    · injection h with clamped
      have count := clampImage_count_le own image
      have range := imageInRange_clampImage own image
      rw [clamped] at count range
      exact ⟨range, count⟩

/-- Bit `k` of three bytes is bit `k % 8` of byte `k / 8`. -/
theorem testBit_threeBytes (image : List Byte) (k : Slot) :
    (byteAt image 3 + 256 * byteAt image 4 + 65536 * byteAt image 5).testBit k.val =
      (byteAt image (3 + k.val / 8)).testBit (k.val % 8) := by
  have split : byteAt image 3 + 256 * byteAt image 4 + 65536 * byteAt image 5 =
      2 ^ 8 * (2 ^ 8 * byteAt image 5 + byteAt image 4) + byteAt image 3 := by omega
  rw [split, Nat.testBit_two_pow_mul_add _ (byteAt_lt image 3), Nat.testBit_two_pow_mul_add _ (byteAt_lt image 4)]
  have small := k.isLt
  split
  · rw [show k.val / 8 = 0 by omega, show k.val % 8 = k.val by omega]
  · split
    · rw [show k.val / 8 = 1 by omega, show k.val % 8 = k.val - 8 by omega]
    · rw [show k.val / 8 = 2 by omega, show k.val % 8 = k.val - 8 - 8 by omega]

/-- The trust mask has byte `3 + k / 8` of the image at bit `k`, but for the own address's bit (R170). -/
theorem readTrust_getLsbD (own : Nat) (image : List Byte) (k : Slot) : (readTrust own image).getLsbD k.val =
    ((BitVec.ofNat 8 (byteAt image (3 + k.val / 8))).getLsbD (k.val % 8) && decide (k.val + 1 ≠ own)) := by
  have small := k.isLt
  have bit : k.val % 8 < 8 := by omega
  have mask : (BitVec.ofNat 24 (byteAt image 3 + 256 * byteAt image 4 + 65536 * byteAt image 5)).getLsbD k.val =
      (BitVec.ofNat 8 (byteAt image (3 + k.val / 8))).getLsbD (k.val % 8) := by
    rw [BitVec.getLsbD_ofNat, BitVec.getLsbD_ofNat, testBit_threeBytes, decide_eq_true small, decide_eq_true bit]
  unfold readTrust
  dsimp only
  split
  · rename_i noOwn
    rw [mask, decide_eq_true (by omega), Bool.and_true]
  · rename_i own'
    have ownBit : (BitVec.ofNat 24 (2 ^ (own - 1))).getLsbD k.val = decide (k.val + 1 = own) := by
      rw [BitVec.getLsbD_ofNat, Nat.testBit_two_pow, decide_eq_true small, Bool.true_and, decide_eq_decide]
      omega
    rw [BitVec.getLsbD_and, mask, BitVec.getLsbD_not, ownBit, decide_eq_true small, Bool.true_and, ← decide_not]

end

end Sys2Proof.Machine

open Sys2Proof Sys2Proof.Machine

/-- Settles O45, field by field of the image layout. -/
theorem clampedImageInRange : Obligations.ClampedImageInRange := by
  unfold Obligations.ClampedImageInRange
  intro own image
  have trust : (clampImage own image).1.trust = readTrust own image := rfl
  refine ⟨imageInRange_clampImage own image, clampImage_count_le own image, fun k isOwn => ?_, fun k other _ => ?_,
    globalsRead_clampImage own image, fun i => ?_, clampImage_count own image⟩
  · rw [trust, readTrust_getLsbD]
    simp [isOwn]
  · rw [trust, readTrust_getLsbD]
    simp [other]
  · rw [clampImage_input]
    exact ⟨useRead_readInput .., inputRead_readInput⟩

end


section
/-! PROOF. What a command does to the inputs, the Selector and the Output Follower, said once for all commands: nothing,
a reset, a START, a sample of the detectors, the settle expiry, or an event whose owning block's changes the Selector's
part of the end of the event follows (R58, R78, R81). -/

namespace Sys2Proof.Machine

section

variable {s t u v : State} {c : Instr}

/-! ### Commands that leave inputs, Selector and Follower alone -/

/-- The reset logic, the Image Loader, the inputs, the Selector, the Output Follower, the entries and the queue are as
they were; the log has gained a DUPLICATE record at most. -/
structure Aside (s t : State) : Prop where
  hold : t.hold = s.hold
  cause : t.cause = s.cause
  loader : t.loader = s.loader
  monitors : t.monitors = s.monitors
  records : t.records = s.records
  selector : t.selector = s.selector
  follower : t.follower = s.follower
  pending : t.pending = s.pending
  entries : t.peers.entries = s.peers.entries
  uptime : t.log.uptime = s.log.uptime
  added : ∀ r ∈ t.log.records.drop s.log.records.length, r.kind = .duplicate

/-- What only the Bus Interface, the Announcer, the port and the table's counters and windows may have changed: the log
too is as it was. -/
structure Beside (s t : State) : Prop where
  hold : t.hold = s.hold
  cause : t.cause = s.cause
  loader : t.loader = s.loader
  monitors : t.monitors = s.monitors
  records : t.records = s.records
  selector : t.selector = s.selector
  follower : t.follower = s.follower
  pending : t.pending = s.pending
  entries : t.peers.entries = s.peers.entries
  log : t.log = s.log

theorem Beside.refl (s : State) : Beside s s := ⟨rfl, rfl, rfl, rfl, rfl, rfl, rfl, rfl, rfl, rfl⟩

theorem Beside.trans (first : Beside s t) (second : Beside t u) : Beside s u := by
  obtain ⟨h1, h2, h3, h4, h5, h6, h7, h8, h9, h10⟩ := first
  obtain ⟨g1, g2, g3, g4, g5, g6, g7, g8, g9, g10⟩ := second
  exact ⟨g1.trans h1, g2.trans h2, g3.trans h3, g4.trans h4, g5.trans h5, g6.trans h6, g7.trans h7, g8.trans h8,
    g9.trans h9, g10.trans h10⟩

theorem Beside.ite {p : Prop} [Decidable p] (h : Beside s t) : Beside s (if p then t else s) := by
  split
  · exact h
  · exact .refl s

theorem Beside.aside (h : Beside s t) : Aside s t :=
  { h with uptime := by rw [h.log], added := by simp [h.log] }

theorem Aside.refl (s : State) : Aside s s := (Beside.refl s).aside

theorem Aside.ite {p : Prop} [Decidable p] (h : Aside s t) : Aside s (if p then t else s) := by
  split
  · exact h
  · exact .refl s

/-- A command whose event occurs, or that does nothing. -/
theorem Aside.of_guarded {p : Prop} {_ : Decidable p}
    (h : (Host.Outcome.next (if p then u else s) : Host.Outcome State Fault Refusal) = .next t)
    (aside : Aside s u) : Aside s t := by
  obtain rfl := Host.Outcome.next.inj h
  exact .ite aside

theorem withBus_beside (s : State) (b : Bus) : Beside s (s.withBus b) := ⟨rfl, rfl, rfl, rfl, rfl, rfl, rfl, rfl, rfl, rfl⟩
theorem withAnnouncer_beside (s : State) (a : Announcer) : Beside s (s.withAnnouncer a) :=
  ⟨rfl, rfl, rfl, rfl, rfl, rfl, rfl, rfl, rfl, rfl⟩
theorem withPort_beside (s : State) (p : Port) : Beside s (s.withPort p) := ⟨rfl, rfl, rfl, rfl, rfl, rfl, rfl, rfl, rfl, rfl⟩
theorem withPins_beside (s : State) (p : Pins) : Beside s (s.withPins p) := ⟨rfl, rfl, rfl, rfl, rfl, rfl, rfl, rfl, rfl, rfl⟩
theorem withWindow_beside (s : State) (k : Slot) (w : Option RateWindow) : Beside s (s.withWindow k w) :=
  ⟨rfl, rfl, rfl, rfl, rfl, rfl, rfl, rfl, rfl, rfl⟩
theorem countBad_beside (s : State) : Beside s (countBad s) := withBus_beside ..
theorem countUntrusted_beside (s : State) : Beside s (countUntrusted s) := ⟨rfl, rfl, rfl, rfl, rfl, rfl, rfl, rfl, rfl, rfl⟩
theorem countRate_beside (s : State) : Beside s (countRate s) := ⟨rfl, rfl, rfl, rfl, rfl, rfl, rfl, rfl, rfl, rfl⟩
theorem countSequence_beside (s : State) : Beside s (countSequence s) := ⟨rfl, rfl, rfl, rfl, rfl, rfl, rfl, rfl, rfl, rfl⟩
theorem answer_beside (args : Nat) (bytes : List Byte) (s : State) : Beside s (answer args bytes s) := withPort_beside ..

theorem syncWant_beside (s : State) : Beside s (syncWant s) := by constructor <;> simp

theorem lineFree_beside (rx : Receiver) (s : State) : Beside s (lineFree rx s) := withBus_beside ..

theorem abandon_beside (cause : AbandonCause) (s : State) : Beside s (abandon cause s) := by
  cases cause <;> exact withBus_beside ..

theorem dropFrame_beside (cause : AbandonCause) (s : State) : Beside s (dropFrame cause s) :=
  .ite ((abandon_beside cause s).trans (countBad_beside _))

theorem foreignChar_beside (ch : LineChar) (s : State) : Beside s (foreignChar ch s) := withBus_beside ..

theorem frameHeard_beside (kind : Byte) (f : RxFrame) (s : State) : Beside s (frameHeard kind f s) :=
  .trans (.ite (countBad_beside s)) (lineFree_beside ..)

theorem setDuplicate_aside (cause arg : Nat) (s : State) : Aside s (setDuplicate cause arg s) := by
  unfold setDuplicate
  split
  · exact .refl s
  · refine ⟨rfl, rfl, rfl, rfl, rfl, rfl, rfl, rfl, rfl, by simp, fun r mem => ?_⟩
    rw [logEvent_log] at mem
    rcases s.log.append_cases .duplicate cause arg with ⟨-, h⟩ | ⟨-, h⟩
    · simp only [State.withBus_log, h, List.drop_left, List.mem_singleton] at mem
      rw [mem]
    · simp [h] at mem

theorem Beside.trans_aside (first : Beside s t) (second : Aside t u) : Aside s u := by
  obtain ⟨h1, h2, h3, h4, h5, h6, h7, h8, h9, h10⟩ := first
  obtain ⟨g1, g2, g3, g4, g5, g6, g7, g8, g9, g10, g11⟩ := second
  refine ⟨g1.trans h1, g2.trans h2, g3.trans h3, g4.trans h4, g5.trans h5, g6.trans h6, g7.trans h7, g8.trans h8,
    g9.trans h9, by rw [g10, h10], by rwa [h10] at g11⟩

theorem Aside.trans_beside (first : Aside s t) (second : Beside t u) : Aside s u := by
  obtain ⟨h1, h2, h3, h4, h5, h6, h7, h8, h9, h10, h11⟩ := first
  obtain ⟨g1, g2, g3, g4, g5, g6, g7, g8, g9, g10⟩ := second
  refine ⟨g1.trans h1, g2.trans h2, g3.trans h3, g4.trans h4, g5.trans h5, g6.trans h6, g7.trans h7, g8.trans h8,
    g9.trans h9, by rw [g10, h10], by rwa [g10]⟩

theorem startTransmission_beside (s : State) : Beside s (startTransmission s) := by
  unfold startTransmission
  dsimp only
  split
  · exact (withAnnouncer_beside ..).trans (withBus_beside ..)
  · exact ((withAnnouncer_beside ..).trans (withBus_beside ..)).trans (syncWant_beside _)

theorem busCompletion_beside (s : State) : Beside s (busCompletion s) := (withBus_beside ..).trans (syncWant_beside _)

theorem clashEnd_beside (s : State) : Beside s (clashEnd s) :=
  ((withAnnouncer_beside ..).trans (withBus_beside ..)).trans (syncWant_beside _)

theorem clashDuplicate_aside (s : State) : Aside s (clashDuplicate s) := .ite (setDuplicate_aside ..)

theorem readOn_beside (count : Nat) (s : State) : Beside s (readOn count s) := by
  obtain ⟨port, eq⟩ := readOn_withPort count s
  rw [eq]
  exact withPort_beside ..

theorem openRead_beside (a : Nat) (s : State) : Beside s (openRead a s) := (answer_beside ..).trans (withPort_beside ..)

theorem beginWithdraw_beside (s : State) : Beside s (beginWithdraw s) := (withAnnouncer_beside ..).trans (syncWant_beside _)

theorem acceptQuery_beside (s : State) : Beside s (acceptQuery s) := (withAnnouncer_beside ..).trans (syncWant_beside _)

theorem countWindow_beside (k : Slot) (s : State) : Beside s (countWindow k s) := withWindow_beside ..

/-! ### The changes of an event's owning block -/

/-- The monitor of an input after the detectors' sample at a 1 ms point, judged while the input is measured (R18 to
R21). -/
def pointMonitor (s : State) (i : Inp) (high edge : Bool) : Monitor :=
  if measuring s i then judgeSignal (detect s.monitors[i] high edge) (inputCfg s i).losMode
  else detect s.monitors[i] high edge

/-- The table has entry `e` at station `k`, and the change is recorded at most; nothing else has changed. -/
structure EntryPut (s : State) (k : Slot) (e : Option PeerEntry) (t : State) : Prop where
  hold : t.hold = s.hold
  cause : t.cause = s.cause
  loader : t.loader = s.loader
  monitors : t.monitors = s.monitors
  records : t.records = s.records
  selector : t.selector = s.selector
  follower : t.follower = s.follower
  pending : t.pending = s.pending
  pins : t.pins = s.pins
  bus : t.bus = s.bus
  port : t.port = s.port
  peers : t.peers = (s.withEntry k e).peers
  announcer : t.announcer = { s.announcer with queries := t.announcer.queries }
  log : t.log = s.log ∨ ∃ (kind : EventKind) (a b : Nat),
    (kind = .peerLost ∨ kind = .peerWithdrawn ∨ kind = .peerGone) ∧ t.log = s.log.append kind a b

/-- The changes of the owning block of each event that the Selector's part of its end follows, with whether that part must
evaluate, and whether it records EXPIRED. -/
inductive Body : Instr → State → Bool → Bool → State → Prop
  | arises {i : Inp} {high edge : Bool} {s : State} (on : measuring s i = true) (was : s.monitors[i].signal = false)
      (is : (pointMonitor s i high edge).signal = true) :
      Body (.msPoint i high edge) s false false (qualify i (withSignal s.records[i].reasons true)
        (s.withMonitor i (abandonGate (pointMonitor s i high edge))))
  | clears {i : Inp} {high edge : Bool} {s : State} (on : measuring s i = true) (was : s.monitors[i].signal = true)
      (is : (pointMonitor s i high edge).signal = false) :
      Body (.msPoint i high edge) s false false (qualify i (withSignal s.records[i].reasons false)
        (s.withMonitor i (beginGate (pointMonitor s i high edge))))
  | gate {i : Inp} {edges : Nat} {s : State} {m : Monitor} (on : measuring s i = true)
      (may : gateMayComplete s.monitors[i] = true)
      (done : m = completeGate s i s.monitors[i] (gateCount s.monitors[i].gate edges)) :
      Body (.gateCompletion i edges) s false false
        (qualify i (freqReasons s.records[i].reasons s.monitors[i].freq m.freq) (takeOffset i m (s.withMonitor i m)))
  | holdOff {i : Inp} {s : State} (on : running s = true) (suspect : s.records[i].state = .suspect) :
      Body (.holdOffExpiry i) s false false (applyMove i (s.records[i].bar s.records[i].reasons, .barred) s)
  | wtr {i : Inp} {s : State} (on : running s = true) (proving : s.records[i].state = .proving)
      (runs : s.records[i].wtr.isRunning = true) :
      Body (.wtrExpiry i) s false false
        (applyMove i (({ s.records[i] with wtr := .served } : InputRec).promote (windowFull s i)) s)
  | lockout {n : Byte} {i : Inp} {s : State} (names : inputOf n = some i) (on : measuring s i = true)
      (absent : s.records[i].reasons.lockout = false) :
      Body (.lockout n) s false false (qualify i { s.records[i].reasons with lockout := true } s)
  | release {n : Byte} {i : Inp} {s : State} (names : inputOf n = some i) (on : measuring s i = true)
      (present : s.records[i].reasons.lockout = true) :
      Body (.release n) s false false (qualify i { s.records[i].reasons with lockout := false } s)
  | force {n : Byte} {f : Force} {s : State} (names : forceTarget n = some f) (on : running s = true)
      (can : forceable s f = true) (other : s.selector.force ≠ f) : Body (.force n) s false false (s.withForce f)
  | unforce {s : State} (on : running s = true) (other : s.selector.force ≠ .none) :
      Body .unforce s false false (s.withForce .none)
  | value {s : State} (on : running s = true) (due : valueDue s = true) :
      Body .valueExpiry s (expiryMoves s) (expiryMoves s) (clearHoldoverForce (expireValue s))
  | age {s : State} (on : running s = true) (valid : s.follower.value.valid = true)
      (comes : stepComes (cfg s) s.follower.value.ageCycles = true) :
      Body .stepAgeReached s false false (s.withFollower { s.follower with
        value := { s.follower.value with ageCycles := s.follower.value.ageCycles + 1 } })
  | warmup {s : State} (on : running s = true) (warm : s.follower.warm = true) :
      Body .warmupEnd s true false (clearWarmup s)
  | announced {f : RxFrame} {k : Slot} {a : Announced} {s t : State} (on : running s = true)
      (source : slotOf f.source.toNat = some k) (read : readAnnounce f.source.toNat f.payload = some a)
      (put : EntryPut s k (some (announcedEntry f a)) t) :
      Body (.announceReceived f) s false false (recomputeBound (address k) t)
  | withdrawn {f : RxFrame} {k : Slot} {e : PeerEntry} {s t : State} (on : running s = true)
      (source : slotOf f.source.toNat = some k) (found : s.peers.entries[k] = some e)
      (put : EntryPut s k (some { e with state := .withdrawn, lastSeq := f.seq, ageCycles := 0 }) t) :
      Body (.withdrawReceived f) s false false (recomputeBound (address k) t)
  | stale {k : Slot} {e : PeerEntry} {s t : State} (on : running s = true) (found : s.peers.entries[k] = some e)
      (fresh : e.state = .fresh) (due : e.due = true)
      (put : EntryPut s k (some { e with state := .stale, ageCycles := atSeconds (3 * e.interval) }) t) :
      Body (.entryStale k) s false false (recomputeBound (address k) t)
  | removed {k : Slot} {e : PeerEntry} {s t : State} (on : running s = true) (found : s.peers.entries[k] = some e)
      (old : e.state ≠ .fresh) (due : e.due = true) (put : EntryPut s k none t) :
      Body (.entryRemoval k) s false false (recomputeBound (address k) t)

/-- Every effect that a command can have on the inputs, the Selector and the Output Follower. -/
inductive Happens : Instr → State → State → Prop
  | aside {c : Instr} {s t : State} (aside : Aside s t) : Happens c s t
  | cleared {c : Instr} {s : State} (kind : ResetKind) : Happens c s (State.cleared kind s.pins s.pending)
  | released {c : Instr} {s : State} (kind : ResetKind) (pins : Pins) (port : Port) :
      Happens c s (released kind pins port s.pending)
  | loading {c : Instr} {s t : State} (off : running s = false) (off' : running t = false)
      (only : t = { s with loader := t.loader, port := t.port }) (lawful : LoaderLaw s → LoaderLaw t) : Happens c s t
  | starts {c : Instr} {s u t : State} (held : Option Nat) (open' : s.hold = none) (off : running s = false)
      (only : u = s.withLoader u.loader)
      (lawful : LoaderLaw s → LoaderLaw u ∧ u.loader.held = true ∧ u.loader.cause ≠ .address)
      (result : t = (startPart held u).withPort t.port) : Happens c s t
  | pops {s t : State} (result : t = (s.withLog s.log.pop).withPort t.port) : Happens .popEvent s t
  | sampled {i : Inp} {high edge : Bool} {s : State} (open' : s.hold = none)
      (same : (pointMonitor s i high edge).signal = s.monitors[i].signal) :
      Happens (.msPoint i high edge) s
        ((s.withPins (setLosPin s.pins i high)).withMonitor i (pointMonitor s i high edge))
  | locks {s : State} (on : running s = true) (acquiring : s.follower.output = .acquiring)
      (out : s.follower.settle = some 0) : Happens .settleExpiry s (settleEnd s)
  | event {c : Instr} {s u m t : State} {must expired : Bool} (beside : Beside s u)
      (announcer : u.announcer = s.announcer) (body : Body c u must expired m)
      (result : t = (settleEvent u must expired m).withPort t.port) : Happens c s t

theorem Happens.same (c : Instr) (s : State) : Happens c s s := .aside (.refl s)

theorem Happens.of_guarded {p : Prop} {_ : Decidable p}
    (h : (Host.Outcome.next (if p then u else s) : Host.Outcome State Fault Refusal) = .next t)
    (happens : p → Happens c s u) : Happens c s t := by
  obtain rfl := Host.Outcome.next.inj h
  split
  · rename_i hp
    exact happens hp
  · exact .same c s

/-- An event with nothing beside it. -/
theorem Happens.of_body {m : State} {must expired : Bool} (body : Body c s must expired m) :
    Happens c s (settleEvent s must expired m) := .event (.refl s) rfl body rfl

/-- An event and its answer at the port. -/
theorem Happens.of_answered {m : State} {must expired : Bool} (body : Body c s must expired m) (args : Nat)
    (bytes : List Byte) : Happens c s (answer args bytes (settleEvent s must expired m)) := .event (.refl s) rfl body rfl

theorem portOpen_iff (s : State) : portOpen s = true ↔ s.hold = none := by simp [portOpen]

/-! ### Resets (R166, R167) -/

theorem execPinReset_happens (h : execPinReset s = .next t) : Happens .pinReset s t := by
  obtain rfl := Host.Outcome.next.inj h
  split
  · exact .same ..
  · exact .cleared .pin

theorem execResetRelease_happens {addrStrap : BitVec 5} {controller : Bool} {los : BitVec 6}
    (h : execResetRelease addrStrap controller los s = .next t) :
    Happens (.resetRelease addrStrap controller los) s t := by
  obtain rfl := Host.Outcome.next.inj h
  split
  · exact .released _ _ _
  · exact .same ..

theorem softResetTaken_happens (c : Instr) (pins : Pins) (beside : Beside s u) :
    Happens c s (softResetTaken pins u) := by
  unfold softResetTaken
  split
  · exact .aside beside.aside
  · split
    · exact .aside (beside.trans (beginWithdraw_beside u)).aside
    · have pending : u.pending = s.pending := beside.pending
      rw [softResetNow, pending]
      exact .released _ _ _

theorem withdrawWaitEnd_happens (c : Instr) (pins : Pins) : Happens c s (withdrawWaitEnd pins s) := by
  unfold withdrawWaitEnd
  split
  · exact .aside (withAnnouncer_beside ..).aside
  · exact .released _ _ _

theorem clashNow_happens (c : Instr) (pins : Pins) : Happens c s (clashNow pins s) := by
  have aside : Aside s (clashDuplicate (clashEnd s)) := (clashEnd_beside s).trans_aside (clashDuplicate_aside _)
  unfold clashNow
  dsimp only
  split
  · rw [softResetNow, aside.pending]
    exact .released _ _ _
  · exact .aside aside

/-! ### The Image Loader (R168, R173, R174) -/

theorem State.eq_withPort (s : State) : s = s.withPort s.port := rfl

theorem startPart_happens (held : Option Nat) (open' : s.hold = none) (off : running s = false)
    (only : u = s.withLoader u.loader)
    (lawful : LoaderLaw s → LoaderLaw u ∧ u.loader.held = true ∧ u.loader.cause ≠ .address) :
    Happens c s (startPart held u) := .starts held open' off only lawful (State.eq_withPort _)

theorem running_eq_false_of_part (h : s.loader.partState ≠ .running) : running s = false := by simp [running, h]

/-- In LOADING the part has an own address (R166). -/
theorem own_of_loading (law : LoaderLaw s) (noHold : s.hold = none) (part : s.loader.partState ≠ .cfgFault) :
    s.loader.ownAddress ≠ 0 ∧ s.loader.cause ≠ .address := by
  obtain ⟨-, own, fault, -⟩ := law noHold
  have noCause : s.loader.cause ≠ .address := fun h => part (fault h)
  exact ⟨fun h => noCause (own.mp h), noCause⟩

theorem cfgFaultWith_lawful {cause : LoadCause} (notAddress : cause ≠ .address) (law : LoaderLaw s)
    (part : s.loader.partState = .loading) : LoaderLaw (cfgFaultWith cause s) := by
  intro noHold
  obtain ⟨own, -⟩ := own_of_loading law noHold (by simp [part])
  obtain ⟨range, -, -, -, held⟩ := law noHold
  exact ⟨range, by simp [cfgFaultWith, own, notAddress], fun _ => rfl, fun h => absurd h (by simp [cfgFaultWith]), held⟩

theorem transferred_lawful (actions : List I2cAction) (law : LoaderLaw s) : LoaderLaw (transferred actions s) := law

theorem validateImage_cause {own : Nat} {image : List Byte} {cause : LoadCause}
    (h : validateImage own image = .error cause) : cause ≠ .address := by
  unfold validateImage at h
  repeat' split at h
  all_goals
    cases h
    try decide

/-- An image held in the ranges of the clamps (R169). -/
theorem holdImage_lawful {viaPort : Bool} {image : Image} {n : Nat} (range : ImageInRange s.loader.ownAddress image)
    (count : n ≤ 62) (law : LoaderLaw s) (part : s.loader.partState ≠ .cfgFault ∨ s.loader.cause ≠ .address) :
    LoaderLaw (holdImage viaPort image n s) := by
  intro noHold
  obtain ⟨small, own, fault, -⟩ := law noHold
  have noCause : s.loader.cause ≠ .address := fun h => part.elim (fun g => g (fault h)) fun g => g h
  have some : s.loader.ownAddress ≠ 0 := fun h => noCause (own.mp h)
  exact ⟨small, by simp [holdImage, some], fun h => absurd h (by simp [holdImage]), fun _ => rfl,
    fun _ => ⟨range, count⟩⟩

theorem execEepromReadDone_happens {image : List Byte} {held : Option Nat}
    (h : execEepromReadDone image s held = .next t) : Happens (.eepromReadDone image held) s t := by
  refine .of_guarded h fun ⟨lasting, _⟩ => ?_
  obtain ⟨n, lasting⟩ := Option.isSome_iff_exists.mp lasting
  obtain ⟨noHold, part, -⟩ := (attemptLasting_eq_some _ _ _).mp lasting
  have off : running s = false := running_eq_false_of_part (by simp [part])
  unfold imageRead
  split
  · rename_i cause invalid
    refine .loading off (running_eq_false_of_part (by simp [cfgFaultWith])) rfl fun law => ?_
    exact cfgFaultWith_lawful (validateImage_cause invalid) (transferred_lawful _ law) part
  · rename_i image n valid
    obtain ⟨range, count⟩ := validateImage_range valid
    refine startPart_happens held noHold off rfl fun law => ⟨?_, rfl, by simp [holdImage]⟩
    exact holdImage_lawful range count (transferred_lawful _ law) (.inl (by simp [transferred, part]))

theorem attemptEnd_lawful (n : Nat) (law : LoaderLaw s) (part : s.loader.partState = .loading) :
    LoaderLaw (attemptEnd n s) := by
  unfold attemptEnd
  split
  · exact cfgFaultWith_lawful (by decide) law part
  · exact law

theorem execEepromAttemptFailed_happens {failure : AttemptFailure} {stop : Bool}
    (h : execEepromAttemptFailed s failure stop = .next t) : Happens (.eepromAttemptFailed failure stop) s t := by
  obtain rfl := Host.Outcome.next.inj h
  split
  · rename_i n lasting
    obtain ⟨noHold, part, -⟩ := (attemptLasting_eq_some _ _ _).mp lasting
    refine .loading (running_eq_false_of_part (by simp [part])) (running_eq_false_of_part ?_) ?_ fun law =>
      attemptEnd_lawful n (transferred_lawful _ law) part
    · unfold attemptEnd
      split <;> simp [cfgFaultWith, transferred, part]
    · unfold attemptEnd
      split <;> rfl
  · exact .same ..

theorem execEepromRetry_happens (h : execEepromRetry s = .next t) : Happens .eepromRetry s t := by
  refine .of_guarded h fun ⟨_, part⟩ => ?_
  split
  · exact .loading (running_eq_false_of_part (by simp [part])) (running_eq_false_of_part (by simp [part])) rfl id
  all_goals exact .same ..

theorem takesImage_iff (l : Loader) : takesImage l = true ↔
    l.partState = .awaitImage ∨ l.partState = .cfgFault ∧ l.cause ≠ .address := decide_eq_true_iff

theorem takesImage_part {l : Loader} (h : takesImage l = true) : l.partState ≠ .running := by
  intro e
  simp [takesImage, e] at h

theorem withCause_lawful {cause : LoadCause} (notAddress : cause ≠ .address) (law : LoaderLaw s)
    (takes : takesImage s.loader = true) : LoaderLaw (s.withLoader { s.loader with cause := cause }) := by
  intro noHold
  obtain ⟨small, own, fault, held⟩ := law noHold
  have noCause : s.loader.cause ≠ .address := by
    rcases (takesImage_iff _).mp takes with part | ⟨-, notAddress⟩
    · intro h
      simp [fault h] at part
    · exact notAddress
  have some : s.loader.ownAddress ≠ 0 := fun h => noCause (own.mp h)
  exact ⟨small, by simp [some, notAddress], fun h => absurd h notAddress, held⟩

theorem execLoadImage_happens {image : List Byte} (h : execLoadImage image s = .next t) :
    Happens (.loadImage image) s t := by
  refine .of_guarded h fun _ => ?_
  split
  · exact .aside (answer_beside ..).aside
  · unfold loadResult
    split
    · rename_i takes
      have part := takesImage_part takes
      split
      · rename_i invalid
        exact .loading (running_eq_false_of_part part) (running_eq_false_of_part (by simpa using part)) rfl
          fun law => withCause_lawful (s := s) (validateImage_cause invalid) law takes
      · rename_i valid
        obtain ⟨range, count⟩ := validateImage_range valid
        refine .loading (running_eq_false_of_part part) (running_eq_false_of_part (by simp)) rfl fun law noHold => ?_
        have known : s.loader.partState ≠ .cfgFault ∨ s.loader.cause ≠ .address :=
          ((takesImage_iff _).mp takes).imp (fun h => by simp [h]) And.right
        obtain ⟨small, own, fault, -, image⟩ := holdImage_lawful (viaPort := true) range count law known noHold
        exact ⟨small, own, fun h => absurd h (by simp [holdImage]), fun h => absurd h (by simp), image⟩
    · exact .aside (answer_beside ..).aside

theorem startable_iff (s : State) : startable s = true ↔ s.loader.partState = .awaitImage ∧ s.loader.held = true := by
  simp [startable]

theorem execStart_happens {held : Option Nat} (h : execStart s held = .next t) : Happens (.start held) s t := by
  refine .of_guarded h fun open' => ?_
  have noHold : s.hold = none := (portOpen_iff s).mp open'
  by_cases can : startable s = true
  · simp only [if_pos can]
    obtain ⟨part, holds⟩ := (startable_iff s).mp can
    refine .starts held noHold (running_eq_false_of_part (by simp [part])) rfl (fun law => ⟨law, holds, ?_⟩) rfl
    exact (own_of_loading law noHold (by simp [part])).2
  · simp only [if_neg can]
    exact .aside (answer_beside ..).aside

/-! ### The monitors (R21, R31) -/

theorem detect_signal (m : Monitor) (high edge : Bool) : (detect m high edge).signal = m.signal := by
  unfold detect activitySample losSample
  repeat' split
  all_goals rfl

theorem execMsPoint_happens {i : Inp} {high edge : Bool} (h : execMsPoint i high edge s = .next t) :
    Happens (.msPoint i high edge) s t := by
  obtain rfl := Host.Outcome.next.inj h
  split
  · exact .same ..
  rename_i noHold
  have open' : s.hold = none := by simpa using noHold
  dsimp only
  split
  case isTrue on =>
    have monitor : judgeSignal (detect s.monitors[i] high edge) (inputCfg s i).losMode = pointMonitor s i high edge :=
      (if_pos on).symm
    rw [monitor, detect_signal]
    unfold reportSignal
    split
    case isTrue arises =>
      simp only [Bool.and_eq_true, Bool.not_eq_true'] at arises
      exact .event (u := s.withPins (setLosPin s.pins i high)) (withPins_beside ..) rfl
        (.arises on arises.1 arises.2) rfl
    case isFalse notArises =>
      split
      case isTrue clears =>
        simp only [Bool.and_eq_true, Bool.not_eq_true'] at clears
        exact .event (u := s.withPins (setLosPin s.pins i high)) (withPins_beside ..) rfl
          (.clears on clears.1 clears.2) rfl
      case isFalse notClears =>
        refine .sampled open' ?_
        revert notArises notClears
        cases s.monitors[i].signal <;> simp
  case isFalse off =>
    have monitor : detect s.monitors[i] high edge = pointMonitor s i high edge := (if_neg off).symm
    rw [monitor]
    refine .sampled open' ?_
    rw [← monitor, detect_signal]

theorem execGateCompletion_happens {i : Inp} {edges : Nat} (h : execGateCompletion i edges s = .next t) :
    Happens (.gateCompletion i edges) s t := by
  refine .of_guarded h fun may => ?_
  simp only [Bool.and_eq_true] at may
  exact .of_body (.gate may.1 may.2 rfl)

/-! ### The operator's lockout and the force (R62, R63, R83, R84, R88) -/

theorem measuring_running {i : Inp} (h : measuring s i = true) : running s = true := by
  simp [measuring] at h
  exact h.1

theorem execLockout_happens {n : Byte} (h : execLockout n s = .next t) : Happens (.lockout n) s t := by
  refine .of_guarded h fun _ => ?_
  split
  · rename_i i names
    split
    · rename_i on
      unfold lockInput
      split
      · exact .aside (answer_beside ..).aside
      · rename_i absent
        exact .of_answered (.lockout names on (by simpa using absent)) ..
    · exact .aside (answer_beside ..).aside
  · exact .aside (answer_beside ..).aside

theorem execRelease_happens {n : Byte} (h : execRelease n s = .next t) : Happens (.release n) s t := by
  refine .of_guarded h fun _ => ?_
  split
  · rename_i i names
    split
    · rename_i on
      unfold releaseInput
      split
      · rename_i present
        exact .of_answered (.release names on present) ..
      · exact .aside (answer_beside ..).aside
    · exact .aside (answer_beside ..).aside
  · exact .aside (answer_beside ..).aside

theorem execForce_happens {n : Byte} (h : execForce n s = .next t) : Happens (.force n) s t := by
  refine .of_guarded h fun _ => ?_
  split
  · rename_i f names
    split
    · rename_i can
      simp only [Bool.and_eq_true] at can
      unfold setForce
      split
      · exact .aside (answer_beside ..).aside
      · rename_i other
        exact .of_answered (.force names can.1 can.2 other) ..
    · exact .aside (answer_beside ..).aside
  · exact .aside (answer_beside ..).aside

theorem execUnforce_happens (h : execUnforce s = .next t) : Happens .unforce s t := by
  refine .of_guarded h fun _ => ?_
  by_cases on : running s = true
  · simp only [if_pos on]
    unfold setForce
    split
    · exact .aside (answer_beside ..).aside
    · rename_i other
      exact .of_answered (.unforce on other) ..
  · simp only [if_neg on]
    exact .aside (answer_beside ..).aside

/-! ### The bus and the Peer Table (R117 to R162) -/

theorem EntryPut.of_record {k : Slot} {e : Option PeerEntry} {kind : EventKind} {a b : Nat} {w : State}
    (kinds : kind = .peerLost ∨ kind = .peerWithdrawn ∨ kind = .peerGone)
    (eq : w = logEvent kind a b (s.withEntry k e)) : EntryPut s k e w := by
  subst eq
  exact ⟨rfl, rfl, rfl, rfl, rfl, rfl, rfl, rfl, rfl, rfl, rfl, rfl, rfl, .inr ⟨kind, a, b, kinds, rfl⟩⟩

theorem acceptAnnounce_happens {f : RxFrame} {k : Slot} (on : running u = true) (beside : Beside s u)
    (announcer : u.announcer = s.announcer) (source : slotOf f.source.toNat = some k) :
    Happens (.announceReceived f) s (acceptAnnounce k f u) := by
  unfold acceptAnnounce
  split
  · rename_i a read
    refine .event beside announcer (.announced on source read ?_) rfl
    exact ⟨rfl, rfl, rfl, rfl, rfl, rfl, rfl, rfl, rfl, rfl, rfl, rfl, rfl, .inl rfl⟩
  · exact .aside beside.aside

theorem acceptWithdraw_happens {f : RxFrame} {k : Slot} (on : running u = true) (beside : Beside s u)
    (announcer : u.announcer = s.announcer) (source : slotOf f.source.toNat = some k) :
    Happens (.withdrawReceived f) s (acceptWithdraw k f u) := by
  unfold acceptWithdraw
  split
  · rename_i e found
    refine .event beside announcer (.withdrawn on source found ?_) rfl
    dsimp only
    split
    · exact ⟨rfl, rfl, rfl, rfl, rfl, rfl, rfl, rfl, rfl, rfl, rfl, rfl, rfl, .inl rfl⟩
    · exact .of_record (.inr (.inl rfl)) rfl
  · exact .aside beside.aside

theorem running_congr (hold : t.hold = s.hold) (loader : t.loader = s.loader) : running t = running s := by
  simp [running, hold, loader]

theorem running_of_hears {f : RxFrame} (h : hears s f = true) : running s = true := by
  simp [hears, listening] at h
  exact h.1.1.1

theorem kindFits_of_accepted {kind : Byte} {f : RxFrame} (h : verdict s kind f = .accepted) : kindFits kind f = true := by
  unfold verdict judgeSource at h
  repeat' split at h
  all_goals simp_all

/-- The verdict's effect is beside the inputs, or the frame is accepted and acts by its kind. -/
theorem applyVerdict_happens {v : Verdict} {kind : Byte} {f : RxFrame} (beside : Beside s u)
    (announcer : u.announcer = s.announcer)
    (acts : ∀ (k : Slot) (w : State), v = .accepted → Beside s w → w.announcer = s.announcer →
      slotOf f.source.toNat = some k → Happens c s (actOn kind f k w)) : Happens c s (applyVerdict v kind f u) := by
  cases v with
  | malformed => exact .aside (beside.trans (countBad_beside u)).aside
  | ownSource => exact .aside ((beside.trans (countUntrusted_beside u)).trans_aside (setDuplicate_aside ..))
  | untrusted => exact .aside (beside.trans (countUntrusted_beside u)).aside
  | rate => exact .aside (beside.trans (countRate_beside u)).aside
  | sequence =>
    dsimp only [applyVerdict]
    split
    case h_1 k _ => exact .aside ((beside.trans (countWindow_beside k u)).trans (countSequence_beside _)).aside
    case h_2 => exact .aside beside.aside
  | accepted =>
    dsimp only [applyVerdict]
    split
    case h_1 k source => exact acts k _ rfl (beside.trans (countWindow_beside k u)) announcer source
    case h_2 => exact .aside beside.aside

/-- A whole frame is dropped, or accepted, and acts by its kind on a state that only what stands beside the inputs
differs in. -/
theorem receive_happens (kind : Byte) (f : RxFrame)
    (acts : ∀ (k : Slot) (u : State), kindFits kind f = true → running u = true → Beside s u →
      u.announcer = s.announcer → slotOf f.source.toNat = some k → Happens c s (actOn kind f k u)) :
    Happens c s (receive kind f s) := by
  unfold receive
  split
  case isFalse => exact .same ..
  case isTrue hears =>
    have on : running s = true := running_of_hears (by simp at hears; exact hears.1)
    unfold handOver
    dsimp only
    generalize heard : (frameHeard kind f s).withBus _ = u
    have beside : Beside s u := by rw [← heard]; exact (frameHeard_beside kind f s).trans (withBus_beside ..)
    have announcer : u.announcer = s.announcer := by
      rw [← heard]
      unfold frameHeard lineFree
      split <;> rfl
    refine applyVerdict_happens beside announcer fun k w accepted beside announcer source => ?_
    exact acts k w (kindFits_of_accepted accepted) ((running_congr beside.hold beside.loader).trans on) beside announcer
      source

theorem execAnnounceReceived_happens {f : RxFrame} (h : execAnnounceReceived f s = .next t) :
    Happens (.announceReceived f) s t := by
  obtain rfl := Host.Outcome.next.inj h
  refine receive_happens _ f fun k u _ on beside announcer source => ?_
  rw [actOn, if_pos rfl]
  exact acceptAnnounce_happens on beside announcer source

theorem execQueryReceived_happens {f : RxFrame} (h : execQueryReceived f s = .next t) :
    Happens (.queryReceived f) s t := by
  obtain rfl := Host.Outcome.next.inj h
  refine receive_happens _ f fun k u _ on beside announcer source => ?_
  rw [actOn, if_neg (by decide), if_pos rfl]
  exact .aside (beside.trans (acceptQuery_beside u)).aside

theorem execWithdrawReceived_happens {f : RxFrame} (h : execWithdrawReceived f s = .next t) :
    Happens (.withdrawReceived f) s t := by
  obtain rfl := Host.Outcome.next.inj h
  refine receive_happens _ f fun k u _ on beside announcer source => ?_
  rw [actOn, if_neg (by decide), if_neg (by decide)]
  exact acceptWithdraw_happens on beside announcer source

theorem kindFits_of_unknown {kind : Byte} (unknown : knownKind kind = false) (f : RxFrame) : kindFits kind f = false := by
  simp only [knownKind, Bool.or_eq_false_iff, beq_eq_false_iff_ne] at unknown
  obtain ⟨⟨announce, query⟩, withdraw⟩ := unknown
  rw [kindFits, if_neg query, if_neg withdraw, if_neg announce]

theorem execMalformedFrame_happens {kind : Byte} {f : RxFrame} (h : execMalformedFrame kind f s = .next t) :
    Happens (.malformedFrame kind f) s t := by
  obtain rfl := Host.Outcome.next.inj h
  split
  · exact .same ..
  · rename_i unknown
    refine receive_happens _ f fun k u fits => ?_
    rw [kindFits_of_unknown (by simpa using unknown)] at fits
    exact absurd fits Bool.false_ne_true

theorem queryLost_put {k : Slot} {e : Option PeerEntry} (a : Nat) (put : EntryPut s k e t) :
    EntryPut s k e (queryLost a t) := by
  unfold queryLost
  split
  · obtain ⟨h1, h2, h3, h4, h5, h6, h7, h8, h9, h10, h11, h12, h13, h14⟩ := put
    exact ⟨h1, h2, h3, h4, h5, h6, h7, h8, h9, h10, h11, h12, by rw [State.withAnnouncer_announcer, h13], h14⟩
  · exact put

theorem execEntryStale_happens {k : Slot} (h : execEntryStale k s = .next t) : Happens (.entryStale k) s t := by
  obtain rfl := Host.Outcome.next.inj h
  split
  · rename_i e found
    split
    · rename_i guard
      simp only [Bool.and_eq_true, decide_eq_true_eq] at guard
      refine .of_body (.stale guard.1.1 found guard.1.2 guard.2 ?_)
      exact queryLost_put _ (.of_record (.inl rfl) rfl)
    · exact .same ..
  · exact .same ..

theorem execEntryRemoval_happens {k : Slot} (h : execEntryRemoval k s = .next t) :
    Happens (.entryRemoval k) s t := by
  obtain rfl := Host.Outcome.next.inj h
  split
  · rename_i e found
    split
    · rename_i guard
      simp only [Bool.and_eq_true, decide_eq_true_eq] at guard
      exact .of_body (.removed guard.1.1 found guard.1.2 guard.2 (.of_record (.inr (.inr rfl)) rfl))
    · exact .same ..
  · exact .same ..

theorem Happens.beside (h : Beside s t) : Happens c s t := .aside h.aside

theorem execFrameAbandoned_happens {cause : AbandonCause} (h : execFrameAbandoned cause s = .next t) :
    Happens (.frameAbandoned cause) s t := by
  obtain rfl := Host.Outcome.next.inj h
  exact .beside (dropFrame_beside ..)

theorem execForeignStartBit_happens {ch : LineChar} (h : execForeignStartBit ch s = .next t) :
    Happens (.foreignStartBit ch) s t :=
  .of_guarded h fun _ => .beside ((dropFrame_beside ..).trans (foreignChar_beside ..))

theorem execBadFrame_happens {kind : Byte} {f : RxFrame} (h : execBadFrame kind f s = .next t) :
    Happens (.badFrame kind f) s t :=
  .of_guarded h fun _ => .beside ((frameHeard_beside ..).trans (countBad_beside _))

/-! ### Transmission and the Announcer (R123 to R144) -/

theorem execAnnounceCompletion_happens (h : execAnnounceCompletion s = .next t) : Happens .announceCompletion s t := by
  obtain rfl := Host.Outcome.next.inj h
  split
  · split
    · exact .beside ((withAnnouncer_beside ..).trans (busCompletion_beside _))
    · exact .same ..
  all_goals exact .same ..

theorem execQueryCompletion_happens (h : execQueryCompletion s = .next t) : Happens .queryCompletion s t := by
  obtain rfl := Host.Outcome.next.inj h
  split
  · split
    · exact .beside ((withAnnouncer_beside ..).trans (busCompletion_beside _))
    · exact .same ..
  all_goals exact .same ..

theorem execWithdrawCompletion_happens {pins : Pins} (h : execWithdrawCompletion s pins = .next t) :
    Happens (.withdrawCompletion pins) s t :=
  .of_guarded h fun _ => .released _ _ _

/-! ### The Controller Port -/

theorem execRead_happens {place : ReadFrom} {count : Nat} (h : execRead place count s = .next t) :
    Happens (.read place count) s t := by
  refine .of_guarded h fun _ => ?_
  split
  · exact .beside ((openRead_beside ..).trans (readOn_beside ..))
  · exact .beside (readOn_beside ..)

theorem execPopEvent_happens (h : execPopEvent s = .next t) : Happens .popEvent s t :=
  .of_guarded h fun _ => .pops rfl

theorem execSoftReset_happens {pins : Pins} (h : execSoftReset s pins = .next t) : Happens (.softReset pins) s t :=
  .of_guarded h fun _ => softResetTaken_happens _ pins (answer_beside ..)

theorem execUnknownCommand_happens {n : Byte} (h : execUnknownCommand n s = .next t) :
    Happens (.unknownCommand n) s t := .of_guarded h fun _ => .beside (answer_beside ..)

theorem execSettleExpiry_happens (h : execSettleExpiry s = .next t) : Happens .settleExpiry s t := by
  refine .of_guarded h fun guard => ?_
  simp only [Bool.and_eq_true, decide_eq_true_eq, ranOut_iff] at guard
  exact .locks guard.1.1 guard.1.2 guard.2

/-- What every command does to the inputs, the Selector and the Output Follower. -/
theorem exec_happens (h : exec c s = .next t) : Happens c s t := by
  cases c with
  | powerReset => obtain rfl := Host.Outcome.next.inj h; exact .cleared .power
  | pinReset => exact execPinReset_happens h
  | resetRelease => exact execResetRelease_happens h
  | msPoint => exact execMsPoint_happens h
  | gateCompletion => exact execGateCompletion_happens h
  | holdOffExpiry =>
    refine .of_guarded h fun guard => ?_
    simp only [Bool.and_eq_true, decide_eq_true_eq] at guard
    exact .of_body (.holdOff guard.1.1 guard.1.2)
  | wtrExpiry =>
    refine .of_guarded h fun guard => ?_
    simp only [Bool.and_eq_true, decide_eq_true_eq] at guard
    exact .of_body (.wtr guard.1.1 guard.1.2 guard.2)
  | settleExpiry => exact execSettleExpiry_happens h
  | valueExpiry =>
    refine .of_guarded h fun guard => ?_
    simp only [Bool.and_eq_true] at guard
    exact .of_body (.value guard.1 guard.2)
  | stepAgeReached =>
    refine .of_guarded h fun guard => ?_
    simp only [Bool.and_eq_true] at guard
    exact .of_body (.age guard.1.1 guard.1.2 guard.2)
  | warmupEnd =>
    refine .of_guarded h fun guard => ?_
    simp only [Bool.and_eq_true] at guard
    exact .of_body (.warmup guard.1 guard.2)
  | announceReceived => exact execAnnounceReceived_happens h
  | queryReceived => exact execQueryReceived_happens h
  | withdrawReceived => exact execWithdrawReceived_happens h
  | badFrame => exact execBadFrame_happens h
  | frameAbandoned => exact execFrameAbandoned_happens h
  | entryStale => exact execEntryStale_happens h
  | entryRemoval => exact execEntryRemoval_happens h
  | rateWindowEnd => exact .of_guarded h fun _ => .beside (withWindow_beside ..)
  | transmissionStart => exact .of_guarded h fun _ => .beside (startTransmission_beside s)
  | restEnd => exact .of_guarded h fun _ => .beside (withBus_beside ..)
  | announceCompletion => exact execAnnounceCompletion_happens h
  | queryCompletion => exact execQueryCompletion_happens h
  | withdrawCompletion => exact execWithdrawCompletion_happens h
  | clash pins => exact .of_guarded h fun _ => clashNow_happens _ pins
  | periodicTimerExpiry => exact .of_guarded h fun _ => .beside ((withAnnouncer_beside ..).trans (syncWant_beside _))
  | spacingExpiry => exact .of_guarded h fun _ => .beside ((withAnnouncer_beside ..).trans (syncWant_beside _))
  | withdrawWaitExpiry pins => exact .of_guarded h fun _ => withdrawWaitEnd_happens _ pins
  | eepromReadDone => exact execEepromReadDone_happens h
  | eepromAttemptFailed => exact execEepromAttemptFailed_happens h
  | eepromRetry => exact execEepromRetry_happens h
  | read => exact execRead_happens h
  | loadImage => exact execLoadImage_happens h
  | start => exact execStart_happens h
  | force => exact execForce_happens h
  | unforce => exact execUnforce_happens h
  | lockout => exact execLockout_happens h
  | release => exact execRelease_happens h
  | popEvent => exact execPopEvent_happens h
  | softReset => exact execSoftReset_happens h
  | unknownCommand => exact execUnknownCommand_happens h
  | foreignStartBit => exact execForeignStartBit_happens h
  | malformedFrame => exact execMalformedFrame_happens h

end

end Sys2Proof.Machine
end


section
/-! PROOF. O54: the records keep the table of R44, and the Selector's active input, the records, the output and the force
stay in agreement, over every step. -/

namespace Sys2Proof.Machine

section

variable {s t u v : State} {c : Instr}

/-- A step is one LOSC cycle, or the command at the front of the queue. -/
theorem step_cases (h : step s = .next t) : t = tick s ∨
    ∃ (c : Instr) (rest : List Instr), s.pending = c :: rest ∧ Happens c { s with pending := rest } t ∧
      exec c { s with pending := rest } = .next t := by
  unfold step at h
  split at h
  case h_1 => exact .inl (Host.Outcome.next.inj h).symm
  case h_2 c rest front => exact .inr ⟨c, rest, front, exec_happens h, h⟩

/-! ### One LOSC cycle -/

theorem tickWtr_none_iff (n : Nat) (w : Wtr) : tickWtr n w = .none ↔ w = .none := by cases w <;> simp [tickWtr]

theorem tickRecord_lawful {r : InputRec} (c : InputCfg) (law : RecordLaw r) : RecordLaw (tickRecord c r) := by
  obtain ⟨bare, barred, proving, suspect⟩ := law
  refine ⟨fun h => ?_, fun h => ?_, fun h => ?_, fun h => ?_⟩
  · obtain ⟨reasons, seen, holdOff, wtr, origin⟩ := bare h
    exact ⟨reasons, seen, by simp [tickRecord, holdOff], (tickWtr_none_iff ..).mpr wtr, origin⟩
  · obtain ⟨reasons, holdOff, wtr, origin, hard⟩ := barred h
    exact ⟨reasons, by simp [tickRecord, holdOff], (tickWtr_none_iff ..).mpr wtr, origin, hard⟩
  · obtain ⟨reasons, seen, holdOff, wtr, origin⟩ := proving h
    exact ⟨reasons, seen, by simp [tickRecord, holdOff], mt (tickWtr_none_iff ..).mp wtr, origin⟩
  · obtain ⟨reasons, seen, holdOff, wtr, origin⟩ := suspect h
    exact ⟨reasons, seen, by simpa [tickRecord] using holdOff, (tickWtr_none_iff ..).mpr wtr, origin⟩

theorem tick_of_hold (h : s.hold.isSome = true) : tick s = s := if_pos h

theorem tick_records (h : s.hold.isSome = false) (i : Inp) :
    (tick s).records[i] = tickRecord (inputCfg s i) s.records[i] := by simp [tick, h]

theorem tick_selector (s : State) : (tick s).selector = s.selector := by unfold tick; split <;> rfl

theorem tick_follower (h : s.hold.isSome = false) : (tick s).follower = tickFollower s := by simp [tick, h]

theorem tickFollower_valid (s : State) : (tickFollower s).value.valid = s.follower.value.valid := by
  unfold tickFollower
  dsimp only
  split <;> rfl

theorem tick_law (records : RecordsLawful s) (law : SelectionLaw s) : RecordsLawful (tick s) ∧ SelectionLaw (tick s) := by
  by_cases h : s.hold.isSome = true
  · rw [tick_of_hold h]
    exact ⟨records, law⟩
  · have noHold : s.hold.isSome = false := by simpa using h
    have get := tick_records noHold
    have follower := tick_follower noHold
    obtain ⟨active, ⟨own, bridging⟩, ⟨history, settle, origin⟩, value, force⟩ := law
    refine ⟨fun i => get i ▸ tickRecord_lawful _ (records i), fun i => ?_, ⟨?_, fun i hi => ?_⟩, ⟨?_, ?_, ?_⟩, ⟨?_, ?_⟩, ?_⟩
    · rw [tick_selector, get]
      exact active i
    · rw [tick_selector, follower]
      exact own
    · rw [follower, get]
      exact bridging i (tick_selector s ▸ hi)
    · rw [follower]
      exact history
    · rw [follower]
      simpa [tickFollower] using settle
    · rw [follower]
      exact origin
    · rw [follower, tickFollower_valid]
      exact value.1
    · rw [follower, tickFollower_valid]
      exact value.2
    · simp only [ForceLaw, tick_selector, follower]
      exact force

/-! ### Resets and START -/

theorem init_lawful : RecordLaw InputRec.init := by
  refine ⟨fun _ => ⟨rfl, rfl, rfl, rfl, rfl⟩, ?_, ?_, ?_⟩ <;> (intro h; cases h)

/-- No input is in use, as after a reset (R67, R69, R112). -/
theorem law_of_reset {warm : Bool} (records : ∀ i : Inp, t.records[i] = InputRec.init)
    (selector : t.selector = Selector.init) (follower : t.follower = Follower.init warm) :
    RecordsLawful t ∧ SelectionLaw t := by
  refine ⟨fun i => records i ▸ init_lawful, fun i => ?_, ⟨?_, fun i h => ?_⟩, ⟨?_, ?_, ?_⟩, ⟨?_, ?_⟩, ?_, ?_⟩
  · rw [records, selector]
    decide +revert
  · simp [selector, Selector.init, follower, Follower.init]
  · simp [selector, Selector.init] at h
  all_goals simp [selector, Selector.init, follower, Follower.init, HoldValue.invalid]

theorem cleared_law (kind : ResetKind) (pins : Pins) (pending : List Instr) :
    RecordsLawful (State.cleared kind pins pending) ∧ SelectionLaw (State.cleared kind pins pending) :=
  law_of_reset (warm := false) (fun i => by simp [State.cleared]) rfl rfl

theorem released_law (kind : ResetKind) (pins : Pins) (port : Port) (pending : List Instr) :
    RecordsLawful (released kind pins port pending) ∧ SelectionLaw (released kind pins port pending) :=
  law_of_reset (warm := decide (kind = .power)) (fun i => by simp [released, State.cleared]) rfl rfl

theorem recordAtStart_state (c : InputCfg) :
    (recordAtStart c).state = if c.use = .off then .off else .proving := by
  unfold recordAtStart
  split <;> rfl

theorem recordAtStart_lawful (c : InputCfg) : RecordLaw (recordAtStart c) := by
  unfold recordAtStart
  split
  · exact init_lawful
  · refine ⟨?_, ?_, fun _ => ⟨rfl, rfl, rfl, by simp, rfl⟩, ?_⟩ <;> (intro h; simp at h)

theorem startUnits_get (held : Option Nat) (s : State) (i : Inp) :
    (startUnits held s).records[i] = recordAtStart (inputCfg s i) := by simp [startUnits]

theorem recordAtStart_inactive (c : InputCfg) : (recordAtStart c).isActive = false := by
  apply InputRec.isActive_eq_false
  rw [recordAtStart_state]
  split <;> simp

theorem startUnits_law (held : Option Nat) (s : State) :
    RecordsLawful (startUnits held s) ∧ SelectionLaw (startUnits held s) := by
  have own : (startUnits held s).selector = Selector.init := rfl
  refine ⟨fun i => startUnits_get held s i ▸ recordAtStart_lawful _, fun i => ?_, ⟨?_, fun i h => ?_⟩, ⟨?_, ?_, ?_⟩, ⟨?_, ?_⟩, ?_, ?_⟩
  · rw [startUnits_get, recordAtStart_inactive, own]
    simp [Selector.init]
  · simp [startUnits, Selector.init, followerAtStart, Follower.init]
  · simp [own, Selector.init] at h
  all_goals simp [startUnits, Selector.init, followerAtStart, Follower.init, HoldValue.invalid]

theorem startInput_get_of_ne {i j : Inp} (h : i ≠ j) (s : State) : (startInput i s).records[j] = s.records[j] := by
  unfold startInput
  split
  · rw [qualify_get, if_neg h]
  · rfl

theorem MidEvent.startInput {before : State} {i : Inp} (mid : MidEvent before s)
    (untouched : s.records[i].state = before.records[i].state) : MidEvent before (startInput i s) := by
  unfold Machine.startInput
  split
  · exact mid.qualify untouched _
  · exact mid

/-- The inputs move in the START event one after the other, each once. -/
theorem MidEvent.startList {before : State} : ∀ (inputs : List Inp) {s : State}, inputs.Nodup →
    MidEvent before s → (∀ i ∈ inputs, s.records[i].state = before.records[i].state) →
    MidEvent before (inputs.foldl (fun t i => Machine.startInput i t) s)
  | [], _, _, mid, _ => mid
  | i :: inputs, s, distinct, mid, untouched => by
    obtain ⟨absent, distinct'⟩ := List.nodup_cons.mp distinct
    rw [List.foldl_cons]
    refine startList inputs distinct' (mid.startInput (untouched i List.mem_cons_self)) fun j mem => ?_
    have other : i ≠ j := fun h => absent (h ▸ mem)
    rw [startInput_get_of_ne other, untouched j (List.mem_cons_of_mem _ mem)]

theorem MidEvent.startInputs {before : State} (mid : MidEvent before s)
    (untouched : ∀ i : Inp, s.records[i].state = before.records[i].state) :
    MidEvent before (startInputs s) :=
  .startList _ (List.nodup_finRange 6) mid fun i _ => untouched i

theorem MidOutput.withWarm {before : State} (mid : MidOutput before s) (warm : Bool) (count : Nat) :
    MidOutput before (s.withFollower { s.follower with warm := warm, warmCount := count }) := { mid with }

theorem MidEvent.clearWarmup {before : State} (mid : MidEvent before s) : MidEvent before (clearWarmup s) := by
  have warmed : MidEvent before (s.withFollower { s.follower with
      warm := false, warmCount := max s.follower.warmCount (cfg s).warmup }) :=
    ⟨mid.toMidRecords.congr (by simp) (by simp), mid.toMidOutput.withWarm ..⟩
  exact warmed.congr (by simp [Machine.clearWarmup]) (by simp [Machine.clearWarmup]) (by simp [Machine.clearWarmup])

theorem MidEvent.warmupAtStart {before : State} (mid : MidEvent before s) : MidEvent before (warmupAtStart s) := by
  unfold Machine.warmupAtStart
  split
  · exact mid.clearWarmup
  · exact mid

/-- The state in which START's evaluation decides. -/
def startReady (held : Option Nat) (s : State) : State :=
  warmupAtStart (startInputs (logStarted (startUnits held s)))

theorem startPart_eq (held : Option Nat) (s : State) :
    startPart held s = syncWant (evaluate none (startReady held s)).1 := rfl

theorem startUnits_mid (held : Option Nat) (s : State) :
    MidEvent (startUnits held s) (warmupAtStart (startInputs (logStarted (startUnits held s)))) := by
  obtain ⟨records, law⟩ := startUnits_law held s
  have logged : MidEvent (startUnits held s) (logStarted (startUnits held s)) :=
    (MidEvent.begin records law).congr (by simp [logStarted]) (by simp [logStarted]) (by simp [logStarted])
  exact (logged.startInputs fun i => by simp [logStarted]).warmupAtStart

theorem followMove_force (i : Inp) (r r' : InputRec) (s : State) :
    (followMove i r r' s).selector.force = s.selector.force := by
  unfold followMove
  split
  · simp
  · split
    · simp
    · split <;> rfl

theorem qualify_force (i : Inp) (x : Reasons) (s : State) : (qualify i x s).selector.force = s.selector.force := by
  rw [qualify, applyMove_eq, followMove_force]
  simp

theorem startInput_force (i : Inp) (s : State) : (startInput i s).selector.force = s.selector.force := by
  unfold startInput
  split
  · exact qualify_force ..
  · rfl

theorem startInputs_force (s : State) : (startInputs s).selector.force = s.selector.force := by
  unfold startInputs
  induction List.finRange 6 using List.reverseRecOn with
  | nil => rfl
  | append_singleton inputs i ih =>
    rw [List.foldl_append, List.foldl_cons, List.foldl_nil, startInput_force, ih]

theorem warmupAtStart_selector (s : State) : (warmupAtStart s).selector = s.selector := by
  unfold warmupAtStart
  split
  · simp [clearWarmup]
  · rfl

theorem clearBarredForce_of_unforced (h : s.selector.force = .none) : clearBarredForce s = s := by
  simp [clearBarredForce, h]

theorem startReady_deciding (held : Option Nat) (s : State) : Deciding none (startReady held s) := by
  have force : (startReady held s).selector.force = .none := by
    rw [startReady, warmupAtStart_selector, startInputs_force]
    simp [logStarted, startUnits, Selector.init]
  have ready := (startUnits_mid held s).deciding
  rwa [← startReady, clearBarredForce_of_unforced force] at ready

theorem startPart_law (held : Option Nat) (s : State) :
    RecordsLawful (startPart held s) ∧ SelectionLaw (startPart held s) := by
  have ready := startReady_deciding held s
  rw [startPart_eq]
  refine ⟨?_, ?_⟩
  · exact (recordsLawful_congr (by simp)).mpr ((evaluate_moves none _).recordsLawful ready.records)
  · exact (selectionLaw_congr (by simp) (by simp) (by simp)).mpr ready.evaluate_law

/-! ### The events of a RUNNING part -/

/-- A force that names an input which is not BARRED stands (R86). -/
theorem clearBarredForce_withForce {f : Force} (usable : ∀ i : Inp, f = .input i → s.records[i].state ≠ .barred) :
    clearBarredForce (s.withForce f) = s.withForce f := by
  cases f with
  | none | holdover => rfl
  | input i => exact if_neg (usable i rfl)

theorem forceable_fit {i : Inp} (h : forceable s (.input i) = true) :
    s.records[i].fit = true ∧ s.records[i].state ≠ .barred := by
  have usable : s.records[i].state = .ready ∨ s.records[i].state = .active := of_decide_eq_true h
  simp only [InputRec.fit, decide_eq_true_eq]
  rcases usable with h | h <;> simp [h, -Fin.getElem_fin]

theorem withForce_usable {f : Force} (can : f = .none ∨ forceable s f = true) (i : Inp) (named : f = .input i) :
    s.records[i].fit = true ∧ s.records[i].state ≠ .barred := by
  subst named
  exact forceable_fit (can.resolve_left (by simp))

theorem setForce_stands {f : Force} (can : f = .none ∨ forceable s f = true) :
    clearBarredForce (s.withForce f) = s.withForce f :=
  clearBarredForce_withForce fun i named => (withForce_usable can i named).2

/-- The Selector can decide on a force that may be set (R83, R84). -/
theorem setForce_deciding {f : Force} (records : RecordsLawful s) (law : SelectionLaw s)
    (can : f = .none ∨ forceable s f = true) :
    Deciding s.selector.active (clearBarredForce (s.withForce f)) := by
  rw [setForce_stands can]
  have ready := deciding_of_selectionLaw records law
  refine { ready with forced := fun i named => (withForce_usable can i named).1, forcedOwn := fun own => ?_ }
  obtain rfl : f = .holdover := own
  exact can.resolve_left (by simp)

/-- A change of the force is one that the Selector evaluates on (R78). -/
theorem setForce_due {f : Force} (other : s.selector.force ≠ f) (can : f = .none ∨ forceable s f = true) :
    evaluationDue s (clearBarredForce (s.withForce f)) ≠ false := fun idle => by
  rw [setForce_stands can] at idle
  exact other ((evaluationDue_eq_false_iff _ _).mp idle).2.2

theorem setForce_law {f : Force} (records : RecordsLawful s) (law : SelectionLaw s) (other : s.selector.force ≠ f)
    (can : f = .none ∨ forceable s f = true) :
    RecordsLawful (settleEvent s false false (s.withForce f)) ∧
      SelectionLaw (settleEvent s false false (s.withForce f)) :=
  settleEvent_law false false (setForce_deciding records law can) fun _ idle => absurd idle (setForce_due other can)

theorem clearHoldoverForce_selector (s : State) : (clearHoldoverForce s).selector =
    { s.selector with force := if s.selector.force = .holdover then .none else s.selector.force } := by
  unfold clearHoldoverForce
  split
  · simp [State.withForce]
  · rfl

theorem clearHoldoverForce_follower (s : State) : (clearHoldoverForce s).follower = s.follower := by
  unfold clearHoldoverForce
  split <;> simp

theorem clearHoldoverForce_records (s : State) : (clearHoldoverForce s).records = s.records := by
  unfold clearHoldoverForce
  split <;> simp

theorem expireValue_records (s : State) : (expireValue s).records = s.records := by simp [expireValue]
theorem expireValue_selector (s : State) : (expireValue s).selector = s.selector := by simp [expireValue]
theorem expireValue_follower (s : State) : (expireValue s).follower = { s.follower with
    value := HoldValue.invalid
    output := if s.follower.output = .holdover then .freeRun else s.follower.output } := by simp [expireValue]

/-- After the expiry no force to HOLDOVER is left, and the output is not in it (R87, R104). -/
theorem expired_mid (records : RecordsLawful s) (law : SelectionLaw s) :
    MidEvent s (clearHoldoverForce (expireValue s)) := by
  have same : (clearHoldoverForce (expireValue s)).records = s.records := by
    rw [clearHoldoverForce_records, expireValue_records]
  have follower := (clearHoldoverForce_follower (expireValue s)).trans (expireValue_follower s)
  have selector := clearHoldoverForce_selector (expireValue s)
  rw [expireValue_selector] at selector
  have start := MidEvent.begin records law
  refine ⟨⟨?_, ?_, .inl (by rw [selector]), ?_⟩, ⟨?_, ?_, ?_, ?_, ?_⟩⟩
  · rw [recordsLawful_congr same]
    exact records
  · simpa only [ActiveAgrees, same, selector] using start.active
  · intro f named
    rw [selector] at named ⊢
    simp only at named
    split at named
    · cases named
    · simpa only [same] using start.forced f named
  · obtain ⟨history, settle, origin⟩ := start.shape
    rw [follower]
    refine ⟨?_, ?_, ?_⟩ <;> simp only <;> split
    · rename_i h
      exact fun _ => history (.inr (.inr (.inl h)))
    · exact history
    · rename_i h
      simpa [h] using settle
    · exact settle
    · rename_i h
      simpa [h] using origin
    · exact origin
  · rw [follower]
    refine ⟨fun _ => rfl, fun h => ?_⟩
    simp only at h
    split at h
    · cases h
    · contradiction
  · intro i active
    rw [selector] at active
    obtain ⟨follows, bridging⟩ := start.following i active
    rw [follower, same]
    simpa only [if_neg follows.2] using And.intro follows bridging
  · intro own
    have idle := start.own own
    rw [follower]
    dsimp only
    split
    · simp [Following]
    · exact idle
  · intro force
    rw [selector] at force
    simp only at force
    split at force
    · cases force
    · contradiction

theorem EntryPut.mid {k : Slot} {e : Option PeerEntry} (put : EntryPut s k e t) (records : RecordsLawful s)
    (law : SelectionLaw s) : MidEvent s t :=
  (MidEvent.begin records law).congr put.records put.selector put.follower

/-- A change of a station's entry, handed on to the inputs bound to it. -/
theorem EntryPut.recomputed_mid {k : Slot} {e : Option PeerEntry} (put : EntryPut s k e t) (records : RecordsLawful s)
    (law : SelectionLaw s) : MidEvent s (recomputeBound (address k) t) :=
  (put.mid records law).recomputeBound (fun i => by rw [put.records]) _

theorem joinHistory_ne_nil (history : List Int) (offset : Int) : joinHistory history offset ≠ [] := by
  intro h
  have := congrArg List.length h
  simp [joinHistory] at this
  omega

theorem MidEvent.takeOffset {before : State} (mid : MidEvent before s) (i : Inp) (m : Monitor) :
    MidEvent before (takeOffset i m s) := by
  unfold Machine.takeOffset
  split
  · rename_i joins
    obtain ⟨active, locked, -⟩ := joins
    obtain ⟨history, settle, origin⟩ := mid.shape
    refine ⟨mid.toMidRecords.congr rfl rfl, ⟨?_, settle, origin⟩, mid.value, mid.following, mid.own, mid.forcedOwn⟩
    have noOrigin : s.follower.bridging = none := by
      by_contra h
      exact absurd (locked.symm.trans (origin.mp h)) (by decide)
    simp [State.withFollower, locked, noOrigin]
  · exact mid

theorem MidEvent.withAge {before : State} (mid : MidEvent before s) (n : Nat) :
    MidEvent before (s.withFollower { s.follower with value := { s.follower.value with ageCycles := n } }) :=
  ⟨mid.toMidRecords.congr rfl rfl, { mid.toMidOutput with }⟩

/-- A PROVING record whose WTR is served (R53). -/
theorem served_lawful {r : InputRec} (law : RecordLaw r) (proving : r.state = .proving) :
    RecordLaw { r with wtr := .served } := by
  obtain ⟨-, -, law, -⟩ := law
  obtain ⟨reasons, seen, holdOff, -, origin⟩ := law proving
  refine ⟨?_, ?_, fun _ => ⟨reasons, seen, holdOff, by simp, origin⟩, ?_⟩ <;> (intro h; simp [proving] at h)

theorem promote_inactive {r : InputRec} (full : Bool) (proving : r.state = .proving) :
    (r.promote full).1.isActive = false := by
  rcases r.promote_cases full with same | ⟨-, -, -, eq⟩
  · rw [same]
    exact InputRec.isActive_eq_false (by simp [proving])
  · rw [eq]
    rfl

/-- As the Selector's part of the end of an event begins. -/
theorem Body.mid {must expired : Bool} {m : State} (body : Body c s must expired m) (records : RecordsLawful s)
    (law : SelectionLaw s) : MidEvent s m ∨ ∃ f : Force, m = s.withForce f ∧ must = false ∧ expired = false ∧
      s.selector.force ≠ f ∧ (f = .none ∨ forceable s f = true) := by
  have start := MidEvent.begin records law
  cases body with
  | arises | clears => exact .inl ((start.congr (by simp) (by simp) (by simp)).qualify (by simp) _)
  | gate =>
    refine .inl (((start.congr (by simp) (by simp) (by simp)).takeOffset _ _).qualify ?_ _)
    unfold takeOffset
    split <;> simp
  | @holdOff i _ _ suspect =>
    refine .inl (start.applyMove (c := inputCfg s i) (full := windowFull s i) (x := s.records[i].reasons) rfl ?_)
    refine .bars (by simp [-Fin.getElem_fin, suspect]) (by simp [-Fin.getElem_fin, suspect]) ?_
    obtain ⟨-, -, -, law⟩ := records i
    rw [(law suspect).1]
    decide
  | @wtr i _ _ proving =>
    have inactive : s.records[i].isActive = false :=
      InputRec.isActive_eq_false (by simp [-Fin.getElem_fin, proving])
    have moved := InputRec.promote_moved (c := inputCfg s i) (full := windowFull s i) (served_lawful (records i) proving)
      proving
    refine .inl (start.applyInactive (moved.lawful (served_lawful (records i) proving)) inactive ?_ ?_)
    · exact promote_inactive _ proving
    · exact fun barred => absurd (proving.symm.trans barred) (by decide)
  | lockout | release => exact .inl (start.qualify rfl _)
  | force _ _ can other => exact .inr ⟨_, rfl, rfl, rfl, other, .inr can⟩
  | unforce _ other => exact .inr ⟨_, rfl, rfl, rfl, other, .inl rfl⟩
  | value => exact .inl (expired_mid records law)
  | age => exact .inl (start.withAge _)
  | warmup => exact .inl start.clearWarmup
  | announced _ _ _ put | withdrawn _ _ _ put | stale _ _ _ _ put | removed _ _ _ _ put =>
    exact .inl (put.recomputed_mid records law)

theorem Body.law {must expired : Bool} {m : State} (body : Body c s must expired m) (records : RecordsLawful s)
    (law : SelectionLaw s) :
    RecordsLawful (settleEvent s must expired m) ∧ SelectionLaw (settleEvent s must expired m) := by
  rcases body.mid records law with mid | ⟨f, rfl, rfl, rfl, other, can⟩
  · exact mid.settle must expired
  · exact setForce_law records law other can

theorem settleEnd_law (records : RecordsLawful s) (law : SelectionLaw s) (acquiring : s.follower.output = .acquiring) :
    RecordsLawful (settleEnd s) ∧ SelectionLaw (settleEnd s) := by
  obtain ⟨active, ⟨own, bridging⟩, ⟨-, -, origin⟩, -, force, forceOwn⟩ := law
  have noOrigin : s.follower.bridging = none := by
    by_contra h
    exact absurd (acquiring.symm.trans (origin.mp h)) (by decide)
  have follower : (settleEnd s).follower = { s.follower with output := .locked, settle := none } := by simp [settleEnd]
  have same : (settleEnd s).records = s.records := by simp [settleEnd]
  have selector : (settleEnd s).selector = s.selector := by simp [settleEnd]
  refine ⟨(recordsLawful_congr same).mpr records, ?_, ⟨?_, ?_⟩, ⟨?_, ?_, ?_⟩, ⟨?_, ?_⟩, ?_, ?_⟩
  · simpa only [ActiveAgrees, same, selector] using active
  · simpa [selector, follower, acquiring] using own
  · simpa [-Fin.getElem_fin, selector, follower, same, acquiring] using bridging
  · simp [follower, noOrigin]
  · simp [follower]
  · simp [follower, noOrigin]
  · simp [follower]
  · simp [follower]
  · simpa [selector] using force
  · intro h
    rw [selector] at h
    exact absurd (acquiring.symm.trans (forceOwn h)) (by decide)

theorem law_withPort (p : Port) (laws : RecordsLawful s ∧ SelectionLaw s) :
    RecordsLawful (s.withPort p) ∧ SelectionLaw (s.withPort p) := laws

theorem Happens.law (happens : Happens c s t) (records : RecordsLawful s) (law : SelectionLaw s) :
    RecordsLawful t ∧ SelectionLaw t := by
  have kept {t : State} (h1 : t.records = s.records) (h2 : t.selector = s.selector) (h3 : t.follower = s.follower) :
      RecordsLawful t ∧ SelectionLaw t :=
    ⟨(recordsLawful_congr h1).mpr records, (selectionLaw_congr h1 h2 h3).mpr law⟩
  cases happens with
  | aside aside => exact kept aside.records aside.selector aside.follower
  | cleared => exact cleared_law ..
  | released => exact released_law ..
  | loading _ _ only _ => rw [only]; exact kept rfl rfl rfl
  | starts held _ _ _ _ result => rw [result]; exact law_withPort _ (startPart_law ..)
  | pops result => rw [result]; exact kept rfl rfl rfl
  | sampled => exact kept rfl rfl rfl
  | locks _ acquiring => exact settleEnd_law records law acquiring
  | event beside _ body result =>
    rw [result]
    refine law_withPort _ (body.law ?_ ?_)
    · exact (recordsLawful_congr beside.records).mpr records
    · exact (selectionLaw_congr beside.records beside.selector beside.follower).mpr law

end
end Sys2Proof.Machine

open Sys2Proof Sys2Proof.Machine

/-- Settles O54: a LOSC cycle moves only timers; every event is a series of moves that keep what the Selector needs to
decide, and its evaluation restores the whole law. -/
theorem selectionStands : Obligations.SelectionStands := by
  unfold Obligations.SelectionStands
  intro s t records law h
  rcases step_cases h with rfl | ⟨c, rest, -, happens, -⟩
  · exact tick_law records law
  · exact happens.law records law

end


section
/-! PROOF. O55: the own address, the part state and the held image stay in agreement, and the gates run exactly while
SIGNAL is clear. First, which units each part of an event and of START leaves as they were. -/

namespace Sys2Proof.Machine

section

variable {s t u v m : State} {c : Instr} {i : Inp} {must expired : Bool}

/-! ### What the bodies of the events leave alone -/

/-- The units that no event of a RUNNING part touches before its end. -/
structure SameUnits (s t : State) : Prop where
  hold : t.hold = s.hold
  cause : t.cause = s.cause
  pins : t.pins = s.pins
  loader : t.loader = s.loader
  bus : t.bus = s.bus
  port : t.port = s.port
  pending : t.pending = s.pending

theorem SameUnits.refl (s : State) : SameUnits s s := ⟨rfl, rfl, rfl, rfl, rfl, rfl, rfl⟩

theorem SameUnits.running (same : SameUnits s t) : running t = running s := running_congr same.hold same.loader

theorem inputCfg_congr (loader : t.loader = s.loader) (i : Inp) : inputCfg t i = inputCfg s i := by
  simp only [inputCfg, loader]

theorem measuring_congr (hold : t.hold = s.hold) (loader : t.loader = s.loader) (i : Inp) :
    measuring t i = measuring s i := by
  simp only [measuring, used, inputCfg_congr loader, running_congr hold loader]

theorem EntryPut.units {k : Slot} {e : Option PeerEntry} (put : EntryPut s k e t) : SameUnits s t :=
  ⟨put.hold, put.cause, put.pins, put.loader, put.bus, put.port, put.pending⟩

theorem EntryPut.recomputed_units {k : Slot} {e : Option PeerEntry} (put : EntryPut s k e t) (a : Nat) :
    SameUnits s (recomputeBound a t) := by
  constructor <;> simp [put.hold, put.cause, put.pins, put.loader, put.bus, put.port, put.pending]

theorem takeOffset_eq (i : Inp) (m : Monitor) (s : State) :
    takeOffset i m s = s.withFollower (takeOffset i m s).follower := by
  unfold takeOffset
  split <;> rfl

theorem clearHoldoverForce_eq (s : State) : clearHoldoverForce s =
    (s.withSelector (clearHoldoverForce s).selector).withLog (clearHoldoverForce s).log := by
  unfold clearHoldoverForce
  split <;> rfl

theorem Body.units (body : Body c s must expired m) : SameUnits s m := by
  cases body with
  | announced _ _ _ put | withdrawn _ _ _ put | stale _ _ _ _ put | removed _ _ _ _ put =>
    exact put.recomputed_units _
  | gate =>
    rw [takeOffset_eq]
    constructor <;> simp
  | value =>
    rw [clearHoldoverForce_eq]
    constructor <;> simp [expireValue]
  | age | force | unforce => exact ⟨rfl, rfl, rfl, rfl, rfl, rfl, rfl⟩
  | _ => constructor <;> simp [clearWarmup]

/-! ### START, unit by unit -/

/-- What the move of one input at START leaves, the moves of all six leave. -/
theorem startInputs_keeps {α : Type} {field : State → α} (each : ∀ i s, field (startInput i s) = field s) (s : State) :
    field (startInputs s) = field s := by
  unfold startInputs
  induction List.finRange 6 using List.reverseRecOn with
  | nil => rfl
  | append_singleton inputs i ih => rw [List.foldl_append, List.foldl_cons, List.foldl_nil, each, ih]

theorem startInput_units (i : Inp) (s : State) : SameUnits s (startInput i s) := by
  unfold startInput
  split
  · constructor <;> simp
  · exact .refl s

theorem startInput_monitors (i : Inp) (s : State) : (startInput i s).monitors = s.monitors := by
  unfold startInput
  split <;> simp

theorem startInput_announcer (i : Inp) (s : State) : (startInput i s).announcer = s.announcer := by
  unfold startInput
  split <;> simp

@[simp] theorem startInputs_hold (s : State) : (startInputs s).hold = s.hold :=
  startInputs_keeps (fun i s => (startInput_units i s).hold) s
@[simp] theorem startInputs_cause (s : State) : (startInputs s).cause = s.cause :=
  startInputs_keeps (fun i s => (startInput_units i s).cause) s
@[simp] theorem startInputs_pins (s : State) : (startInputs s).pins = s.pins :=
  startInputs_keeps (fun i s => (startInput_units i s).pins) s
@[simp] theorem startInputs_loader (s : State) : (startInputs s).loader = s.loader :=
  startInputs_keeps (fun i s => (startInput_units i s).loader) s
@[simp] theorem startInputs_bus (s : State) : (startInputs s).bus = s.bus :=
  startInputs_keeps (fun i s => (startInput_units i s).bus) s
@[simp] theorem startInputs_port (s : State) : (startInputs s).port = s.port :=
  startInputs_keeps (fun i s => (startInput_units i s).port) s
@[simp] theorem startInputs_pending (s : State) : (startInputs s).pending = s.pending :=
  startInputs_keeps (fun i s => (startInput_units i s).pending) s
@[simp] theorem startInputs_monitors (s : State) : (startInputs s).monitors = s.monitors :=
  startInputs_keeps startInput_monitors s
@[simp] theorem startInputs_announcer (s : State) : (startInputs s).announcer = s.announcer :=
  startInputs_keeps startInput_announcer s

theorem clearWarmup_eq (s : State) : clearWarmup s =
    (s.withFollower { s.follower with warm := false, warmCount := max s.follower.warmCount (cfg s).warmup }).withLog
      (s.log.append .warmupDone ((cfg s).warmup / 256) ((cfg s).warmup % 256)) := rfl

theorem warmupAtStart_eq (s : State) : warmupAtStart s =
    (s.withFollower (warmupAtStart s).follower).withLog (warmupAtStart s).log := by
  unfold warmupAtStart
  split <;> rfl

@[simp] theorem startPart_hold (held : Option Nat) (s : State) : (startPart held s).hold = s.hold := by
  rw [startPart_eq, startReady, warmupAtStart_eq]
  simp [logStarted, startUnits]
@[simp] theorem startPart_cause (held : Option Nat) (s : State) : (startPart held s).cause = s.cause := by
  rw [startPart_eq, startReady, warmupAtStart_eq]
  simp [logStarted, startUnits]
@[simp] theorem startPart_pins (held : Option Nat) (s : State) : (startPart held s).pins = s.pins := by
  rw [startPart_eq, startReady, warmupAtStart_eq]
  simp [logStarted, startUnits]
@[simp] theorem startPart_port (held : Option Nat) (s : State) : (startPart held s).port = s.port := by
  rw [startPart_eq, startReady, warmupAtStart_eq]
  simp [logStarted, startUnits]
@[simp] theorem startPart_pending (held : Option Nat) (s : State) : (startPart held s).pending = s.pending := by
  rw [startPart_eq, startReady, warmupAtStart_eq]
  simp [logStarted, startUnits]
@[simp] theorem startPart_loader (held : Option Nat) (s : State) :
    (startPart held s).loader = { s.loader with partState := .running, eeprom := .idle } := by
  rw [startPart_eq, startReady, warmupAtStart_eq]
  simp [logStarted, startUnits]
@[simp] theorem startPart_announcer (held : Option Nat) (s : State) :
    (startPart held s).announcer = announcerAtStart := by
  rw [startPart_eq, startReady, warmupAtStart_eq]
  simp [logStarted, startUnits]
theorem startPart_monitors (held : Option Nat) (s : State) (i : Inp) :
    (startPart held s).monitors[i] = monitorAtStart s.monitors[i] (inputCfg s i) := by
  rw [startPart_eq, startReady, warmupAtStart_eq]
  simp [logStarted, startUnits]
theorem startPart_inputCfg (held : Option Nat) (s : State) (i : Inp) :
    inputCfg (startPart held s) i = inputCfg s i := by
  simp [inputCfg]

theorem startPart_running (held : Option Nat) (s : State) (open' : s.hold = none) :
    running (startPart held s) = true := by
  simp [running, open']

/-! ### The loader's law -/

theorem loaderLaw_congr (hold : t.hold = s.hold) (loader : t.loader = s.loader) : LoaderLaw t ↔ LoaderLaw s := by
  simp only [LoaderLaw, hold, loader]

theorem loaderLaw_of_hold (h : s.hold ≠ none) : LoaderLaw s := fun noHold => absurd noHold h

theorem released_loaderLaw (kind : ResetKind) (pins : Pins) (port : Port) (pending : List Instr) :
    LoaderLaw (released kind pins port pending) := by
  intro _
  simp only [released, loaderAtRelease, strapGood, decide_eq_true_eq]
  split
  · rename_i good
    split
    · refine ⟨good.2, ?_, ?_, ?_, ?_⟩ <;> simp [Loader.init]
      omega
    · refine ⟨good.2, ?_, ?_, ?_, ?_⟩ <;> simp [Loader.init]
      omega
  · simp [Loader.init]

theorem released_not_running (kind : ResetKind) (pins : Pins) (port : Port) (pending : List Instr) :
    running (released kind pins port pending) = false := by
  refine running_eq_false_of_part ?_
  simp only [released, loaderAtRelease]
  split
  · split <;> simp
  · simp

theorem startPart_loaderLaw (held : Option Nat) (law : LoaderLaw s) (holds : s.loader.held = true)
    (notAddress : s.loader.cause ≠ .address) : LoaderLaw (startPart held s) := by
  intro noHold
  rw [startPart_hold] at noHold
  obtain ⟨small, own, -, -, image⟩ := law noHold
  rw [startPart_loader]
  exact ⟨small, own, fun h => absurd h notAddress, fun _ => holds, image⟩

theorem tickLoader_eq (l : Loader) : tickLoader l = { l with eeprom := (tickLoader l).eeprom } := by
  unfold tickLoader
  split <;> rfl

theorem tick_hold (s : State) : (tick s).hold = s.hold := by
  unfold tick
  split <;> rfl

theorem tick_loader (s : State) : (tick s).loader = { s.loader with eeprom := (tick s).loader.eeprom } := by
  unfold tick
  split
  · rfl
  · exact tickLoader_eq s.loader

theorem tick_loaderLaw (law : LoaderLaw s) : LoaderLaw (tick s) := by
  intro noHold
  rw [tick_hold] at noHold
  rw [tick_loader]
  exact law noHold

theorem withPort_loaderLaw (p : Port) (law : LoaderLaw s) : LoaderLaw (s.withPort p) := law

theorem Happens.loaderLaw (happens : Happens c s t) (law : LoaderLaw s) : LoaderLaw t := by
  cases happens with
  | aside aside => exact (loaderLaw_congr aside.hold aside.loader).mpr law
  | cleared => exact loaderLaw_of_hold (by simp [State.cleared])
  | released => exact released_loaderLaw _ _ _ _
  | loading _ _ _ lawful => exact lawful law
  | starts held _ _ _ lawful result =>
    obtain ⟨law, holds, notAddress⟩ := lawful law
    rw [result]
    exact withPort_loaderLaw _ (startPart_loaderLaw held law holds notAddress)
  | pops result =>
    rw [result]
    exact law
  | sampled => exact law
  | locks => exact (loaderLaw_congr (by simp [settleEnd]) (by simp [settleEnd])).mpr law
  | event beside _ body result =>
    rw [result]
    refine withPort_loaderLaw _ ((loaderLaw_congr ?_ ?_).mpr law)
    · rw [settleEvent_hold, body.units.hold, beside.hold]
    · rw [settleEvent_loader, body.units.loader, beside.loader]

/-! ### The law of the measuring layer -/

/-- The law of one monitor, whose measuring layer works or does not (R17, R25, R27). -/
def GateLaw (on : Bool) (m : Monitor) : Prop :=
  (on = true → (m.gate.run = true ↔ m.signal = false) ∧ (m.signal = true → m.window = []) ∧
    (m.signal = true ↔ m.losCause = true ∨ m.activityCause = true)) ∧
  (on = false → m.gate.run = false ∧ m.window = [] ∧ m.lastOffset = none ∧ m.freq = false ∧ m.check = .none ∧
    m.signal = false)

theorem measuringLaw_iff (s : State) : MeasuringLaw s ↔ ∀ i : Inp, GateLaw (measuring s i) s.monitors[i] := Iff.rfl

theorem measuringLaw_congr (hold : t.hold = s.hold) (loader : t.loader = s.loader) (monitors : t.monitors = s.monitors) :
    MeasuringLaw t ↔ MeasuringLaw s := by
  simp only [measuringLaw_iff, measuring_congr hold loader, monitors]

theorem withMonitor_forall {P : Inp → Monitor → Prop} (here : P i m') (there : ∀ j : Inp, P j s.monitors[j]) (j : Inp) :
    P j (s.withMonitor i m').monitors[j] := by
  rw [State.withMonitor_get]
  split
  · rename_i same
    exact same ▸ here
  · exact there j

theorem gateLaw_init (b : Bool) : GateLaw false (Monitor.init b) :=
  ⟨fun h => absurd h Bool.false_ne_true, fun _ => ⟨rfl, rfl, rfl, rfl, rfl, rfl⟩⟩

/-- The detectors move neither the gate nor the window, nor SIGNAL and what it is judged by (R18, R20). -/
theorem detect_keeps (m : Monitor) (high edge : Bool) : detect m high edge = { m with
    losLevel := (detect m high edge).losLevel, losCount := (detect m high edge).losCount
    present := (detect m high edge).present, activityRun := (detect m high edge).activityRun, msPhase := 0 } := by
  unfold detect activitySample losSample
  repeat' split
  all_goals rfl

theorem judgeSignal_iff (m : Monitor) (mode : LosMode) : (judgeSignal m mode).signal = true ↔
    (judgeSignal m mode).losCause = true ∨ (judgeSignal m mode).activityCause = true := by simp [judgeSignal]

theorem pointMonitor_of_measuring (on : measuring s i = true) (high edge : Bool) : pointMonitor s i high edge =
    judgeSignal (detect s.monitors[i] high edge) (inputCfg s i).losMode := if_pos on

theorem pointMonitor_of_not_measuring (off : measuring s i = false) (high edge : Bool) : pointMonitor s i high edge =
    detect s.monitors[i] high edge := if_neg (by simp [off])

/-- A sample keeps the gate, the window, the offset and the check (R21). -/
theorem pointMonitor_keeps (s : State) (i : Inp) (high edge : Bool) :
    (pointMonitor s i high edge).gate = s.monitors[i].gate ∧ (pointMonitor s i high edge).window = s.monitors[i].window ∧
    (pointMonitor s i high edge).lastOffset = s.monitors[i].lastOffset ∧
    (pointMonitor s i high edge).freq = s.monitors[i].freq ∧ (pointMonitor s i high edge).check = s.monitors[i].check := by
  unfold pointMonitor judgeSignal
  rw [detect_keeps]
  split <;> exact ⟨rfl, rfl, rfl, rfl, rfl⟩

theorem pointMonitor_signal_iff (on : measuring s i = true) (high edge : Bool) :
    (pointMonitor s i high edge).signal = true ↔ (pointMonitor s i high edge).losCause = true ∨
      (pointMonitor s i high edge).activityCause = true := by
  rw [pointMonitor_of_measuring on]
  exact judgeSignal_iff ..

theorem gateLaw_sampled {high edge : Bool} (law : GateLaw (measuring s i) s.monitors[i])
    (same : (pointMonitor s i high edge).signal = s.monitors[i].signal) :
    GateLaw (measuring s i) (pointMonitor s i high edge) := by
  obtain ⟨on, off⟩ := law
  obtain ⟨gate, window, lastOffset, freq, check⟩ := pointMonitor_keeps s i high edge
  rw [GateLaw, gate, window, lastOffset, freq, check]
  refine ⟨fun h => ?_, fun h => ?_⟩
  · rw [← pointMonitor_signal_iff h, same]
    exact ⟨(on h).1, (on h).2.1, Iff.rfl⟩
  · rw [same]
    exact off h

theorem gateLaw_arises {high edge : Bool} (on : measuring s i = true) (is : (pointMonitor s i high edge).signal = true) :
    GateLaw (measuring s i) (abandonGate (pointMonitor s i high edge)) := by
  refine ⟨fun _ => ⟨?_, fun _ => rfl, pointMonitor_signal_iff on high edge⟩, fun off => ?_⟩
  · simp [abandonGate, Gate.stopped, is]
  · simp [on] at off

theorem gateLaw_clears {high edge : Bool} (on : measuring s i = true) (is : (pointMonitor s i high edge).signal = false) :
    GateLaw (measuring s i) (beginGate (pointMonitor s i high edge)) := by
  refine ⟨fun _ => ⟨?_, fun h => ?_, pointMonitor_signal_iff on high edge⟩, fun off => ?_⟩
  · simp [beginGate, Gate.begun, is]
  · simp [beginGate, is] at h
  · simp [on] at off

/-- A completion moves the window, the offset and the check, and starts the next gate (R31). -/
theorem completeGate_eq (s : State) (i : Inp) (m : Monitor) (count : Nat) : completeGate s i m count = { m with
    gate := Gate.begun, window := joinWindow m.window count, lastOffset := (completeGate s i m count).lastOffset
    freq := (completeGate s i m count).freq, check := (completeGate s i m count).check } := by
  unfold completeGate
  dsimp only
  split <;> rfl

theorem gateLaw_completes {count : Nat} (on : measuring s i = true) (runs : s.monitors[i].gate.run = true)
    (law : GateLaw (measuring s i) s.monitors[i]) :
    GateLaw (measuring s i) (completeGate s i s.monitors[i] count) := by
  obtain ⟨gate, -, causes⟩ := law.1 on
  have clear := gate.mp runs
  rw [completeGate_eq]
  refine ⟨fun _ => ⟨?_, fun h => ?_, causes⟩, fun off => ?_⟩
  · simp [Gate.begun, clear, -Fin.getElem_fin]
  · simp [clear, -Fin.getElem_fin] at h
  · simp [on] at off

theorem gateMayComplete_runs {m : Monitor} (h : gateMayComplete m = true) : m.gate.run = true := by
  simp only [gateMayComplete, Bool.and_eq_true] at h
  exact h.1

theorem Body.measuringLaw (body : Body c s must expired m) (law : MeasuringLaw s) : MeasuringLaw m := by
  have units := body.units
  rw [measuringLaw_iff] at law ⊢
  simp only [measuring_congr units.hold units.loader]
  cases body with
  | arises on was is =>
    simp only [qualify_monitors]
    exact withMonitor_forall (P := fun j m => GateLaw (measuring s j) m) (gateLaw_arises on is) law
  | clears on was is =>
    simp only [qualify_monitors]
    exact withMonitor_forall (P := fun j m => GateLaw (measuring s j) m) (gateLaw_clears on is) law
  | gate on may done =>
    rw [takeOffset_eq]
    simp only [qualify_monitors, State.withFollower_monitors, done]
    exact withMonitor_forall (P := fun j m => GateLaw (measuring s j) m)
      (gateLaw_completes on (gateMayComplete_runs may) (law _)) law
  | announced _ _ _ put | withdrawn _ _ _ put | stale _ _ _ _ put | removed _ _ _ _ put =>
    simpa only [recomputeBound_monitors, put.monitors] using law
  | value =>
    rw [clearHoldoverForce_eq]
    simpa only [State.withLog_monitors, State.withSelector_monitors, expireValue, logEvent_monitors,
      State.withFollower_monitors] using law
  | holdOff | wtr => simpa only [applyMove_monitors] using law
  | lockout | release => simpa only [qualify_monitors] using law
  | warmup => simpa only [clearWarmup_eq, State.withLog_monitors, State.withFollower_monitors] using law
  | age | force | unforce => exact law

theorem gateLaw_atStart (m : Monitor) (cfg : InputCfg) :
    GateLaw (decide (cfg.use ≠ .off)) (monitorAtStart m cfg) := by
  unfold monitorAtStart
  dsimp only
  split
  · rename_i off
    simp [GateLaw, off, Gate.stopped]
  · rename_i on
    refine ⟨fun _ => ?_, fun off => by simp [on] at off⟩
    split
    · rename_i present
      refine ⟨?_, fun _ => rfl, judgeSignal_iff ..⟩
      rw [present]
      simp [judgeSignal, Gate.stopped]
    · rename_i clear
      refine ⟨?_, fun h => absurd h clear, judgeSignal_iff ..⟩
      simp only [beginGate, Gate.begun, true_iff]
      simpa using clear

theorem startPart_measuring (held : Option Nat) (s : State) (open' : s.hold = none) (i : Inp) :
    measuring (startPart held s) i = decide ((inputCfg s i).use ≠ .off) := by
  rw [measuring, startPart_running held s open', used, startPart_inputCfg, Bool.true_and]

theorem measuring_of_not_running (off : running s = false) (i : Inp) : measuring s i = false := by
  simp [measuring, off]

theorem tickMonitor_gateLaw {m : Monitor} {on : Bool} (law : GateLaw on m) : GateLaw on (tickMonitor m) := by
  obtain ⟨working, stopped⟩ := law
  have gate : (tickMonitor m).gate.run = m.gate.run := by
    unfold tickMonitor
    dsimp only
    split <;> rfl
  rw [GateLaw, gate]
  exact ⟨working, stopped⟩

theorem tick_running (s : State) : running (tick s) = running s := by
  rw [running, running, tick_hold, tick_loader]

theorem tick_inputCfg (s : State) (i : Inp) : inputCfg (tick s) i = inputCfg s i := by
  have image : (tick s).loader.buffer = s.loader.buffer := by rw [tick_loader]
  simp only [inputCfg, image]

theorem tick_measuring (s : State) (i : Inp) : measuring (tick s) i = measuring s i := by
  rw [measuring, measuring, used, used, tick_running, tick_inputCfg]

theorem tick_monitors (noHold : s.hold.isSome = false) (i : Inp) :
    (tick s).monitors[i] = tickMonitor s.monitors[i] := by
  simp [tick, noHold]

theorem tick_measuringLaw (law : MeasuringLaw s) : MeasuringLaw (tick s) := by
  by_cases h : s.hold.isSome = true
  · rw [tick_of_hold h]
    exact law
  · rw [measuringLaw_iff] at law ⊢
    intro i
    rw [tick_measuring, tick_monitors (by simpa using h)]
    exact tickMonitor_gateLaw (law i)

theorem withPort_measuringLaw (p : Port) (law : MeasuringLaw s) : MeasuringLaw (s.withPort p) := law

theorem Happens.measuringLaw (happens : Happens c s t) (law : MeasuringLaw s) : MeasuringLaw t := by
  have stopped {t : State} (off : running t = false) (init : ∀ i : Inp, GateLaw false t.monitors[i]) : MeasuringLaw t :=
    (measuringLaw_iff t).mpr fun i => measuring_of_not_running off i ▸ init i
  cases happens with
  | aside aside => exact (measuringLaw_congr aside.hold aside.loader aside.monitors).mpr law
  | cleared kind =>
    refine stopped (by simp [running, State.cleared]) fun i => ?_
    have : (State.cleared kind s.pins s.pending).monitors[i] = Monitor.init false := by simp [State.cleared]
    rw [this]
    exact gateLaw_init _
  | released kind pins port =>
    refine stopped (released_not_running ..) fun i => ?_
    have : (Machine.released kind pins port s.pending).monitors[i] = Monitor.init (losPin pins i) := by
      simp [Machine.released]
    rw [this]
    exact gateLaw_init _
  | loading off off' only =>
    refine stopped off' fun i => ?_
    rw [only]
    exact measuring_of_not_running off i ▸ law i
  | starts held open' _ only _ result =>
    rw [result]
    refine withPort_measuringLaw _ ((measuringLaw_iff _).mpr fun i => ?_)
    rw [startPart_measuring held _ (by rw [only]; exact open'), startPart_monitors]
    exact gateLaw_atStart ..
  | pops result =>
    rw [result]
    exact law
  | sampled _ same =>
    exact withMonitor_forall (P := fun j m => GateLaw (measuring s j) m) (gateLaw_sampled (law _) same) law
  | locks => exact (measuringLaw_congr (by simp [settleEnd]) (by simp [settleEnd]) (by simp [settleEnd])).mpr law
  | event beside _ body result =>
    rw [result]
    have law := body.measuringLaw ((measuringLaw_congr beside.hold beside.loader beside.monitors).mpr law)
    exact withPort_measuringLaw _ ((measuringLaw_congr (by simp) (by simp) (by simp)).mpr law)

end
end Sys2Proof.Machine

open Sys2Proof Sys2Proof.Machine

/-- Settles O55: the image is held only when the clamps have brought it into range, and each change of SIGNAL starts or
abandons the gate. -/
theorem imageAndGatesStand : Obligations.ImageAndGatesStand := by
  unfold Obligations.ImageAndGatesStand
  intro s t loader gates h
  rcases step_cases h with rfl | ⟨c, rest, -, happens, -⟩
  · exact ⟨tick_loaderLaw loader, tick_measuringLaw gates⟩
  · exact ⟨happens.loaderLaw loader, happens.measuringLaw gates⟩

end


section
/-! PROOF. O57, first part: the records agree with the Peer Table and the monitors (R3 to R6, R45, R54, R59, R60). -/

namespace Sys2Proof.Machine

section

variable {s t u v m : State} {c : Instr} {i : Inp} {must expired : Bool}

/-! ### Agreement of one record -/

/-- A record `r` of input `i` that agrees with its bound entry and its monitor, as they stand in `s`. -/
def AgreesAt (s : State) (i : Inp) (r : InputRec) : Prop :=
  ((inputCfg s i).use = .off → r = InputRec.init) ∧
  ((inputCfg s i).use ≠ .off →
    r.state ≠ .off ∧ r.raw = rawOf s i ∧ r.effective = max (rawOf s i) (inputCfg s i).ceiling ∧ r.path = pathOf s i ∧
    r.hop = (pathOf s i).length ∧ r.reasons.grade = decide (r.effective = 15) ∧
    r.reasons.loop = (pathOf s i).contains s.loader.ownAddress ∧ r.reasons.range = decide ((pathOf s i).length = 8) ∧
    r.reasons.signal = s.monitors[i].signal ∧ r.reasons.freq = s.monitors[i].freq ∧
    (r.state = .proving → s.monitors[i].window.length = 8 → mayPass r.wtr = false))

theorem recordAgrees_iff (s : State) (i : Inp) : RecordAgrees s i ↔ AgreesAt s i s.records[i] := Iff.rfl

/-- The grade, path and hop count of a record by its bound entry (R3 to R6). -/
structure GradedAt (s : State) (i : Inp) (r : InputRec) : Prop where
  raw : r.raw = rawOf s i
  effective : r.effective = max (rawOf s i) (inputCfg s i).ceiling
  path : r.path = pathOf s i
  hop : r.hop = (pathOf s i).length

/-- The reasons, but LOCKOUT, that the entry and the monitor of an input give (R45, R59, R60). -/
structure JudgedAt (s : State) (i : Inp) (effective : Nat) (x : Reasons) : Prop where
  grade : x.grade = decide (effective = 15)
  loop : x.loop = (pathOf s i).contains s.loader.ownAddress
  range : x.range = decide ((pathOf s i).length = 8)
  signal : x.signal = s.monitors[i].signal
  freq : x.freq = s.monitors[i].freq

theorem AgreesAt.graded {r : InputRec} (agrees : AgreesAt s i r) (on : (inputCfg s i).use ≠ .off) : GradedAt s i r := by
  obtain ⟨-, raw, effective, path, hop, -⟩ := agrees.2 on
  exact ⟨raw, effective, path, hop⟩

theorem AgreesAt.judged {r : InputRec} (agrees : AgreesAt s i r) (on : (inputCfg s i).use ≠ .off) :
    JudgedAt s i r.effective r.reasons := by
  obtain ⟨-, -, -, -, -, grade, loop, range, signal, freq, -⟩ := agrees.2 on
  exact ⟨grade, loop, range, signal, freq⟩

theorem AgreesAt.state_ne_off {r : InputRec} (agrees : AgreesAt s i r) (on : (inputCfg s i).use ≠ .off) :
    r.state ≠ .off := (agrees.2 on).1

theorem AgreesAt.of_parts {r : InputRec} (used : (inputCfg s i).use ≠ .off) (on : r.state ≠ .off)
    (graded : GradedAt s i r) (judged : JudgedAt s i r.effective r.reasons)
    (waits : r.state = .proving → s.monitors[i].window.length = 8 → mayPass r.wtr = false) : AgreesAt s i r :=
  ⟨fun off => absurd off used, fun _ => ⟨on, graded.raw, graded.effective, graded.path, graded.hop, judged.grade,
    judged.loop, judged.range, judged.signal, judged.freq, waits⟩⟩

/-- What an agreement of input `i` is with: its grade, its path, the configuration and its monitor. -/
structure SameSources (s t : State) (i : Inp) : Prop where
  loader : t.loader = s.loader
  raw : rawOf t i = rawOf s i
  path : pathOf t i = pathOf s i
  signal : t.monitors[i].signal = s.monitors[i].signal
  freq : t.monitors[i].freq = s.monitors[i].freq
  window : t.monitors[i].window = s.monitors[i].window

theorem rawOf_congr (loader : t.loader = s.loader) (entries : t.peers.entries = s.peers.entries) (i : Inp) :
    rawOf t i = rawOf s i := by simp only [rawOf, entryOf, inputCfg_congr loader, entries]

theorem pathOf_congr (loader : t.loader = s.loader) (entries : t.peers.entries = s.peers.entries) (i : Inp) :
    pathOf t i = pathOf s i := by simp only [pathOf, entryOf, inputCfg_congr loader, entries]

theorem SameSources.of_units (loader : t.loader = s.loader) (entries : t.peers.entries = s.peers.entries)
    (monitor : t.monitors[i] = s.monitors[i]) : SameSources s t i :=
  ⟨loader, rawOf_congr loader entries i, pathOf_congr loader entries i, by rw [monitor], by rw [monitor], by rw [monitor]⟩

theorem SameSources.agreesAt_iff (same : SameSources s t i) (r : InputRec) : AgreesAt t i r ↔ AgreesAt s i r := by
  obtain ⟨loader, raw, path, signal, freq, window⟩ := same
  simp only [AgreesAt, inputCfg_congr loader, loader, raw, path, signal, freq, window]

/-! ### Moves keep the agreement -/

theorem mayPass_eq (w : Wtr) : mayPass w = w.passes := by cases w <;> rfl

theorem InputRec.Moved.sameGrade {r : InputRec} {c : InputCfg} {full : Bool} {x : Reasons} {m : InputRec × Notice}
    (moved : r.Moved c full x m) : SameGrade r m.1 := by
  cases moved <;> exact ⟨rfl, rfl, rfl, rfl⟩

/-- A record that a move leaves in PROVING beside a full window may not pass (R54). -/
theorem InputRec.Moved.waits {r : InputRec} {c : InputCfg} {full : Bool} {x : Reasons} {m : InputRec × Notice}
    (moved : r.Moved c full x m) (proving : m.1.state = .proving) (isFull : full = true) : mayPass m.1.wtr = false := by
  rw [mayPass_eq]
  cases moved with
  | off state => simp [state] at proving
  | kept _ _ _ waits => exact waits proving isFull
  | joins state =>
    have : r.state = .proving := proving
    simp [state] at this
  | proves _ _ waits => exact waits isFull
  | resumes _ _ =>
    by_cases origin : r.origin = some .active
    · simp [r.resume_active origin] at proving
    · simp [r.resume_ready origin] at proving
  | provesAndPasses | passes | suspendsReady | suspendsActive | bars => cases proving

theorem InputRec.Moved.state_ne_off {r : InputRec} {c : InputCfg} {full : Bool} {x : Reasons} {m : InputRec × Notice}
    (moved : r.Moved c full x m) (on : r.state ≠ .off) : m.1.state ≠ .off := by
  cases moved with
  | off | kept | joins => exact on
  | resumes =>
    by_cases origin : r.origin = some .active
    · simp [r.resume_active origin]
    · simp [r.resume_ready origin]
  | proves | provesAndPasses | passes | suspendsReady | suspendsActive | bars => intro h; cases h

theorem GradedAt.of_sameGrade {r r' : InputRec} (graded : GradedAt s i r) (same : SameGrade r r') : GradedAt s i r' := by
  obtain ⟨raw, effective, hop, path⟩ := same
  exact ⟨raw.trans graded.raw, effective.trans graded.effective, path.trans graded.path, hop.trans graded.hop⟩

/-- A used input, moved on the reasons that its entry and its monitor give, agrees with them. -/
theorem AgreesAt.of_moved {r : InputRec} {x : Reasons} {m : InputRec × Notice} (law : RecordLaw r) (on : r.state ≠ .off)
    (used : (inputCfg s i).use ≠ .off) (graded : GradedAt s i r) (judged : JudgedAt s i r.effective x)
    (moved : r.Moved (inputCfg s i) (windowFull s i) x m) : AgreesAt s i m.1 := by
  have same := moved.sameGrade
  refine .of_parts used (moved.state_ne_off on) (graded.of_sameGrade same) ?_ fun proving full =>
    moved.waits proving (decide_eq_true full)
  rw [moved.reasons_eq law on, same.2.1]
  exact judged

/-- The Selector's moves keep the agreement. -/
theorem AgreesAt.of_selectorMove {r r' : InputRec} (agrees : AgreesAt s i r) (move : SelectorMove r r') : AgreesAt s i r' := by
  cases move with
  | same => exact agrees
  | usable state state' chosen =>
    have on : (inputCfg s i).use ≠ .off := fun off => by
      simp [agrees.1 off, InputRec.init] at state
    refine .of_parts on ?_ ((agrees.graded on).of_sameGrade ⟨rfl, rfl, rfl, rfl⟩) (agrees.judged on) fun proving => ?_
    · rcases chosen with rfl | rfl <;> simp
    · have proving : state' = .proving := proving
      rcases chosen with rfl | rfl <;> cases proving
  | suspect state origin =>
    have on : (inputCfg s i).use ≠ .off := fun off => by
      simp [agrees.1 off, InputRec.init] at state
    refine .of_parts on (agrees.state_ne_off on) ((agrees.graded on).of_sameGrade ⟨rfl, rfl, rfl, rfl⟩)
      (agrees.judged on) fun proving => ?_
    have : r.state = .proving := proving
    simp [state] at this

/-! ### Moves of several inputs, each once -/

/-- What a move of a record reads beside it. -/
structure SameBeside (s t : State) : Prop where
  loader : t.loader = s.loader
  monitors : t.monitors = s.monitors
  peers : t.peers = s.peers

theorem SameBeside.trans (first : SameBeside s t) (second : SameBeside t u) : SameBeside s u :=
  ⟨second.loader.trans first.loader, second.monitors.trans first.monitors, second.peers.trans first.peers⟩

/-- An operation on each input in turn, which moves that input's record alone. -/
structure MovesOne (f : Inp → State → State) : Prop where
  other : ∀ (i j : Inp) (t : State), i ≠ j → (f i t).records[j] = t.records[j]
  beside : ∀ (i : Inp) (t : State), SameBeside t (f i t)
  here : ∀ (i : Inp) (s t : State), SameBeside s t → t.records[i] = s.records[i] → (f i t).records[i] = (f i s).records[i]

theorem MovesOne.get_of_list {f : Inp → State → State} (one : MovesOne f) (i : Inp) : ∀ (inputs : List Inp) (s : State),
    inputs.Nodup → (inputs.foldl (fun t i => f i t) s).records[i] =
      if i ∈ inputs then (f i s).records[i] else s.records[i]
  | [], _, _ => by simp
  | j :: inputs, s, distinct => by
    obtain ⟨absent, distinct'⟩ := List.nodup_cons.mp distinct
    rw [List.foldl_cons, get_of_list one i inputs (f j s) distinct']
    by_cases same : i = j
    · subst same
      rw [if_neg absent, if_pos List.mem_cons_self]
    · have moved := one.here i s (f j s) (one.beside j s) (one.other j i s (Ne.symm same))
      rw [moved, one.other j i s (Ne.symm same)]
      simp only [List.mem_cons, same, false_or]

theorem MovesOne.get {f : Inp → State → State} (one : MovesOne f) (i : Inp) (s : State) :
    ((List.finRange 6).foldl (fun t i => f i t) s).records[i] = (f i s).records[i] := by
  rw [one.get_of_list i _ s (List.nodup_finRange 6), if_pos (List.mem_finRange i)]

theorem qualify_self (i : Inp) (x : Reasons) (s : State) :
    (Machine.qualify i x s).records[i] = (s.records[i].move (inputCfg s i) (windowFull s i) x).1 := by
  rw [qualify_get, if_pos rfl]

theorem recompute_self (i : Inp) (s : State) : (Machine.recompute i s).records[i] =
    ((regraded s i).move (inputCfg s i) (windowFull s i) (regradedReasons s i)).1 := by
  rw [recompute_eq, qualify_self, State.withRecord_self]
  rfl

theorem SameBeside.regraded_eq (same : SameBeside s t) (record : t.records[i] = s.records[i]) :
    regraded t i = regraded s i := by
  simp only [regraded, record, entryOf, same.peers, inputCfg_congr same.loader]

theorem SameBeside.windowFull_eq (same : SameBeside s t) (i : Inp) : windowFull t i = windowFull s i := by
  simp only [windowFull, same.monitors]

/-- Recomputing the inputs bound to a station moves each of them once (R6). -/
theorem recompute_movesOne (p : Inp → Bool) : MovesOne fun i t => if p i then Machine.recompute i t else t where
  other i j t distinct := by
    split
    · exact recompute_get_of_ne distinct t
    · rfl
  beside i t := by
    split
    · exact ⟨by simp, by simp, by simp⟩
    · exact ⟨rfl, rfl, rfl⟩
  here i s t same record := by
    split
    · rw [recompute_self, recompute_self, same.regraded_eq record, regradedReasons, regradedReasons,
        same.regraded_eq record, same.loader, record, inputCfg_congr same.loader, same.windowFull_eq]
    · exact record

theorem recomputeBound_get (a : Nat) (s : State) (i : Inp) : (recomputeBound a s).records[i] =
    if boundTo s a i then (Machine.recompute i s).records[i] else s.records[i] := by
  rw [recomputeBound_eq, (recompute_movesOne fun i => boundTo s a i).get i s]
  split <;> rfl

theorem startInput_movesOne : MovesOne startInput where
  other i j t distinct := startInput_get_of_ne distinct t
  beside i t := ⟨(startInput_units i t).loader, startInput_monitors i t, startInput_peers i t⟩
  here i s t same record := by
    have used : used t i = used s i := by simp only [used, inputCfg_congr same.loader]
    unfold startInput
    rw [used]
    split
    · rw [qualify_self, qualify_self, record, inputCfg_congr same.loader, same.windowFull_eq, same.monitors]
    · exact record

theorem startInputs_get (s : State) (i : Inp) : (startInputs s).records[i] = (startInput i s).records[i] :=
  startInput_movesOne.get i s

/-! ### The events -/

/-- The records as the Selector's part of an event finds them agree. -/
abbrev RecordsAgree (s : State) : Prop := ∀ i : Inp, AgreesAt s i s.records[i]

/-- A used input moved on the reasons that its entry and its monitor give; the others stand. -/
theorem RecordsAgree.qualify {x : Reasons} (law : RecordLaw s.records[i])
    (others : ∀ j : Inp, j ≠ i → AgreesAt s j s.records[j]) (used : (inputCfg s i).use ≠ .off)
    (on : s.records[i].state ≠ .off) (graded : GradedAt s i s.records[i])
    (judged : JudgedAt s i s.records[i].effective x) : RecordsAgree (Machine.qualify i x s) := by
  intro j
  have same : SameSources s (Machine.qualify i x s) j := .of_units (by simp) (by simp) (by simp)
  rw [same.agreesAt_iff, qualify_get]
  split
  · rename_i here
    subst here
    exact .of_moved law on used graded judged (InputRec.move_moved law)
  · rename_i there
    exact others j (Ne.symm there)

theorem measuring_used (on : measuring s i = true) : (inputCfg s i).use ≠ .off := by
  simp only [measuring, used, Bool.and_eq_true, decide_eq_true_eq] at on
  exact on.2

theorem AgreesAt.of_withMonitor {m' : Monitor} {j : Inp} (other : j ≠ i) {r : InputRec} (agrees : AgreesAt s j r) :
    AgreesAt (s.withMonitor i m') j r := by
  refine (SameSources.agreesAt_iff (s := s) (t := s.withMonitor i m') (.of_units rfl rfl ?_) r).mpr agrees
  rw [State.withMonitor_get, if_neg (Ne.symm other)]

/-- A new monitor of input `i`, on whose SIGNAL and FREQ the input is moved (R21, R37). -/
theorem RecordsAgree.moveMonitored {m' : Monitor} {x : Reasons} (agree : RecordsAgree s) (law : RecordLaw s.records[i])
    (used : (inputCfg s i).use ≠ .off) (signal : x.signal = m'.signal) (freq : x.freq = m'.freq)
    (others : x = { s.records[i].reasons with signal := x.signal, freq := x.freq })
    (beside : SameBeside (s.withMonitor i m') t) (same : t.records = s.records) :
    RecordsAgree (Machine.qualify i x t) := by
  have loader : t.loader = s.loader := beside.loader
  have peers : t.peers = s.peers := beside.peers
  have monitor : t.monitors[i] = m' := by
    rw [beside.monitors, State.withMonitor_get, if_pos rfl]
  have raw : rawOf t i = rawOf s i := rawOf_congr loader (by rw [peers]) i
  have path : pathOf t i = pathOf s i := pathOf_congr loader (by rw [peers]) i
  have record : t.records[i] = s.records[i] := by rw [same]
  refine .qualify (record ▸ law) (fun j other => ?_) (inputCfg_congr loader i ▸ used)
    (record ▸ (agree i).state_ne_off used) ?_ ?_
  · have standing : t.monitors[j] = (s.withMonitor i m').monitors[j] := by rw [beside.monitors]
    rw [SameSources.agreesAt_iff (s := s.withMonitor i m') (.of_units loader (by rw [peers]; rfl) standing)]
    rw [same]
    exact (agree j).of_withMonitor other
  · obtain ⟨hraw, effective, hpath, hop⟩ := (agree i).graded used
    rw [record]
    exact ⟨hraw.trans raw.symm, by rw [raw, inputCfg_congr loader, effective], hpath.trans path.symm, by rw [path, hop]⟩
  · obtain ⟨grade, loop, range, -, -⟩ := (agree i).judged used
    rw [record]
    refine ⟨?_, ?_, ?_, by rw [monitor, signal], by rw [monitor, freq]⟩
    · rw [others, ← grade]
    · rw [others, path, loader, ← loop]
    · rw [others, path, ← range]

/-- An input moved with only LOCKOUT of its reasons changed, or moved on the reasons it has (R62, R63). -/
theorem RecordsAgree.moveLockout {b : Bool} (agree : RecordsAgree s) (law : RecordLaw s.records[i])
    (used : (inputCfg s i).use ≠ .off) :
    RecordsAgree (Machine.qualify i { s.records[i].reasons with lockout := b } s) := by
  refine RecordsAgree.qualify law (fun j _ => agree j) used ((agree i).state_ne_off used) ((agree i).graded used) ?_
  obtain ⟨grade, loop, range, signal, freq⟩ := (agree i).judged used
  exact ⟨grade, loop, range, signal, freq⟩

/-- A record put in place by a move on the reasons that it has. -/
theorem RecordsAgree.applyMoved {r : InputRec} {m : InputRec × Notice} (agree : RecordsAgree s) (law : RecordLaw r)
    (used : (inputCfg s i).use ≠ .off) (on : r.state ≠ .off) (grade : SameGrade s.records[i] r)
    (reasons : r.reasons = s.records[i].reasons) (moved : r.Moved (inputCfg s i) (windowFull s i) r.reasons m) :
    RecordsAgree (applyMove i m s) := by
  intro j
  have same : SameSources s (applyMove i m s) j := .of_units (by simp) (by simp) (by simp)
  rw [same.agreesAt_iff, applyMove_get]
  split
  · rename_i here
    subst here
    refine .of_moved law on used (((agree i).graded used).of_sameGrade grade) ?_ moved
    rw [reasons, grade.2.1]
    exact (agree i).judged used
  · exact agree j

theorem AgreesAt.used_of_state {r : InputRec} (agrees : AgreesAt s i r) (on : r.state ≠ .off) :
    (inputCfg s i).use ≠ .off := fun off => on (by rw [agrees.1 off]; rfl)

/-- The entry of another address than the one put in place. -/
theorem EntryPut.entryOf_eq {k : Slot} {e : Option PeerEntry} (put : EntryPut s k e t) {a : Nat} (other : a ≠ address k) :
    entryOf t a = entryOf s a := by
  unfold entryOf
  rw [put.peers]
  split
  · rename_i j found
    rw [State.withEntry_get, if_neg]
    rintro rfl
    exact other (address_of_slotOf found).symm
  · rfl

theorem boundTo_iff (s : State) (a : Nat) (i : Inp) :
    boundTo s a i = true ↔ (inputCfg s i).use = .peer ∧ (inputCfg s i).bound = a := decide_eq_true_iff

/-- A change of a station's entry, with the inputs bound to it recomputed (R6). -/
theorem EntryPut.recordsAgree {k : Slot} {e : Option PeerEntry} (put : EntryPut s k e t) (agree : RecordsAgree s)
    (records : RecordsLawful s) : RecordsAgree (recomputeBound (address k) t) := by
  intro i
  have same : SameSources t (recomputeBound (address k) t) i := .of_units (by simp) (by simp) (by simp)
  rw [same.agreesAt_iff, recomputeBound_get]
  have monitor : t.monitors[i] = s.monitors[i] := by rw [put.monitors]
  have record : t.records[i] = s.records[i] := by rw [put.records]
  split
  · rename_i bound
    obtain ⟨peer, -⟩ := (boundTo_iff ..).mp bound
    have used : (inputCfg t i).use ≠ .off := by simp [peer]
    have usedBefore : (inputCfg s i).use ≠ .off := inputCfg_congr put.loader i ▸ used
    rw [recompute_self]
    have law : RecordLaw (regraded t i) := regraded_lawful (record ▸ records i)
    refine .of_moved law ?_ used ⟨?_, ?_, ?_, ?_⟩ ⟨?_, ?_, ?_, ?_, ?_⟩ (InputRec.move_moved law)
    · simpa only [regraded, record] using (agree i).state_ne_off usedBefore
    · simp only [regraded, rawOf, peer]
    · simp only [regraded, rawOf, peer]
    · simp only [regraded, pathOf, peer]
    · simp only [regraded, pathOf, peer]
    · rfl
    · simp only [regradedReasons, pathReasons, regraded, pathOf, peer]
    · simp only [regradedReasons, pathReasons, regraded, pathOf, peer]
      rfl
    · rw [monitor, ← ((agree i).judged usedBefore).signal, ← record]
      rfl
    · rw [monitor, ← ((agree i).judged usedBefore).freq, ← record]
      rfl
  · rename_i notBound
    have raw : rawOf t i = rawOf s i ∧ pathOf t i = pathOf s i := by
      unfold rawOf pathOf
      rw [inputCfg_congr put.loader]
      split
      · exact ⟨rfl, rfl⟩
      · exact ⟨rfl, rfl⟩
      · rename_i peer
        rw [put.entryOf_eq]
        · exact ⟨rfl, rfl⟩
        · rintro other
          exact notBound ((boundTo_iff ..).mpr ⟨inputCfg_congr put.loader i ▸ peer, inputCfg_congr put.loader i ▸ other⟩)
    rw [record]
    exact (SameSources.agreesAt_iff ⟨put.loader, raw.1, raw.2, by rw [monitor], by rw [monitor], by rw [monitor]⟩ _).mpr
      (agree i)

theorem RecordsAgree.congr (agree : RecordsAgree s) (loader : t.loader = s.loader)
    (entries : t.peers.entries = s.peers.entries) (monitors : t.monitors = s.monitors) (records : t.records = s.records) :
    RecordsAgree t := fun i => by
  rw [records, SameSources.agreesAt_iff (.of_units loader entries (by rw [monitors]))]
  exact agree i

theorem takeOffset_records (i : Inp) (m : Monitor) (s : State) : (takeOffset i m s).records = s.records := by
  rw [takeOffset_eq]
  rfl

theorem windowFull_withMonitor (s : State) (m' : Monitor) : windowFull (s.withMonitor i m') i = decide (m'.window.length = 8) := by
  rw [windowFull, State.withMonitor_get, if_pos rfl]

theorem freqReasons_eq {r : Reasons} {before after : Bool} (h : r.freq = before) :
    freqReasons r before after = { r with freq := after } := by
  unfold freqReasons
  split
  · rename_i same
    rw [← same, ← h]
  · rfl

theorem Body.recordsAgree (body : Body c s must expired m) (agree : RecordsAgree s) (records : RecordsLawful s) :
    RecordsAgree m := by
  cases body with
  | @arises i high edge _ on was is =>
    refine agree.moveMonitored (m' := abandonGate (pointMonitor s i high edge)) (records i) (measuring_used on) is.symm ?_ rfl ⟨rfl, rfl, rfl⟩ rfl
    obtain ⟨-, -, -, freq, -⟩ := pointMonitor_keeps s i high edge
    exact (((agree i).judged (measuring_used on)).freq).trans freq.symm
  | @clears i high edge _ on was is =>
    refine agree.moveMonitored (m' := beginGate (pointMonitor s i high edge)) (records i) (measuring_used on) is.symm ?_ rfl ⟨rfl, rfl, rfl⟩ rfl
    obtain ⟨-, -, -, freq, -⟩ := pointMonitor_keeps s i high edge
    exact (((agree i).judged (measuring_used on)).freq).trans freq.symm
  | @gate i edges _ m' on may done =>
    have judged := (agree i).judged (measuring_used on)
    rw [freqReasons_eq judged.freq]
    refine agree.moveMonitored (m' := m') (records i) (measuring_used on) ?_ rfl rfl ?_ (takeOffset_records ..)
    · rw [done, completeGate_eq]
      exact judged.signal
    · rw [takeOffset_eq]
      exact ⟨rfl, rfl, rfl⟩
  | @holdOff i _ _ suspect =>
    refine agree.applyMoved (records i) ((agree i).used_of_state (by simp [-Fin.getElem_fin, suspect]))
      (by simp [-Fin.getElem_fin, suspect]) ⟨rfl, rfl, rfl, rfl⟩ rfl ?_
    obtain ⟨-, -, -, law⟩ := records i
    refine .bars (by simp [-Fin.getElem_fin, suspect]) (by simp [-Fin.getElem_fin, suspect]) ?_
    rw [(law suspect).1]
    decide
  | @wtr i _ _ proving =>
    have law := served_lawful (records i) proving
    refine agree.applyMoved law ((agree i).used_of_state (by simp [-Fin.getElem_fin, proving]))
      (by simp [-Fin.getElem_fin, proving]) ⟨rfl, rfl, rfl, rfl⟩ rfl ?_
    have moved := InputRec.promote_moved (c := inputCfg s i) (full := windowFull s i) law proving
    have empty : s.records[i].reasons = Reasons.empty := ((records i).2.2.1 proving).1
    simpa only [empty] using moved
  | lockout _ on | release _ on => exact agree.moveLockout (records _) (measuring_used on)
  | force | unforce | age | warmup => exact agree.congr rfl rfl rfl rfl
  | value =>
    refine agree.congr ?_ ?_ ?_ ?_ <;> rw [clearHoldoverForce_eq] <;> simp [expireValue]
  | announced _ _ _ put | withdrawn _ _ _ put | stale _ _ _ _ put | removed _ _ _ _ put =>
    exact put.recordsAgree agree records

/-! ### START -/

theorem startUnits_running (held : Option Nat) (open' : s.hold = none) : running (startUnits held s) = true := by
  simp [running, startUnits, open']

theorem startUnits_rawOf (held : Option Nat) (s : State) (i : Inp) (used : (inputCfg s i).use ≠ .off) :
    rawOf (startUnits held s) i = rawAtStart (inputCfg s i) ∧ pathOf (startUnits held s) i = [] := by
  have noEntry (a : Nat) : entryOf (startUnits held s) a = none := by
    unfold entryOf
    split
    · simp [startUnits, PeerTable.init]
    · rfl
  have same : inputCfg (startUnits held s) i = inputCfg s i := rfl
  simp only [rawOf, pathOf, same, noEntry, rawAtStart]
  split
  · contradiction
  · rename_i fixed
    simp [fixed]
  · rename_i peer
    simp [peer, peerRaw, peerPath]

theorem monitorAtStart_window (m : Monitor) (c : InputCfg) : (monitorAtStart m c).window = [] := by
  unfold monitorAtStart
  dsimp only
  split
  · rfl
  · split <;> rfl

theorem monitorAtStart_freq (m : Monitor) (c : InputCfg) : (monitorAtStart m c).freq = false := by
  unfold monitorAtStart
  dsimp only
  split
  · rfl
  · split <;> rfl

theorem startUnits_monitors (held : Option Nat) (s : State) (i : Inp) :
    (startUnits held s).monitors[i] = monitorAtStart s.monitors[i] (inputCfg s i) := by simp [startUnits]

theorem used_iff (s : State) (i : Inp) : used s i = true ↔ (inputCfg s i).use ≠ .off := decide_eq_true_iff

theorem startInputs_recordsAgree (held : Option Nat) (s : State) :
    RecordsAgree (startInputs (logStarted (startUnits held s))) := by
  intro i
  have same : SameSources (startUnits held s) (startInputs (logStarted (startUnits held s))) i :=
    .of_units (by simp [logStarted]) (by simp [logStarted]) (by simp [logStarted])
  have record : (logStarted (startUnits held s)).records[i] = recordAtStart (inputCfg s i) := by
    simp [-Fin.getElem_fin, logStarted, startUnits_get]
  rw [same.agreesAt_iff, startInputs_get, startInput]
  split
  · rename_i isUsed
    have used : (inputCfg s i).use ≠ .off := (used_iff ..).mp isUsed
    have start : recordAtStart (inputCfg s i) = { InputRec.init with
        state := .proving, wtr := .waived, raw := rawAtStart (inputCfg s i)
        effective := max (rawAtStart (inputCfg s i)) (inputCfg s i).ceiling } := if_neg used
    have law := recordAtStart_lawful (inputCfg s i)
    obtain ⟨raw, path⟩ := startUnits_rawOf held s i used
    have monitor : (logStarted (startUnits held s)).monitors[i] = (startUnits held s).monitors[i] := by
      simp [-Fin.getElem_fin, logStarted]
    have cfg : inputCfg (startUnits held s) i = inputCfg s i := rfl
    rw [qualify_self, record, monitor]
    refine .of_moved law ?_ used ⟨?_, ?_, ?_, ?_⟩ ⟨?_, ?_, ?_, ?_, ?_⟩ (InputRec.move_moved law)
    · simp [start]
    · rw [raw, start]
    · rw [raw, start, cfg]
    · rw [path, start]
      rfl
    · rw [path, start]
      rfl
    · rfl
    · rw [path]
      rfl
    · rw [path]
      rfl
    · rfl
    · rw [startUnits_monitors, monitorAtStart_freq]
      rfl
  · rename_i notUsed
    have off : (inputCfg s i).use = .off := by
      by_contra used
      exact notUsed ((used_iff ..).mpr used)
    rw [record, recordAtStart, if_pos off]
    exact ⟨fun _ => rfl, fun used => absurd off used⟩

theorem warmupAtStart_records (s : State) : (warmupAtStart s).records = s.records := by
  rw [warmupAtStart_eq]
  rfl

theorem RecordsAgree.of_moves (agree : RecordsAgree s) (loader : t.loader = s.loader)
    (entries : t.peers.entries = s.peers.entries) (monitors : t.monitors = s.monitors) (moves : SelectorMoves s t) :
    RecordsAgree t := fun i =>
  ((SameSources.agreesAt_iff (.of_units loader entries (by rw [monitors])) _).mpr (agree i)).of_selectorMove (moves i)

theorem RecordsAgree.warmupAtStart (agree : RecordsAgree s) : RecordsAgree (warmupAtStart s) := by
  refine agree.congr ?_ ?_ ?_ (warmupAtStart_records s) <;> (rw [warmupAtStart_eq]; rfl)

theorem RecordsAgree.withPort (p : Port) (agree : RecordsAgree s) : RecordsAgree (s.withPort p) := agree

theorem startPart_recordsAgree (held : Option Nat) (s : State) : RecordsAgree (startPart held s) := by
  have ready : RecordsAgree (startReady held s) := (startInputs_recordsAgree held s).warmupAtStart
  rw [startPart_eq]
  exact ready.of_moves (by simp) (by simp) (by simp)
    ((evaluate_moves none _).trans (.of_eq (by simp)))

/-! ### One LOSC cycle -/

theorem tick_records_of_hold (s : State) (i : Inp) : (tick s).records[i] = s.records[i] ∨
    (tick s).records[i] = tickRecord (inputCfg s i) s.records[i] := by
  by_cases h : s.hold.isSome = true
  · rw [tick_of_hold h]
    exact .inl rfl
  · exact .inr (tick_records (by simpa using h) i)

theorem mayPass_tickWtr (n : Nat) (w : Wtr) : mayPass (tickWtr n w) = mayPass w := by
  cases w <;> simp [tickWtr, mayPass]

theorem tickPeers_entry (p : PeerTable) (k : Slot) : (tickPeers p).entries[k] = p.entries[k].map tickEntry := by
  simp [tickPeers]

theorem tick_peers (noHold : s.hold.isSome = false) : (tick s).peers = tickPeers s.peers := by simp only [tick, noHold]; rfl

/-- One cycle keeps every entry's content and state, and moves its age alone. -/
theorem tick_entry (s : State) (k : Slot) : (tick s).peers.entries[k] = s.peers.entries[k] ∨
    (tick s).peers.entries[k] = s.peers.entries[k].map tickEntry := by
  by_cases h : s.hold.isSome = true
  · rw [tick_of_hold h]
    exact .inl rfl
  · rw [tick_peers (by simpa using h)]
    exact .inr (tickPeers_entry ..)

theorem tick_entryOf {α : Type} (read : Option PeerEntry → α)
    (ageless : ∀ o : Option PeerEntry, read (o.map tickEntry) = read o) (s : State) (a : Nat) :
    read (entryOf (tick s) a) = read (entryOf s a) := by
  unfold entryOf
  split
  · rename_i k _
    rcases tick_entry s k with h | h
    · rw [h]
    · rw [h, ageless]
  · rfl

theorem peerRaw_some (e : PeerEntry) : peerRaw (some e) = if e.state = .fresh then e.grade else unfit := rfl
theorem tickEntry_state (e : PeerEntry) : (tickEntry e).state = e.state := by rw [tickEntry]
theorem tickEntry_grade (e : PeerEntry) : (tickEntry e).grade = e.grade := by rw [tickEntry]
theorem tickEntry_path (e : PeerEntry) : (tickEntry e).path = e.path := by rw [tickEntry]

theorem tickEntry_cls (e : PeerEntry) : (tickEntry e).cls = e.cls := by rw [tickEntry]

theorem peerRaw_tick (o : Option PeerEntry) : peerRaw (o.map tickEntry) = peerRaw o := by
  cases o with
  | none => rfl
  | some e => rw [Option.map_some, peerRaw_some, peerRaw_some, tickEntry_state, tickEntry_grade]

theorem peerPath_tick (o : Option PeerEntry) : peerPath (o.map tickEntry) = peerPath o := by
  cases o with
  | none => rfl
  | some e => exact tickEntry_path e

theorem tick_rawOf (s : State) (i : Inp) : rawOf (tick s) i = rawOf s i := by
  simp only [rawOf, tick_inputCfg, tick_entryOf peerRaw peerRaw_tick]

theorem tick_pathOf (s : State) (i : Inp) : pathOf (tick s) i = pathOf s i := by
  simp only [pathOf, tick_inputCfg, tick_entryOf peerPath peerPath_tick]

theorem tickRecord_init (c : InputCfg) : tickRecord c InputRec.init = InputRec.init := rfl

/-- The agreement reads no timer of a record. -/
theorem AgreesAt.ticked {r : InputRec} (c : InputCfg) (agrees : AgreesAt s i r) : AgreesAt s i (tickRecord c r) := by
  refine ⟨fun off => by rw [agrees.1 off, tickRecord_init], fun used => ?_⟩
  obtain ⟨on, raw, effective, path, hop, grade, loop, range, signal, freq, waits⟩ := agrees.2 used
  exact ⟨on, raw, effective, path, hop, grade, loop, range, signal, freq, by
    rw [tickRecord, mayPass_tickWtr]
    exact waits⟩

theorem tickMonitor_keeps (m : Monitor) : tickMonitor m =
    { m with msPhase := (tickMonitor m).msPhase, gate := (tickMonitor m).gate } := rfl

theorem tick_recordsAgree (agree : RecordsAgree s) : RecordsAgree (tick s) := by
  by_cases h : s.hold.isSome = true
  · rw [tick_of_hold h]
    exact agree
  · have noHold : s.hold.isSome = false := by simpa using h
    intro i
    have monitor := tick_monitors noHold i
    rw [tick_records noHold]
    have cfg := tick_inputCfg s i
    have own : (tick s).loader.ownAddress = s.loader.ownAddress := by rw [tick_loader]
    have ticked := (agree i).ticked (inputCfg s i)
    simp only [AgreesAt, cfg, own, tick_rawOf, tick_pathOf, monitor] at ticked ⊢
    exact ticked

/-! ### Every command -/

theorem Happens.recordsAgree (happens : Happens c s t) (records : RecordsLawful s)
    (agree : running s = true → RecordsAgree s) (on : running t = true) : RecordsAgree t := by
  cases happens with
  | aside aside =>
    rw [running_congr aside.hold aside.loader] at on
    exact (agree on).congr aside.loader aside.entries aside.monitors aside.records
  | cleared => simp [running, State.cleared] at on
  | released => simp [released_not_running] at on
  | loading _ off => simp [off] at on
  | starts held _ _ _ _ result =>
    rw [result]
    exact (startPart_recordsAgree held _).withPort _
  | pops result =>
    rw [result] at on ⊢
    exact (agree on).congr rfl rfl rfl rfl
  | @sampled i high edge _ same =>
    intro j
    obtain ⟨-, window, -, freq, -⟩ := pointMonitor_keeps s i high edge
    have same : SameSources s ((s.withPins (setLosPin s.pins i high)).withMonitor i (pointMonitor s i high edge)) j := by
      refine ⟨rfl, rfl, rfl, ?_, ?_, ?_⟩
      all_goals
        rw [State.withMonitor_get]
        split
        · rename_i here
          subst here
          assumption
        · rfl
    exact (same.agreesAt_iff _).mpr (agree on j)
  | locks =>
    refine (agree ?_).congr ?_ ?_ ?_ ?_
    · rw [← on]
      exact (running_congr (by simp [settleEnd]) (by simp [settleEnd])).symm
    all_goals simp [settleEnd]
  | event beside _ body result =>
    have runs : running s = true := by
      rw [result] at on
      rw [← running_congr beside.hold beside.loader, ← body.units.running,
        ← running_congr (settleEvent_hold ..) (settleEvent_loader ..)]
      exact on
    have before := (agree runs).congr beside.loader (by rw [beside.entries]) beside.monitors beside.records
    have moved := body.recordsAgree before ((recordsLawful_congr beside.records).mpr records)
    rw [result]
    exact (moved.of_moves (by simp) (by simp) (by simp) (settleEvent_moves _ _ _ _)).withPort _

end
end Sys2Proof.Machine
end


section
/-! PROOF. O57, second part, and O58: where the holdover value and the history of an event come from (R101, R102), and so
that grades stay 1 to 15 and offsets in range. -/

namespace Sys2Proof.Machine

section

variable {s t u v m : State} {c : Instr} {i : Inp} {must expired : Bool}

/-! ### Where the value and the history come from -/

/-- The record of R102, computed from a history for input `i`. -/
def computedValue (history : List Int) (base : Nat) (i : Inp) : HoldValue :=
  { valid := true, value := holdoverMean history, base := base, ageCycles := 0, source := some i }

/-- The history stands or is cleared, and the value stands or has been computed from 16 offsets, with the effective grade
that the input has in the end (R101, R102). -/
structure ValueStep (s t : State) : Prop where
  history : t.follower.history = s.follower.history ∨ t.follower.history = []
  value : t.follower.value = s.follower.value ∨ ∃ i : Inp, s.follower.history.length = 16 ∧
    t.follower.value = computedValue s.follower.history t.records[i].effective i

theorem ValueStep.of_eq (history : t.follower.history = s.follower.history) (value : t.follower.value = s.follower.value) :
    ValueStep s t := ⟨.inl history, .inl value⟩

theorem ValueStep.refl (s : State) : ValueStep s s := .of_eq rfl rfl

theorem ValueStep.trans (first : ValueStep s t) (second : ValueStep t u)
    (effective : ∀ i : Inp, u.records[i].effective = t.records[i].effective) : ValueStep s u := by
  refine ⟨?_, ?_⟩
  · rcases second.history with h | h
    · exact first.history.imp h.trans h.trans
    · exact .inr h
  · rcases second.value with h | ⟨i, full, h⟩
    · rw [h]
      exact first.value.imp_right fun ⟨i, full, g⟩ => ⟨i, full, by rw [g, effective]⟩
    · rcases first.history with g | g
      · exact .inr ⟨i, g ▸ full, g ▸ h⟩
      · simp [g] at full

theorem SelectorMoves.effective (moves : SelectorMoves s t) (i : Inp) :
    t.records[i].effective = s.records[i].effective := by
  rw [(moves i).onlySelected]

theorem computeValue_valueStep (l : Option Inp) (s : State) : ValueStep s (computeValue l s) := by
  refine ⟨.inl (by rw [computeValue_follower]), ?_⟩
  cases l with
  | none => exact .inl rfl
  | some i =>
    by_cases h : s.follower.output = .locked ∧ s.follower.history.length = 16
    · right
      refine ⟨i, h.2, ?_⟩
      rw [computeValue_some i h.1 h.2, computeValue_records]
      rfl
    · rw [computeValue_of_not_locked _ h]
      exact .inl rfl

/-- What clears the history beside a computed value. -/
theorem ValueStep.cleared {l : Option Inp} (value : t.follower.value = (computeValue l s).follower.value)
    (history : t.follower.history = []) (moves : SelectorMoves s t) : ValueStep s t := by
  refine ⟨.inr history, ?_⟩
  rw [value]
  refine (computeValue_valueStep l s).value.imp_right fun ⟨i, full, h⟩ => ⟨i, full, ?_⟩
  rw [h, computeValue_records, moves.effective]

theorem takeOwn_valueStep (l : Option Inp) (o : Output) (s : State) : ValueStep s (takeOwn l o s) :=
  .cleared (l := l) (by rw [takeOwn_follower]) (by rw [takeOwn_follower]) (takeOwn_moves l o s)

theorem takeInput_valueStep (l : Option Inp) (i : Inp) (s : State) : ValueStep s (takeInput l i s) := by
  by_cases h : s.records[i].state = .suspect
  · have follower := takeInput_follower_of_suspect l h
    exact .cleared (l := l) (by rw [follower]) (by rw [follower]) (takeInput_moves l i s)
  · have follower := takeInput_follower_of_usable l h
    exact .cleared (l := l) (by rw [follower]) (by rw [follower]) (takeInput_moves l i s)

theorem carryOut_valueStep (l : Option Inp) (d : Source) (s : State) : ValueStep s (carryOut l d s) := by
  unfold carryOut
  cases d <;> dsimp only <;> split
  · exact .refl s
  · exact takeInput_valueStep ..
  · exact .refl s
  · exact takeOwn_valueStep ..
  · exact .refl s
  · exact takeOwn_valueStep ..

theorem decideAgain_moves (first : Source × Cause) (before s : State) : SelectorMoves s (decideAgain first before s) := by
  unfold decideAgain
  split
  · exact carryOut_moves _ _ _
  · exact .of_eq rfl

theorem evaluate_valueStep (l : Option Inp) (s : State) : ValueStep s (evaluate l s).1 := by
  refine (carryOut_valueStep l _ s).trans (u := (evaluate l s).1) ?_ (decideAgain_moves _ _ _).effective
  show ValueStep _ (decideAgain _ _ _)
  unfold decideAgain
  split
  · exact carryOut_valueStep ..
  · exact .refl _

theorem selectorTurn_valueStep (before : State) (must expired : Bool) (s : State) :
    ValueStep s (selectorTurn before must expired s) := by
  unfold selectorTurn
  split
  · refine (evaluate_valueStep before.selector.active s).trans (.of_eq ?_ ?_) fun i => ?_ <;> simp
  · exact .refl s

theorem settleEvent_valueStep (before : State) (must expired : Bool) (s : State) :
    ValueStep s (settleEvent before must expired s) := by
  have cleared : ValueStep s (clearBarredForce s) := .of_eq (by simp) (by simp)
  have turned := cleared.trans (selectorTurn_valueStep before must expired (clearBarredForce s))
    (selectorTurn_moves before must expired _).effective
  exact turned.trans (.of_eq (by simp [settleEvent]) (by simp [settleEvent])) fun i => by simp [settleEvent]

/-- A move of the Qualifier keeps the history, and computes the value of the input it suspends at most (R96). -/
theorem applyMove_value (i : Inp) (move : InputRec × Notice) (s : State) :
    (applyMove i move s).follower.history = s.follower.history ∧
    ((applyMove i move s).follower.value = s.follower.value ∨ s.follower.history.length = 16 ∧
      (applyMove i move s).follower.value = computedValue s.follower.history move.1.effective i) := by
  rw [applyMove_eq]
  generalize put : logNotice i move.1 move.2 (s.withRecord i move.1) = v
  have follower : v.follower = s.follower := by simp [← put]
  have effective : v.records[i].effective = move.1.effective := by
    rw [← put, logNotice_records, State.withRecord_self]
  rw [← follower, ← effective]
  unfold followMove
  split
  · rw [enterBridging_follower]
    refine ⟨rfl, ?_⟩
    by_cases h : v.follower.output = .locked ∧ v.follower.history.length = 16
    · exact .inr ⟨h.2, computeValue_some i h.1 h.2⟩
    · rw [computeValue_of_not_locked _ h]
      exact .inl rfl
  · split
    · rw [leaveBridging_follower]
      split <;> exact ⟨rfl, .inl rfl⟩
    · split <;> exact ⟨rfl, .inl rfl⟩

theorem applyMove_valueStep (i : Inp) (move : InputRec × Notice) (s : State) : ValueStep s (applyMove i move s) := by
  obtain ⟨history, value⟩ := applyMove_value i move s
  refine ⟨.inl history, value.imp_right fun ⟨full, h⟩ => ⟨i, full, ?_⟩⟩
  rw [h, applyMove_get, if_pos rfl]

theorem qualify_valueStep (i : Inp) (x : Reasons) (s : State) : ValueStep s (Machine.qualify i x s) :=
  applyMove_valueStep ..

theorem recompute_valueStep (i : Inp) (s : State) : ValueStep s (Machine.recompute i s) := by
  rw [recompute_eq]
  obtain ⟨history, value⟩ := qualify_valueStep i (regradedReasons s i) (s.withRecord i (regraded s i))
  exact ⟨history, value⟩

/-- Operations on inputs in turn, each of which computes the value of its own input at most. -/
theorem MovesOne.valueStep {f : Inp → State → State} (one : MovesOne f)
    (each : ∀ (i : Inp) (s : State), (f i s).follower.history = s.follower.history ∧
      ((f i s).follower.value = s.follower.value ∨ s.follower.history.length = 16 ∧
        (f i s).follower.value = computedValue s.follower.history (f i s).records[i].effective i)) :
    ∀ (inputs : List Inp) (s : State), inputs.Nodup →
      (inputs.foldl (fun t i => f i t) s).follower.history = s.follower.history ∧
      ((inputs.foldl (fun t i => f i t) s).follower.value = s.follower.value ∨ ∃ i : Inp,
        s.follower.history.length = 16 ∧ (inputs.foldl (fun t i => f i t) s).follower.value =
          computedValue s.follower.history (inputs.foldl (fun t i => f i t) s).records[i].effective i)
  | [], s, _ => ⟨rfl, .inl rfl⟩
  | j :: inputs, s, distinct => by
    obtain ⟨absent, distinct'⟩ := List.nodup_cons.mp distinct
    obtain ⟨history, value⟩ := each j s
    obtain ⟨history', value'⟩ := valueStep one each inputs (f j s) distinct'
    rw [List.foldl_cons]
    refine ⟨history'.trans history, ?_⟩
    rcases value' with h | ⟨i, full, h⟩
    · rw [h]
      refine value.imp_right fun ⟨full, g⟩ => ⟨j, full, ?_⟩
      rw [g, one.get_of_list j inputs (f j s) distinct', if_neg absent]
    · exact .inr ⟨i, history ▸ full, history ▸ h⟩

theorem recompute_value (i : Inp) (s : State) : (Machine.recompute i s).follower.history = s.follower.history ∧
    ((Machine.recompute i s).follower.value = s.follower.value ∨ s.follower.history.length = 16 ∧
      (Machine.recompute i s).follower.value =
        computedValue s.follower.history (Machine.recompute i s).records[i].effective i) := by
  have moved := applyMove_value i ((s.withRecord i (regraded s i)).records[i].move (inputCfg s i) (windowFull s i)
    (regradedReasons s i)) (s.withRecord i (regraded s i))
  obtain ⟨history, value⟩ := moved
  refine ⟨history, value.imp_right fun ⟨full, h⟩ => ⟨full, h.trans ?_⟩⟩
  rw [recompute_self, State.withRecord_self]
  rfl

theorem recomputeBound_valueStep (a : Nat) (s : State) : ValueStep s (recomputeBound a s) := by
  rw [recomputeBound_eq]
  obtain ⟨history, value⟩ := (recompute_movesOne fun i => boundTo s a i).valueStep (fun i t => by
    split
    · exact recompute_value i t
    · exact ⟨rfl, .inl rfl⟩) _ s (List.nodup_finRange 6)
  exact ⟨.inl history, value⟩

theorem ValueStep.of_withMonitor {m' : Monitor} (step : ValueStep (s.withMonitor i m') t) : ValueStep s t :=
  ⟨step.history, step.value⟩

theorem takeOffset_follower (i : Inp) (m' : Monitor) (s : State) : (takeOffset i m' s).follower =
    if s.selector.active = some i ∧ s.follower.output = .locked ∧ m'.window.length = 8 ∧ m'.freq = false ∧
      s.follower.warm = false
    then { s.follower with history := joinHistory s.follower.history (m'.lastOffset.getD 0) } else s.follower := by
  unfold takeOffset
  split <;> rfl

/-- The history and the value as the Selector's part of an event finds them: an offset may have joined the history, and
the value may have expired, or reached a step age. -/
theorem Body.valueStep (body : Body c s must expired m) : ValueStep s m ∨
    (∃ (i : Inp) (edges : Nat), measuring s i = true ∧
      ValueStep (takeOffset i (completeGate s i s.monitors[i] (gateCount s.monitors[i].gate edges)) s) m) ∨
    m.follower.history = s.follower.history ∧ ((valueDue s = true ∧ must = expiryMoves s) ∧ m.follower.value = HoldValue.invalid ∨
      ∃ n : Nat, m.follower.value = { s.follower.value with ageCycles := n }) := by
  cases body with
  | arises | clears => exact .inl (qualify_valueStep ..).of_withMonitor
  | @gate i edges _ m' on may done =>
    refine .inr (.inl ⟨i, edges, on, ?_⟩)
    obtain ⟨history, value⟩ := qualify_valueStep i (freqReasons s.records[i].reasons s.monitors[i].freq m'.freq)
      (takeOffset i m' (s.withMonitor i m'))
    have same : (takeOffset i m' (s.withMonitor i m')).follower = (takeOffset i m' s).follower := by
      rw [takeOffset_follower, takeOffset_follower]
      rfl
    rw [same] at history value
    rw [← done]
    exact ⟨history, value⟩
  | holdOff | wtr => exact .inl (applyMove_valueStep ..)
  | lockout | release => exact .inl (qualify_valueStep ..)
  | force | unforce => exact .inl (.of_eq rfl rfl)
  | value _ due =>
    have follower := (clearHoldoverForce_follower (expireValue s)).trans (expireValue_follower s)
    exact .inr (.inr ⟨by rw [follower], .inl ⟨⟨due, rfl⟩, by rw [follower]⟩⟩)
  | age => exact .inr (.inr ⟨rfl, .inr ⟨_, rfl⟩⟩)
  | warmup => exact .inl (.of_eq (by simp [clearWarmup]) (by simp [clearWarmup]))
  | announced _ _ _ put | withdrawn _ _ _ put | stale _ _ _ _ put | removed _ _ _ _ put =>
    obtain ⟨history, value⟩ := recomputeBound_valueStep (address _) _
    rw [put.follower] at history value
    exact .inl ⟨history, value⟩

/-! ### One LOSC cycle -/

theorem tick_effective (s : State) (i : Inp) : (tick s).records[i].effective = s.records[i].effective := by
  rcases tick_records_of_hold s i with h | h
  · rw [h]
  · rw [h, tickRecord]

theorem tickFollower_base (s : State) : (tickFollower s).value.base = s.follower.value.base := by
  unfold tickFollower
  dsimp only
  split <;> rfl

/-! ### Grades stay 1 to 15 (R1, R4, R102) -/

/-- The base grade of a valid record is 1 to 15. -/
def BaseLaw (v : HoldValue) : Prop := v.valid = true → 1 ≤ v.base ∧ v.base ≤ 15

theorem tick_base (law : BaseLaw s.follower.value) : BaseLaw (tick s).follower.value := by
  by_cases h : s.hold.isSome = true
  · rw [tick_of_hold h]
    exact law
  · rw [tick_follower (by simpa using h), BaseLaw, tickFollower_valid, tickFollower_base]
    exact law

theorem peerRaw_range {o : Option PeerEntry} (range : ∀ e ∈ o, 1 ≤ e.grade ∧ e.grade ≤ 15) :
    1 ≤ peerRaw o ∧ peerRaw o ≤ 15 := by
  cases o with
  | none => decide
  | some e =>
    rw [peerRaw_some]
    split
    · exact range e rfl
    · decide

theorem TableLaw.entryOf_grade {s : State} (table : TableLaw s) (a : Nat) :
    ∀ e ∈ entryOf s a, 1 ≤ e.grade ∧ e.grade ≤ 15 := fun e found => by
  obtain ⟨k, -, entry⟩ := entryOf_eq_some found
  exact (table k e entry).2.2.1

/-- While RUNNING the grades are those of the image and the table, which are 1 to 15 (R3, R4). -/
theorem RecordsAgree.effective_range (agree : RecordsAgree s) (on : running s = true) (loader : LoaderLaw s)
    (table : TableLaw s) (i : Inp) : 1 ≤ s.records[i].effective ∧ s.records[i].effective ≤ 15 := by
  by_cases off : (inputCfg s i).use = .off
  · rw [(agree i).1 off]
    decide
  · obtain ⟨-, -, effective, -⟩ := (agree i).2 off
    obtain ⟨noHold, part⟩ := (running_iff s).mp on
    obtain ⟨-, -, -, held, image⟩ := loader noHold
    obtain ⟨-, fixedGrade, -, ceiling, -⟩ := ((image (held part)).1.2.2.2.2.2.2.2.2.2 i).1 off
    have raw : 1 ≤ rawOf s i ∧ rawOf s i ≤ 15 := by
      unfold rawOf
      split
      · decide
      · exact fixedGrade
      · exact peerRaw_range (TableLaw.entryOf_grade table _)
    have ceiling : 1 ≤ (inputCfg s i).ceiling ∧ (inputCfg s i).ceiling ≤ 15 := ceiling
    rw [effective]
    omega

theorem ValueStep.base (step : ValueStep s t) (law : BaseLaw s.follower.value)
    (range : ∀ i : Inp, 1 ≤ t.records[i].effective ∧ t.records[i].effective ≤ 15) : BaseLaw t.follower.value := by
  rcases step.value with h | ⟨i, -, h⟩
  · rw [h]
    exact law
  · rw [h]
    exact fun _ => range i

theorem takeOffset_value (i : Inp) (m' : Monitor) (s : State) :
    (takeOffset i m' s).follower.value = s.follower.value := by
  rw [takeOffset_follower]
  split <;> rfl

theorem Body.base (body : Body c s must expired m) (law : BaseLaw s.follower.value)
    (range : ∀ i : Inp, 1 ≤ m.records[i].effective ∧ m.records[i].effective ≤ 15) : BaseLaw m.follower.value := by
  rcases body.valueStep with step | ⟨i, edges, -, step⟩ | ⟨-, ⟨-, h⟩ | ⟨n, h⟩⟩
  · exact step.base law range
  · exact step.base (by rwa [takeOffset_value]) range
  · rw [h]
    exact fun valid => absurd valid (by decide)
  · rw [h]
    exact law

theorem init_effective : 1 ≤ InputRec.init.effective ∧ InputRec.init.effective ≤ 15 := by decide

theorem startInput_value (i : Inp) (s : State) : (startInput i s).follower.history = s.follower.history ∧
    ((startInput i s).follower.value = s.follower.value ∨ s.follower.history.length = 16 ∧
      (startInput i s).follower.value = computedValue s.follower.history (startInput i s).records[i].effective i) := by
  unfold startInput
  split
  · rw [qualify_self]
    exact applyMove_value ..
  · exact ⟨rfl, .inl rfl⟩

theorem startInputs_valueStep (s : State) : ValueStep s (startInputs s) := by
  obtain ⟨history, value⟩ := startInput_movesOne.valueStep startInput_value (List.finRange 6) s (List.nodup_finRange 6)
  unfold startInputs
  exact ⟨.inl history, value⟩

theorem ValueStep.of_no_history (step : ValueStep s t) (empty : s.follower.history = []) :
    t.follower.history = [] ∧ t.follower.value = s.follower.value := by
  refine ⟨step.history.elim (·.trans empty) id, ?_⟩
  rcases step.value with h | ⟨i, full, -⟩
  · exact h
  · simp [empty] at full

theorem warmupAtStart_valueStep (s : State) : ValueStep s (warmupAtStart s) := by
  unfold warmupAtStart
  split
  · exact .of_eq (by simp [clearWarmup]) (by simp [clearWarmup])
  · exact .refl s

/-- START begins with no history and no value (R113), and its evaluation makes none. -/
theorem startPart_history_value (held : Option Nat) (s : State) :
    (startPart held s).follower.history = [] ∧ (startPart held s).follower.value = HoldValue.invalid := by
  have empty : (logStarted (startUnits held s)).follower.history = [] := by
    simp [logStarted, startUnits, followerAtStart, Follower.init]
  have invalid : (logStarted (startUnits held s)).follower.value = HoldValue.invalid := by
    simp [logStarted, startUnits, followerAtStart, Follower.init]
  obtain ⟨history, value⟩ := (startInputs_valueStep (logStarted (startUnits held s))).of_no_history empty
  obtain ⟨history, value'⟩ := (warmupAtStart_valueStep _).of_no_history history
  have ready : (startReady held s).follower.history = [] ∧ (startReady held s).follower.value = HoldValue.invalid := by
    rw [startReady]
    exact ⟨history, value'.trans (value.trans invalid)⟩
  obtain ⟨history', value'⟩ := (evaluate_valueStep none (startReady held s)).of_no_history ready.1
  rw [startPart_eq, syncWant_follower]
  exact ⟨history', value'.trans ready.2⟩

theorem Body.on (body : Body c s must expired m) : running s = true := by
  cases body with
  | arises on | clears on | gate on | lockout _ on | release _ on => exact measuring_running on
  | holdOff on | wtr on | force _ on | unforce on | value on | age on | warmup on | announced on | withdrawn on | stale on
  | removed on => exact on

theorem settleEvent_running (before : State) (must expired : Bool) (s : State) :
    running (settleEvent before must expired s) = running s := running_congr (by simp) (by simp)

theorem withPort_running (p : Port) (s : State) : running (s.withPort p) = running s := rfl

/-- After the event of a RUNNING part it is RUNNING. -/
theorem Body.running_after (body : Body c s must expired m) (p : Port) :
    running ((settleEvent s must expired m).withPort p) = true := by
  rw [withPort_running, settleEvent_running, body.units.running]
  exact body.on

theorem withPort_grades (p : Port) (grades : GradesLaw s) : GradesLaw (s.withPort p) := grades

theorem Body.grades (body : Body c s must expired m) (base : BaseLaw s.follower.value)
    (range : ∀ i : Inp, 1 ≤ (settleEvent s must expired m).records[i].effective ∧
      (settleEvent s must expired m).records[i].effective ≤ 15) : GradesLaw (settleEvent s must expired m) := by
  have moves := settleEvent_moves s must expired m
  have base := body.base base fun i => by rw [← moves.effective]; exact range i
  exact ⟨range, (settleEvent_valueStep s must expired m).base base range⟩

theorem startPart_grades (held : Option Nat) (s : State) (range : ∀ i : Inp,
    1 ≤ (startPart held s).records[i].effective ∧ (startPart held s).records[i].effective ≤ 15) :
    GradesLaw (startPart held s) :=
  ⟨range, fun valid => absurd valid (by rw [(startPart_history_value held s).2]; decide)⟩

theorem settleEnd_eq (s : State) : settleEnd s =
    (s.withFollower { s.follower with output := .locked, settle := none }).withLog (settleEnd s).log := rfl

theorem withLog_grades (l : EventLog) (grades : GradesLaw s) : GradesLaw (s.withLog l) := grades

theorem settleEnd_grades (grades : GradesLaw s) : GradesLaw (settleEnd s) := by
  rw [settleEnd_eq]
  exact withLog_grades _ grades

theorem Happens.grades (happens : Happens c s t) (grades : GradesLaw s)
    (range : running t = true → ∀ i : Inp, 1 ≤ t.records[i].effective ∧ t.records[i].effective ≤ 15) : GradesLaw t := by
  obtain ⟨effective, base⟩ := grades
  have stopped {t : State} (warm : Bool) (init : ∀ i : Inp, t.records[i] = InputRec.init)
      (follower : t.follower = Follower.init warm) : GradesLaw t := by
    refine ⟨fun i => by rw [init]; exact init_effective, fun valid => ?_⟩
    rw [follower] at valid
    exact absurd valid Bool.false_ne_true
  cases happens with
  | aside aside =>
    rw [GradesLaw, aside.records, aside.follower]
    exact ⟨effective, base⟩
  | cleared => exact stopped false (fun i => by simp [State.cleared]) rfl
  | released kind => exact stopped (decide (kind = .power)) (fun i => by simp [Machine.released, State.cleared]) rfl
  | loading _ _ only =>
    rw [only]
    exact ⟨effective, base⟩
  | starts held open' _ only _ result =>
    rw [result] at range ⊢
    simp only [withPort_running, State.withPort_records] at range
    exact withPort_grades _ (startPart_grades held _ (range (startPart_running held _ (by rw [only]; exact open'))))
  | pops result =>
    rw [result]
    exact ⟨effective, base⟩
  | sampled => exact ⟨effective, base⟩
  | locks => exact settleEnd_grades ⟨effective, base⟩
  | event beside _ body result =>
    rw [result] at range ⊢
    have runs := body.running_after t.port
    simp only [withPort_running, State.withPort_records] at range runs
    exact withPort_grades _ (body.grades (by rw [beside.follower]; exact base) (range runs))

end
end Sys2Proof.Machine

open Sys2Proof Sys2Proof.Machine

/-- Settles O57: every input is moved on the reasons that its entry and its monitor give, and every grade is one of the
image, of the table, or of a record. -/
theorem recordsAgreeWithTable : Obligations.RecordsAgreeWithTable := by
  unfold Obligations.RecordsAgreeWithTable
  intro s t records agree h
  rcases step_cases h with rfl | ⟨c, rest, -, happens, -⟩
  · refine ⟨fun on => tick_recordsAgree (agree (tick_running s ▸ on)), fun _ _ grades => ?_⟩
    obtain ⟨effective, base⟩ := grades
    have same := tick_effective s
    exact ⟨fun i => by rw [same]; exact effective i, tick_base base⟩
  · have after : Agreement t := happens.recordsAgree records agree
    refine ⟨after, fun loader table grades => happens.grades grades fun on => ?_⟩
    obtain ⟨table', -⟩ := peerTableStands s t table h
    exact RecordsAgree.effective_range (after on) on (happens.loaderLaw loader) table'

end


section
/-! PROOF. O58: an input from which the Selector may choose has a last offset, and every offset is in range (R29, R30,
R99, R103). -/

namespace Sys2Proof.Machine

section

variable {s t u v m : State} {c : Instr} {i : Inp} {must expired : Bool}

/-! ### Offsets in range -/

theorem sum_range {history : List Int} (range : ∀ n ∈ history, OffsetInRange n) :
    -32767 * (history.length : Int) ≤ history.sum ∧ history.sum ≤ 32767 * (history.length : Int) := by
  induction history with
  | nil => simp
  | cons n history ih =>
    obtain ⟨low, high⟩ := ih fun m mem => range m (List.mem_cons_of_mem _ mem)
    have here := range n List.mem_cons_self
    simp only [List.sum_cons, List.length_cons]
    push_cast
    omega

theorem sum_range_of_full {history : List Int} (full : history.length = 16) (range : ∀ n ∈ history, OffsetInRange n) :
    -524272 ≤ history.sum ∧ history.sum ≤ 524272 := by
  have := sum_range range
  rw [full] at this
  omega

/-- The mean of 16 offsets is an offset (R103). -/
theorem holdoverMean_range {history : List Int} (full : history.length = 16) (range : ∀ n ∈ history, OffsetInRange n) :
    OffsetInRange (holdoverMean history) := by
  have := sum_range_of_full full range
  unfold holdoverMean roundDiv
  split <;> push_cast <;> omega

theorem joinHistory_range {history : List Int} {offset : Int} (range : ∀ n ∈ history, OffsetInRange n)
    (here : OffsetInRange offset) : ∀ n ∈ joinHistory history offset, OffsetInRange n := fun n mem => by
  rcases List.mem_append.mp (List.mem_of_mem_drop mem) with old | new
  · exact range n old
  · rw [List.mem_singleton.mp new]
    exact here

/-- The offsets of the Follower are in range. -/
def FollowerOffsets (f : Follower) : Prop := (∀ n ∈ f.history, OffsetInRange n) ∧ OffsetInRange f.value.value

theorem ValueStep.offsets (step : ValueStep s t) (law : FollowerOffsets s.follower) : FollowerOffsets t.follower := by
  obtain ⟨history, value⟩ := law
  refine ⟨?_, ?_⟩
  · rcases step.history with h | h
    · rw [h]
      exact history
    · simp [h]
  · rcases step.value with h | ⟨i, full, h⟩
    · rw [h]
      exact value
    · rw [h]
      exact holdoverMean_range full history

theorem followerOffsets_init (warm : Bool) : FollowerOffsets (Follower.init warm) :=
  ⟨by simp [Follower.init], by decide +revert⟩

/-! ### One input -/

/-- A record from which the Selector may choose, or a full window, has a last offset, and it is in range. -/
def OffsetAt (fit : Bool) (monitor : Monitor) : Prop :=
  (fit = true ∨ monitor.window.length = 8 → monitor.lastOffset ≠ none) ∧ ∀ n ∈ monitor.lastOffset, OffsetInRange n

theorem offsetsLaw_iff (s : State) : OffsetsLaw s ↔
    (∀ i : Inp, OffsetAt s.records[i].fit s.monitors[i]) ∧ FollowerOffsets s.follower := Iff.rfl

theorem OffsetAt.mono {fit fit' : Bool} {monitor : Monitor} (law : OffsetAt fit monitor)
    (less : fit' = true → fit = true ∨ monitor.window.length = 8) : OffsetAt fit' monitor :=
  ⟨fun h => law.1 (h.elim less .inr), law.2⟩

theorem OffsetAt.of_emptied {monitor : Monitor} (noOffset : monitor.lastOffset = none) (empty : monitor.window = []) :
    OffsetAt false monitor := by
  refine ⟨fun h => ?_, ?_⟩
  · simp [empty] at h
  · simp [noOffset]

/-- A record comes among those the Selector may choose from only beside a full window (R54). -/
theorem InputRec.move_fit (r : InputRec) (c : InputCfg) (full : Bool) (x : Reasons)
    (h : (r.move c full x).1.fit = true) : r.fit = true ∨ full = true := by
  have promoted {r : InputRec} (unfit : r.fit = false) (h : (r.promote full).1.fit = true) : full = true := by
    rcases r.promote_cases full with same | ⟨-, isFull, -⟩
    · simp [same, unfit] at h
    · exact isFull
  unfold InputRec.move at h
  cases state : r.state with
  | ready | active | suspect => exact .inl (by simp [InputRec.fit, state])
  | off => exact .inl (by simpa [state] using h)
  | barred =>
    simp only [state] at h
    split at h
    · exact .inr (promoted rfl h)
    · simp [InputRec.fit] at h
  | proving =>
    simp only [state] at h
    split at h
    · exact .inr (promoted (by simp [InputRec.fit, state]) h)
    · simp [InputRec.fit, InputRec.bar] at h

theorem completeGate_offset {count : Nat} {fit : Bool} (law : OffsetAt fit s.monitors[i]) :
    OffsetAt fit (completeGate s i s.monitors[i] count) := by
  unfold completeGate
  dsimp only
  split
  · refine ⟨fun _ => by simp, ?_⟩
    rintro n ⟨⟩
    exact clampOffset_range _
  · rename_i notFull
    refine ⟨fun h => law.1 (.inl ?_), law.2⟩
    exact h.resolve_right notFull

/-! ### The events -/

/-- What holds of the offsets as the Selector's part of an event finds them. -/
theorem qualify_offsets {x : Reasons} (law : ∀ j : Inp, OffsetAt s.records[j].fit s.monitors[j]) :
    ∀ j : Inp, OffsetAt (Machine.qualify i x s).records[j].fit (Machine.qualify i x s).monitors[j] := fun j => by
  rw [qualify_monitors, qualify_get]
  split
  · rename_i here
    subst here
    exact (law i).mono fun h => (InputRec.move_fit _ _ _ _ h).imp_right of_decide_eq_true
  · exact law j

theorem monitored_offsets {m' : Monitor} (law : ∀ j : Inp, OffsetAt s.records[j].fit s.monitors[j])
    (here : OffsetAt s.records[i].fit m') :
    ∀ j : Inp, OffsetAt (s.withMonitor i m').records[j].fit (s.withMonitor i m').monitors[j] := fun j => by
  rw [State.withMonitor_get]
  split
  · rename_i same
    exact same ▸ here
  · exact law j

theorem takeOffset_monitors (i : Inp) (m' : Monitor) (s : State) : (takeOffset i m' s).monitors = s.monitors := by
  rw [takeOffset_eq]
  rfl

theorem recompute_offsets {p : Inp → Bool} (law : ∀ j : Inp, OffsetAt s.records[j].fit s.monitors[j]) (j : Inp) :
    OffsetAt (if p j then Machine.recompute j s else s).records[j].fit s.monitors[j] := by
  split
  · rw [recompute_self]
    exact (law j).mono fun h => (InputRec.move_fit _ _ _ _ h).imp_right of_decide_eq_true
  · exact law j

theorem EntryPut.offsets {k : Slot} {e : Option PeerEntry} (put : EntryPut s k e t)
    (law : ∀ j : Inp, OffsetAt s.records[j].fit s.monitors[j]) (a : Nat) :
    ∀ j : Inp, OffsetAt (recomputeBound a t).records[j].fit (recomputeBound a t).monitors[j] := fun j => by
  have before : ∀ j : Inp, OffsetAt t.records[j].fit t.monitors[j] := by
    rw [put.records, put.monitors]
    exact law
  rw [recomputeBound_monitors, recomputeBound_get]
  have moved := recompute_offsets (p := fun i => boundTo t a i) before j
  split
  · rename_i bound
    rwa [if_pos bound] at moved
  · rename_i free
    rwa [if_neg free] at moved

theorem Body.inputOffsets (body : Body c s must expired m) (law : ∀ j : Inp, OffsetAt s.records[j].fit s.monitors[j]) :
    ∀ j : Inp, OffsetAt m.records[j].fit m.monitors[j] := by
  cases body with
  | @arises i high edge =>
    refine qualify_offsets (monitored_offsets law ?_)
    obtain ⟨-, -, offset, -⟩ := pointMonitor_keeps s i high edge
    refine ⟨fun h => ?_, ?_⟩
    · have fit := h.resolve_right (by simp [abandonGate])
      exact fun noOffset => (law i).1 (.inl fit) (offset ▸ noOffset)
    · exact fun n mem => (law i).2 n (offset ▸ mem)
  | @clears i high edge =>
    refine qualify_offsets (monitored_offsets law ?_)
    obtain ⟨-, window, offset, -⟩ := pointMonitor_keeps s i high edge
    unfold OffsetAt beginGate
    rw [window, offset]
    exact law i
  | @gate i edges _ m' on may done =>
    refine qualify_offsets ?_
    rw [takeOffset_records, takeOffset_monitors]
    refine monitored_offsets law ?_
    rw [done]
    exact completeGate_offset (law i)
  | @holdOff i =>
    intro j
    rw [applyMove_monitors, applyMove_get]
    split
    · rename_i here
      subst here
      exact (law i).mono fun h => absurd h (by simp [InputRec.fit, InputRec.bar])
    · exact law j
  | @wtr i _ _ proving =>
    intro j
    rw [applyMove_monitors, applyMove_get]
    split
    · rename_i here
      subst here
      refine (law i).mono fun h => ?_
      rcases InputRec.promote_cases ({ s.records[i] with wtr := .served } : InputRec) (windowFull s i) with
        same | ⟨-, full, -⟩
      · rw [same] at h
        exact .inl h
      · exact .inr (of_decide_eq_true full)
    · exact law j
  | lockout | release => exact qualify_offsets law
  | force | unforce | age => exact law
  | warmup =>
    rw [clearWarmup_eq]
    exact law
  | value =>
    rw [clearHoldoverForce_records, expireValue_records, clearHoldoverForce_eq]
    simpa only [State.withLog_monitors, State.withSelector_monitors, expireValue, logEvent_monitors,
      State.withFollower_monitors] using law
  | announced _ _ _ put | withdrawn _ _ _ put | stale _ _ _ _ put | removed _ _ _ _ put => exact put.offsets law _

theorem takeOffset_offsets {fit : Bool} {count : Nat} (law : FollowerOffsets s.follower)
    (monitor : OffsetAt fit s.monitors[i]) :
    FollowerOffsets (takeOffset i (completeGate s i s.monitors[i] count) s).follower := by
  rw [takeOffset_follower]
  split
  · refine ⟨joinHistory_range law.1 ?_, law.2⟩
    have range := (completeGate_offset (count := count) monitor).2
    cases offset : (completeGate s i s.monitors[i] count).lastOffset with
    | none => exact ⟨by simp, by simp⟩
    | some n => exact range n (by rw [offset]; rfl)
  · exact law

theorem Body.offsets (body : Body c s must expired m) (law : OffsetsLaw s) : OffsetsLaw m := by
  obtain ⟨inputs, follower⟩ := (offsetsLaw_iff s).mp law
  refine (offsetsLaw_iff m).mpr ⟨body.inputOffsets inputs, ?_⟩
  rcases body.valueStep with step | ⟨i, edges, -, step⟩ | ⟨history, value⟩
  · exact step.offsets follower
  · exact step.offsets (takeOffset_offsets follower (inputs i))
  · refine ⟨history ▸ follower.1, ?_⟩
    rcases value with ⟨-, h⟩ | ⟨n, h⟩
    · rw [h]
      decide
    · rw [h]
      exact follower.2

theorem offsetsLaw_of_moves (inputs : ∀ i : Inp, OffsetAt s.records[i].fit s.monitors[i])
    (follower : FollowerOffsets t.follower) (moves : SelectorMoves s t) (monitors : t.monitors = s.monitors) :
    OffsetsLaw t :=
  (offsetsLaw_iff t).mpr ⟨fun i => by rw [(moves i).fit_eq, monitors]; exact inputs i, follower⟩

theorem settleEvent_offsets (before : State) (must expired : Bool) (law : OffsetsLaw s) :
    OffsetsLaw (settleEvent before must expired s) := by
  obtain ⟨inputs, follower⟩ := (offsetsLaw_iff s).mp law
  exact offsetsLaw_of_moves inputs ((settleEvent_valueStep before must expired s).offsets follower)
    (settleEvent_moves before must expired s) (by simp)

theorem recordAtStart_unfit (c : InputCfg) : (recordAtStart c).fit = false := by
  rw [InputRec.fit, recordAtStart_state]
  split <;> rfl

theorem startInput_unfit (h : s.records[i].fit = false) (empty : s.monitors[i].window = []) :
    (startInput i s).records[i].fit = false := by
  unfold startInput
  split
  · rw [qualify_self, ← Bool.not_eq_true]
    intro fit
    rcases InputRec.move_fit _ _ _ _ fit with g | full
    · exact absurd (h.symm.trans g) Bool.false_ne_true
    · simp [windowFull, empty, -Fin.getElem_fin] at full
  · exact h

/-- In the START event no input becomes one that the Selector may choose (R68). -/
theorem startReady_unfit (held : Option Nat) (s : State) (i : Inp) : (startReady held s).records[i].fit = false := by
  rw [startReady, warmupAtStart_records, startInputs_get]
  refine startInput_unfit ?_ ?_
  · rw [logStarted, logEvent_records, startUnits_get]
    exact recordAtStart_unfit _
  · rw [logStarted, logEvent_monitors, startUnits_monitors]
    exact monitorAtStart_window ..

theorem startPart_unfit (held : Option Nat) (s : State) (i : Inp) : (startPart held s).records[i].fit = false := by
  rw [startPart_eq, syncWant_records, (evaluate_moves none _ i).fit_eq]
  exact startReady_unfit held s i

theorem monitorAtStart_lastOffset (m' : Monitor) (c : InputCfg) : (monitorAtStart m' c).lastOffset = none := by
  unfold monitorAtStart
  dsimp only
  split
  · rfl
  · split <;> rfl

theorem startPart_offsets (held : Option Nat) (s : State) : OffsetsLaw (startPart held s) := by
  refine (offsetsLaw_iff _).mpr ⟨fun i => ?_, ?_⟩
  · rw [startPart_unfit, startPart_monitors]
    exact .of_emptied (monitorAtStart_lastOffset ..) (monitorAtStart_window ..)
  · obtain ⟨history, value⟩ := startPart_history_value held s
    rw [FollowerOffsets, history, value]
    exact ⟨by simp, by decide⟩

theorem withPort_offsets (p : Port) (law : OffsetsLaw s) : OffsetsLaw (s.withPort p) := law

theorem offsets_of_init {warm : Bool} {los : Inp → Bool} (records : ∀ i : Inp, t.records[i] = InputRec.init)
    (monitors : ∀ i : Inp, t.monitors[i] = Monitor.init (los i)) (follower : t.follower = Follower.init warm) :
    OffsetsLaw t := by
  refine (offsetsLaw_iff t).mpr ⟨fun i => ?_, follower ▸ followerOffsets_init warm⟩
  rw [records, monitors]
  exact .of_emptied rfl rfl

theorem offsetsLaw_congr (records : t.records = s.records) (monitors : t.monitors = s.monitors)
    (follower : t.follower = s.follower) : OffsetsLaw t ↔ OffsetsLaw s := by
  simp only [OffsetsLaw, records, monitors, follower]

theorem settleEnd_offsets (law : OffsetsLaw s) : OffsetsLaw (settleEnd s) := by
  rw [settleEnd_eq]
  exact law

theorem Happens.offsets (happens : Happens c s t) (law : OffsetsLaw s) : OffsetsLaw t := by
  cases happens with
  | aside aside => exact (offsetsLaw_congr aside.records aside.monitors aside.follower).mpr law
  | cleared =>
    exact offsets_of_init (warm := false) (los := fun _ => false) (fun i => by simp [State.cleared])
      (fun i => by simp [State.cleared]) rfl
  | released kind pins =>
    exact offsets_of_init (warm := decide (kind = .power)) (los := losPin pins)
      (fun i => by simp [Machine.released, State.cleared]) (fun i => by simp [Machine.released]) rfl
  | loading _ _ only =>
    rw [only]
    exact law
  | starts held _ _ _ _ result =>
    rw [result]
    exact withPort_offsets _ (startPart_offsets held _)
  | pops result =>
    rw [result]
    exact law
  | @sampled i high edge =>
    obtain ⟨-, window, offset, -⟩ := pointMonitor_keeps s i high edge
    obtain ⟨inputs, follower⟩ := (offsetsLaw_iff s).mp law
    refine (offsetsLaw_iff _).mpr ⟨monitored_offsets (s := s.withPins _) inputs ?_, follower⟩
    rw [OffsetAt, window, offset]
    exact inputs i
  | locks => exact settleEnd_offsets law
  | event beside _ body result =>
    rw [result]
    have before := (offsetsLaw_congr beside.records beside.monitors beside.follower).mpr law
    exact withPort_offsets _ (settleEvent_offsets _ _ _ (body.offsets before))

/-! ### One LOSC cycle -/

theorem tick_offsets (law : OffsetsLaw s) : OffsetsLaw (tick s) := by
  by_cases h : s.hold.isSome = true
  · rw [tick_of_hold h]
    exact law
  · have noHold : s.hold.isSome = false := by simpa using h
    obtain ⟨inputs, history, value⟩ := (offsetsLaw_iff s).mp law
    refine (offsetsLaw_iff _).mpr ⟨fun i => ?_, ?_⟩
    · rw [tick_records noHold, tick_monitors noHold]
      exact inputs i
    · rw [tick_follower noHold]
      refine ⟨history, ?_⟩
      have same : (tickFollower s).value.value = s.follower.value.value := by
        unfold tickFollower
        dsimp only
        split <;> rfl
      rw [same]
      exact value

/-- The output offset is one of the offsets held, or 0 (R99). -/
theorem outputOffset_range (law : OffsetsLaw s) : OffsetInRange (outputOffset s) := by
  obtain ⟨inputs, -, value⟩ := (offsetsLaw_iff s).mp law
  have zero : OffsetInRange 0 := by decide
  unfold outputOffset
  split
  · exact zero
  · exact value
  all_goals
    split
    · rename_i i _
      cases offset : s.monitors[i].lastOffset with
      | none => exact zero
      | some n => exact (inputs i).2 n (by rw [offset]; rfl)
    · exact zero

end
end Sys2Proof.Machine

open Sys2Proof Sys2Proof.Machine

/-- Settles O58: an input passes to READY only beside a full window, and a full window gives an offset. -/
theorem offsetsStand : Obligations.OffsetsStand := by
  unfold Obligations.OffsetsStand
  intro s t law h
  rcases step_cases h with rfl | ⟨c, rest, -, happens, -⟩
  · exact ⟨tick_offsets law, outputOffset_range (tick_offsets law)⟩
  · exact ⟨happens.offsets law, outputOffset_range (happens.offsets law)⟩

end


section
/-! PROOF. O59: after every step the source is the one that the decision gives (R74, R78, R79). -/

namespace Sys2Proof.Machine

section

variable {s t u v m : State} {c : Instr} {i : Inp} {must expired : Bool} {leaver : Option Inp}

/-- The source that the decision gives. -/
abbrev decided (s : State) : Source := (decision s false).1

/-! ### What the decision reads -/

/-- The eligible set and the keys of the ranking are the same. -/
structure SameRanking (s t : State) : Prop where
  loader : t.loader.buffer = s.loader.buffer
  eligible : ∀ i : Inp, eligible t i = eligible s i
  effective : ∀ i : Inp, t.records[i].effective = s.records[i].effective
  hop : ∀ i : Inp, t.records[i].hop = s.records[i].hop

theorem SameRanking.inputCfg (same : SameRanking s t) (i : Inp) : inputCfg t i = inputCfg s i := by
  simp only [Machine.inputCfg, same.loader]

theorem SameRanking.bestInput (same : SameRanking s t) : bestInput t = bestInput s := by
  have better : betterOf t = betterOf s := by
    funext best i
    unfold betterOf ranksAhead
    simp only [same.eligible, same.effective, same.hop, same.inputCfg]
  rw [Machine.bestInput, Machine.bestInput, better]

theorem SameRanking.keepOrLeave (same : SameRanking s t) (a b : Inp) : keepOrLeave t a b = keepOrLeave s a b := by
  have revertive : (cfg t).revertive = (cfg s).revertive := by rw [cfg, cfg, same.loader]
  unfold Machine.keepOrLeave
  rw [revertive]
  simp only [same.effective]

/-- The same ranking, active input and force give the same decision, with the same own oscillator where it is the
own oscillator. -/
theorem SameRanking.decided_eq (same : SameRanking s t) (active : t.selector.active = s.selector.active)
    (force : t.selector.force = s.selector.force)
    (own : s.selector.force = .none → Machine.bestInput s = none → ownOscillator t = ownOscillator s) : decided t = decided s := by
  cases h : s.selector.force with
  | input f => rw [decided, decided, decision_forced _ h, decision_forced _ (force.trans h)]
  | holdover => rw [decided, decided, decision_forcedOwn _ h, decision_forcedOwn _ (force.trans h)]
  | none =>
    simp only [decided, decision, force, h, same.bestInput, active]
    cases best : Machine.bestInput s with
    | none => exact own h best
    | some b =>
      cases s.selector.active with
      | none => rfl
      | some a => simp only [same.eligible, same.keepOrLeave]

/-- What eligibility reads: fitness and grade of the record, the class group of the bound entry, and the own grade. -/
theorem eligible_congr (fit : t.records[i].fit = s.records[i].fit)
    (effective : t.records[i].effective = s.records[i].effective) (group : boundGroup t i = boundGroup s i)
    (own : ownGrade t = ownGrade s) : eligible t i = eligible s i := by
  simp only [eligible, passesOwnGrade, fit, effective, group, own]

theorem boundGroup_congr (loader : t.loader = s.loader) (entries : t.peers.entries = s.peers.entries) (i : Inp) :
    boundGroup t i = boundGroup s i := by
  simp only [boundGroup, entryOf, inputCfg_congr loader, entries]

/-- The Selector's moves leave the ranking to the own grade. -/
theorem SameRanking.of_moves (moves : SelectorMoves s t) (loader : t.loader = s.loader)
    (entries : t.peers.entries = s.peers.entries) (own : ownGrade t = ownGrade s) : SameRanking s t where
  loader := by rw [loader]
  eligible i := eligible_congr (moves i).fit_eq (moves.effective i) (boundGroup_congr loader entries i) own
  effective := moves.effective
  hop i := by rw [(moves i).onlySelected]

theorem ownOscillator_congr (follower : t.follower = s.follower) : ownOscillator t = ownOscillator s := by
  unfold ownOscillator available
  rw [follower]

theorem decided_congr (loader : t.loader = s.loader) (entries : t.peers.entries = s.peers.entries)
    (records : t.records = s.records) (selector : t.selector = s.selector) (follower : t.follower = s.follower) :
    decided t = decided s := by
  have own : ownGrade t = ownGrade s := by
    simp only [ownGrade, holdoverGrade, floorOrWarm, cfg, follower, loader]
  have same : SameRanking s t := .of_moves (.of_eq records) loader entries own
  exact same.decided_eq (by rw [selector]) (by rw [selector]) fun _ _ => ownOscillator_congr follower

theorem sourceOf_congr (selector : t.selector = s.selector) (follower : t.follower = s.follower) :
    sourceOf t = sourceOf s := by simp only [sourceOf, selector, follower]

/-! ### A decision carried out -/

theorem carryOut_sourceOf (leaver : Option Inp) (d : Source) (s : State) : sourceOf (carryOut leaver d s) = d := by
  unfold carryOut
  cases d <;> dsimp only <;> split
  · rename_i h
    simp only [sourceOf, h]
  · simp only [sourceOf, takeInput_selector]
  · rename_i h
    simp only [sourceOf, h, if_true]
  · simp only [sourceOf, takeOwn_selector, takeOwn_follower, if_true]
  · rename_i h
    simp [sourceOf, h]
  · simp [sourceOf, takeOwn_selector, takeOwn_follower]

theorem carryOut_warm (leaver : Option Inp) (d : Source) (s : State) :
    (carryOut leaver d s).follower.warm = s.follower.warm := by
  unfold carryOut
  cases d <;> dsimp only <;> split
  · rfl
  · rename_i i _
    by_cases h : s.records[i].state = .suspect
    · rw [takeInput_follower_of_suspect leaver h]
    · rw [takeInput_follower_of_usable leaver h]
  · rfl
  · rw [takeOwn_follower]
  · rfl
  · rw [takeOwn_follower]

theorem carryOut_force (leaver : Option Inp) (d : Source) (s : State) :
    (carryOut leaver d s).selector.force = s.selector.force := by
  unfold carryOut
  cases d <;> dsimp only <;> split
  · rfl
  · rw [takeInput_selector]
  · rfl
  · rw [takeOwn_selector]
  · rfl
  · rw [takeOwn_selector]

/-- Where the shelf is on its own oscillator, the output says on which. -/
theorem sourceOf_own (h : s.selector.active = none) : sourceOf s = .holdover ↔ s.follower.output = .holdover := by
  simp only [sourceOf, h]
  split <;> simp_all

theorem ownGrade_of_holdover_iff (status : s.follower.output = .holdover ↔ t.follower.output = .holdover)
    (loader : t.loader = s.loader) (warm : t.follower.warm = s.follower.warm)
    (value : s.follower.output = .holdover → t.follower.value = s.follower.value) : ownGrade t = ownGrade s := by
  unfold ownGrade
  by_cases h : s.follower.output = .holdover
  · rw [if_pos h, if_pos (status.mp h), holdoverGrade, holdoverGrade, value h, cfg, cfg, loader]
  · rw [if_neg h, if_neg (mt status.mpr h), floorOrWarm, floorOrWarm, warm, cfg, cfg, loader]

/-- The lawful state that a decision leaves. -/
theorem Deciding.carried (ready : Deciding leaver s) (barred : Bool) :
    SelectionLaw (carryOut leaver (decision s barred).1 s) := ready.carryOut_law (ready.sound barred)

/-- A decision for HOLDOVER on the state that is in HOLDOVER changes nothing. -/
theorem carryOut_of_current (leaver : Option Inp) {d : Source} (current : sourceOf s = d)
    (own : s.selector.active = none → s.follower.output = .freeRun ∨ s.follower.output = .holdover) :
    carryOut leaver d s = s := by
  subst current
  unfold sourceOf
  cases active : s.selector.active with
  | some i => simp only [carryOut, active, if_true]
  | none =>
    rcases own active with h | h
    · simp [carryOut, active, h]
    · simp [carryOut, active, h]

theorem ownOscillator_of_own (h : s.follower.output = .freeRun ∨ s.follower.output = .holdover)
    (active : s.selector.active = none) : ownOscillator s = sourceOf s := by
  unfold ownOscillator sourceOf
  rcases h with h | h <;> simp [h, active]

/-- With no force and something eligible, an input that was decided on is decided on again. -/
theorem decided_again {b x : Inp} (same : SameRanking s t) (best : bestInput s = some b)
    (decides : decided s = .input x) (unforced : s.selector.force = .none) (unforced' : t.selector.force = .none)
    (active : t.selector.active = some x) : decided t = .input x := by
  have best' : bestInput t = some b := same.bestInput.trans best
  have bEligible : eligible s b = true := bestInput_eligible best
  have keepsBest : ∀ {s : State}, keepOrLeave s b b = (.input b, .reverted) := by
    intro s
    simp [keepOrLeave]
  simp only [decided, decision, unforced, unforced', best, best', active] at decides ⊢
  rw [same.eligible, same.keepOrLeave]
  cases now : s.selector.active with
  | none =>
    simp only [now] at decides
    obtain rfl : b = x := by simpa using decides
    rw [if_pos bEligible, keepsBest]
  | some a =>
    simp only [now] at decides
    by_cases aEligible : eligible s a = true
    · rw [if_pos aEligible] at decides
      by_cases bx : x = b
      · subst bx
        rw [if_pos bEligible, keepsBest]
      · have ax : x = a := by
          unfold keepOrLeave at decides
          repeat' split at decides
          all_goals simp_all
        subst ax
        rw [if_pos aEligible]
        exact decides
    · rw [if_neg aEligible] at decides
      obtain rfl : b = x := by simpa using decides
      rw [if_pos bEligible, keepsBest]

theorem sourceOf_input_iff (s : State) (x : Inp) : sourceOf s = .input x ↔ s.selector.active = some x := by
  unfold sourceOf
  split
  · rename_i a active
    rw [active]
    constructor <;> (rintro ⟨⟩; rfl)
  · rename_i active
    rw [active]
    split <;> simp

theorem decided_of_best_none (unforced : s.selector.force = .none) (best : bestInput s = none) :
    decided s = ownOscillator s := by simp only [decided, decision, unforced, best]

/-- Carrying out a decision that does not move the shelf into HOLDOVER or out of it leaves it decided (R79). -/
theorem Deciding.decided_carryOut (ready : Deciding leaver s)
    (status : s.follower.output = .holdover ↔ (carryOut leaver (decided s) s).follower.output = .holdover) :
    decided (carryOut leaver (decided s) s) = decided s := by
  have law := ready.carried false
  have source := carryOut_sourceOf leaver (decided s) s
  obtain ⟨-, ⟨own, -⟩, -⟩ := law
  have kept : s.follower.output = .holdover → carryOut leaver (decided s) s = s := fun h => by
    have idle : s.selector.active = none := by
      by_contra active
      obtain ⟨i, active⟩ := Option.ne_none_iff_exists'.mp active
      exact (ready.following i active).1.2 h
    have holdover : decided s = .holdover := by
      rw [← source]
      exact (sourceOf_own (own.mpr (.inr (status.mp h)))).mpr (status.mp h)
    rw [holdover]
    exact if_pos ⟨idle, h⟩
  have grade : ownGrade (carryOut leaver (decided s) s) = ownGrade s :=
    ownGrade_of_holdover_iff status (by simp) (carryOut_warm ..) fun h => by rw [kept h]
  have same : SameRanking s (carryOut leaver (decided s) s) :=
    .of_moves (carryOut_moves leaver (decided s) s) (by simp) (by simp) grade
  have force := carryOut_force leaver (decided s) s
  cases forced : s.selector.force with
  | input f =>
    rw [decided, decision_forced _ (force.trans forced)]
    exact (decision_forced _ forced).symm
  | holdover =>
    rw [decided, decision_forcedOwn _ (force.trans forced)]
    exact (decision_forcedOwn _ forced).symm
  | none =>
    cases best : bestInput s with
    | some b =>
      have input : ∃ x : Inp, decided s = .input x := by
        rcases decision_unforced false forced with ⟨h, -⟩ | ⟨x, -, h⟩
        · rw [best] at h
          cases h
        · exact ⟨x, h⟩
      obtain ⟨x, decides⟩ := input
      rw [decides] at source same force ⊢
      exact decided_again same best decides forced (force.trans forced) ((sourceOf_input_iff ..).mp source)
    | none =>
      have decides := decided_of_best_none forced best
      have notInput : (carryOut leaver (decided s) s).selector.active = none := by
        by_contra active
        obtain ⟨i, active⟩ := Option.ne_none_iff_exists'.mp active
        rw [(sourceOf_input_iff _ i).mpr active, decides] at source
        unfold ownOscillator at source
        repeat' split at source
        all_goals cases source
      rw [decided_of_best_none (force.trans forced) (same.bestInput.trans best), ownOscillator_of_own (own.mp notInput) notInput, source]

/-- The holdover grade of a valid record is no worse than the grade of the own oscillator without it, up to 15, which no
eligible grade reaches (R70, R71, R105). -/
theorem holdoverGrade_le (valid : s.follower.value.valid = true) : min 15 (holdoverGrade s) ≤ min 15 (floorOrWarm s) := by
  rw [holdoverGrade, if_pos valid, floorOrWarm, holdoverGradeAt]
  split
  · exact min_le_left ..
  · exact min_le_min_left _ (min_le_right ..)

theorem eligible_mono (fit : t.records[i].fit = s.records[i].fit)
    (effective : t.records[i].effective = s.records[i].effective) (group : boundGroup t i = boundGroup s i)
    (own : min 15 (ownGrade s) ≤ min 15 (ownGrade t)) (h : eligible s i = true) : eligible t i = true := by
  simp only [eligible, passesOwnGrade, fit, effective, group, Bool.and_eq_true, decide_eq_true_eq] at h ⊢
  obtain ⟨⟨isFit, range⟩, passes⟩ := h
  refine ⟨⟨isFit, range⟩, ?_⟩
  split <;> rename_i strict
  · rw [if_pos strict] at passes
    simp only [decide_eq_true_eq] at passes ⊢
    omega
  · rw [if_neg strict] at passes
    simp only [decide_eq_true_eq] at passes ⊢
    omega

theorem SelectorMoves.eligible_mono (moves : SelectorMoves s t) (loader : t.loader = s.loader)
    (entries : t.peers.entries = s.peers.entries) (own : min 15 (ownGrade s) ≤ min 15 (ownGrade t)) (h : eligible s i = true) :
    eligible t i = true :=
  Machine.eligible_mono (moves i).fit_eq (moves.effective i) (boundGroup_congr loader entries i) own h

theorem SelectorMoves.eligible_anti (moves : SelectorMoves s t) (loader : t.loader = s.loader)
    (entries : t.peers.entries = s.peers.entries) (own : min 15 (ownGrade t) ≤ min 15 (ownGrade s)) (h : eligible t i = true) :
    eligible s i = true :=
  Machine.eligible_mono (moves i).fit_eq.symm (moves.effective i).symm (boundGroup_congr loader entries i).symm own h

theorem bestInput_none_of_imp (none : bestInput s = none) (imp : ∀ i : Inp, eligible t i = true → eligible s i = true) :
    bestInput t = Option.none :=
  (bestInput_eq_none_iff t).mpr fun i h =>
    (bestInput_eq_none_iff s).mp none i ((eligible_iff s i).mp (imp i ((eligible_iff t i).mpr h)))

/-- Unforced and with nothing eligible, the own oscillator the shelf is on is decided on. -/
theorem decided_own (unforced : s.selector.force = .none) (best : bestInput s = none)
    (active : s.selector.active = none) (own : s.follower.output = .freeRun ∨ s.follower.output = .holdover) :
    decided s = sourceOf s := by
  rw [← ownOscillator_of_own own active, decided_of_best_none unforced best]

/-- A shelf that the first decision takes into HOLDOVER is decided there again: the holdover grade is no worse than the
grade of the own oscillator without it (R79). -/
theorem Deciding.decided_into_holdover (ready : Deciding leaver s) (unforced : s.selector.force = .none) (outside : s.follower.output ≠ .holdover)
    (inside : (carryOut leaver (decided s) s).follower.output = .holdover) :
    decided (carryOut leaver (decided s) s) = decided s := by
  obtain ⟨-, ⟨own, -⟩, -, ⟨-, valid⟩, -⟩ := ready.carried false
  have source := carryOut_sourceOf leaver (decided s) s
  have active := own.mpr (.inr inside)
  have holdover : decided s = .holdover := source.symm.trans ((sourceOf_own active).mpr inside)
  have best : bestInput s = none := by
    rcases decision_unforced false unforced with ⟨h, -⟩ | ⟨x, -, h⟩
    · exact h
    · exact absurd (holdover.symm.trans h) (by simp)
  have grade : min 15 (ownGrade (carryOut leaver (decided s) s)) ≤ min 15 (ownGrade s) := by
    have loader : cfg (carryOut leaver (decided s) s) = cfg s := by simp [cfg]
    have warm := carryOut_warm leaver (decided s) s
    have step := holdoverGrade_le (valid inside)
    rw [floorOrWarm, warm, loader, ← floorOrWarm] at step
    rw [ownGrade, ownGrade, if_pos inside, if_neg outside]
    exact step
  have best' : bestInput (carryOut leaver (decided s) s) = none :=
    bestInput_none_of_imp best fun i => (carryOut_moves leaver (decided s) s).eligible_anti (by simp) (by simp) grade
  rw [decided_own ((carryOut_force ..).trans unforced) best' active (.inr inside), source]

/-- A shelf that the first decision takes out of HOLDOVER takes an input, which stays eligible, and the second decision
takes an input too (R79). -/
theorem Deciding.decided_out_of_holdover (ready : Deciding leaver s) (unforced : s.selector.force = .none) (inside : s.follower.output = .holdover)
    (outside : (carryOut leaver (decided s) s).follower.output ≠ .holdover) :
    ∃ x : Inp, decided (carryOut leaver (decided s) s) = .input x := by
  have input : ∃ x : Inp, eligible s x = true ∧ decided s = .input x := by
    rcases decision_unforced false unforced with ⟨-, h⟩ | found
    · exfalso
      have idle : s.selector.active = none := by
        by_contra active
        obtain ⟨i, active⟩ := Option.ne_none_iff_exists'.mp active
        exact (ready.following i active).1.2 inside
      have holdover : decided s = .holdover := by
        rw [decided, h]
        simp only [ownOscillator, inside]
      rw [holdover] at outside
      exact outside (by rw [carryOut, if_pos ⟨idle, inside⟩]; exact inside)
    · exact found
  obtain ⟨x, isEligible, decides⟩ := input
  have grade : min 15 (ownGrade s) ≤ min 15 (ownGrade (carryOut leaver (decided s) s)) := by
    have step := holdoverGrade_le (ready.value.2 inside)
    have loader : cfg (carryOut leaver (decided s) s) = cfg s := by simp [cfg]
    rw [ownGrade, ownGrade, if_pos inside, if_neg outside, floorOrWarm, carryOut_warm, loader, ← floorOrWarm]
    exact step
  have still := (carryOut_moves leaver (decided s) s).eligible_mono (by simp) (by simp) grade isEligible
  rcases decision_unforced false ((carryOut_force leaver (decided s) s).trans unforced) with ⟨none, -⟩ | ⟨y, -, h⟩
  · exact absurd ((eligible_iff _ _).mp still) ((bestInput_eq_none_iff _).mp none x)
  · exact ⟨y, h⟩

theorem decision_cause_forced (barred : Bool) : (decision s barred).2 = .forced ↔ s.selector.force ≠ .none := by
  cases force : s.selector.force with
  | input f => simp [decision, force]
  | holdover => simp [decision, force]
  | none =>
    simp only [decision, force, ne_eq, not_true_eq_false, iff_false]
    unfold keepOrLeave
    repeat' split
    all_goals simp

theorem evaluate_fst (leaver : Option Inp) (s : State) : (evaluate leaver s).1 =
    if s.selector.force = .none ∧
      ¬(s.follower.output = .holdover ↔ (carryOut leaver (decided s) s).follower.output = .holdover)
    then carryOut (carryOut leaver (decided s) s).selector.active (decided (carryOut leaver (decided s) s))
      (carryOut leaver (decided s) s)
    else carryOut leaver (decided s) s := by
  simp only [evaluate, decideAgain, ne_eq, decision_cause_forced, not_not, eq_iff_iff,
    decision_fst (leaver.isSome && s.selector.active.isNone)]

/-- After an evaluation the source is decided (R74, R79). -/
theorem Deciding.evaluate_settled (ready : Deciding leaver s) :
    sourceOf (evaluate leaver s).1 = decided (evaluate leaver s).1 := by
  have source := carryOut_sourceOf leaver (decided s) s
  have law := ready.carried false
  rw [evaluate_fst]
  split
  case isTrue again =>
    obtain ⟨unforced, moved⟩ := again
    by_cases inside : s.follower.output = .holdover
    · have outside : (carryOut leaver (decided s) s).follower.output ≠ .holdover := fun h =>
        moved (iff_of_true inside h)
      obtain ⟨x, input⟩ := ready.decided_out_of_holdover unforced inside outside
      have ready' : Deciding _ (carryOut leaver (decided s) s) := ready.carryOut_deciding (ready.sound false)
      have source' := carryOut_sourceOf (carryOut leaver (decided s) s).selector.active
        (decided (carryOut leaver (decided s) s)) (carryOut leaver (decided s) s)
      obtain ⟨-, ⟨own, -⟩, -⟩ := ready'.carried false
      rw [ready'.decided_carryOut, source']
      refine iff_of_false outside fun h => ?_
      rw [input] at source' h
      rw [← decided, input] at own
      have active := (sourceOf_input_iff _ _).mp source'
      rw [own.mpr (.inr h)] at active
      cases active
    · have inside' : (carryOut leaver (decided s) s).follower.output = .holdover := by
        by_contra h
        exact moved (iff_of_false inside h)
      have same := ready.decided_into_holdover unforced inside inside'
      obtain ⟨-, ⟨own, -⟩, -⟩ := law
      rw [carryOut_of_current _ (source.trans same.symm) own.mp, source, same]
  case isFalse once =>
    rw [source]
    by_cases unforced : s.selector.force = .none
    · exact (ready.decided_carryOut (by simpa [unforced] using once)).symm
    · have force := carryOut_force leaver (decided s) s
      cases forced : s.selector.force with
      | input f => exact (decision_forced _ forced).trans (decision_forced _ (force.trans forced)).symm
      | holdover => exact (decision_forcedOwn _ forced).trans (decision_forcedOwn _ (force.trans forced)).symm
      | none => exact absurd forced unforced

/-! ### The events -/

/-- At the end of an event in which the Selector evaluates the source is decided. -/
theorem settleEvent_settled_of_due {before : State} (ready : Deciding before.selector.active (clearBarredForce s))
    (due : must = true ∨ evaluationDue before (clearBarredForce s) = true) :
    sourceOf (settleEvent before must expired s) = decided (settleEvent before must expired s) := by
  have settled := ready.evaluate_settled
  rw [settleEvent, selectorTurn_of_due _ _ _ _ due]
  generalize (evaluate before.selector.active (clearBarredForce s)).1 = v at settled
  rw [sourceOf_congr (s := v) (by simp) (by simp), settled]
  exact (decided_congr (by simp) (by simp) (by simp) (by simp) (by simp)).symm

/-- At the end of an event in which it does not, the state decided on is the one that the event's changes left. -/
theorem settleEvent_settled_of_not_due {before : State} (idle : evaluationDue before (clearBarredForce s) = false)
    (settled : sourceOf (clearBarredForce s) = decided (clearBarredForce s)) :
    sourceOf (settleEvent before false expired s) = decided (settleEvent before false expired s) := by
  rw [settleEvent, selectorTurn_of_not_due _ _ _ idle]
  rw [sourceOf_congr (s := clearBarredForce s) (by simp) (by simp), settled]
  exact (decided_congr (by simp) (by simp) (by simp) (by simp) (by simp)).symm

/-- An input without an entry behind it is not eligible: it has grade 15 (R3, R71). -/
theorem RecordsAgree.ineligible_of_no_entry (agree : RecordsAgree s) (peer : (inputCfg s i).use = .peer)
    (noEntry : entryOf s (inputCfg s i).bound = none) : 15 ≤ s.records[i].effective := by
  obtain ⟨-, -, effective, -⟩ := (agree i).2 (by simp [peer])
  have raw : rawOf s i = 15 := by
    simp only [rawOf, peer, noEntry]
    rfl
  rw [effective, raw]
  exact le_max_left ..

theorem boundGroup_eq_none (h : boundGroup s i = none) (peer : (inputCfg s i).use = .peer) :
    entryOf s (inputCfg s i).bound = none := by
  simpa [boundGroup, peer] using h

theorem eligible_of_unfit_grade (h : 15 ≤ s.records[i].effective) : eligible s i = false := by
  have : ¬s.records[i].effective ≤ 14 := by omega
  simp [eligible, this, -Fin.getElem_fin]

/-- Where nothing that the decision reads has changed, the eligible set is the same: an entry that has come or gone leaves
its inputs at grade 15. -/
theorem SameRanking.of_not_due {before : State} (agreeBefore : RecordsAgree before) (agree : RecordsAgree s)
    (loader : s.loader = before.loader) (idle : evaluationDue before s = false) : SameRanking before s := by
  obtain ⟨same, own, -⟩ := (evaluationDue_eq_false_iff before s).mp idle
  refine ⟨by rw [loader], fun i => ?_, fun i => (same i).2.2.1.symm, fun i => (same i).2.2.2.1.symm⟩
  obtain ⟨state, origin, effective, hop, notToLock, notToOwn⟩ := same i
  have fit : s.records[i].fit = before.records[i].fit := by rw [InputRec.fit, InputRec.fit, state]
  by_cases group : boundGroup s i = boundGroup before i
  · exact eligible_congr fit effective.symm group own.symm
  · have cfg := inputCfg_congr loader i
    have grade : 15 ≤ s.records[i].effective := by
      by_cases peer : (Machine.inputCfg s i).use = .peer
      · have peerBefore : (Machine.inputCfg before i).use = .peer := cfg ▸ peer
        cases after : boundGroup s i with
        | none => exact agree.ineligible_of_no_entry peer (boundGroup_eq_none after peer)
        | some b =>
          cases earlier : boundGroup before i with
          | none =>
            rw [← effective]
            exact agreeBefore.ineligible_of_no_entry peerBefore (boundGroup_eq_none earlier peerBefore)
          | some b' =>
            rw [after, earlier] at group
            rw [after, earlier] at notToLock notToOwn
            cases b <;> cases b' <;> simp_all
      · have peerBefore : (Machine.inputCfg before i).use ≠ .peer := cfg ▸ peer
        simp [boundGroup, peer, peerBefore] at group
    rw [eligible_of_unfit_grade grade, eligible_of_unfit_grade (effective ▸ grade)]

/-- An event that the Selector does not evaluate in leaves the active input. -/
theorem MidEvent.source_of_not_due {before : State} (mid : MidEvent before s)
    (idle : evaluationDue before (clearBarredForce s) = false) : s.selector.active = before.selector.active := by
  obtain ⟨same, -⟩ := (evaluationDue_eq_false_iff _ _).mp idle
  rcases mid.source with h | ⟨-, a, -, notBarred, barred⟩
  · exact h
  · have state : before.records[a].state = s.records[a].state := by simpa using (same a).1
    exact absurd (state ▸ barred) notBarred

/-- With no active input the output is the one that the value's validity gives (R98), and only an expiry changes that. -/
theorem own_output_eq {f f' : Follower} (law : ValueLaw f) (law' : ValueLaw f') (own : f.output = .freeRun ∨ f.output = .holdover)
    (own' : f'.output = .freeRun ∨ f'.output = .holdover) (valid : f'.value.valid = f.value.valid) :
    f'.output = f.output := by
  rcases own with h | h <;> rcases own' with g | g <;> rw [h, g]
  · exact absurd (valid ▸ law'.2 g) (by simp [law.1 h])
  · exact absurd (valid.symm ▸ law.2 h) (by simp [law'.1 g])

/-- On the own oscillator, an event keeps the value valid or not, unless it is the expiry's. -/
theorem Body.valid_eq (body : Body c s must expired m) (law : SelectionLaw s) (idle : s.selector.active = none)
    (optional : must = false) : m.follower.value.valid = s.follower.value.valid := by
  obtain ⟨-, ⟨own, -⟩, ⟨history, -⟩, value, -⟩ := law
  have output := own.mp idle
  have empty : s.follower.history = [] := history (by tauto)
  have kept {v : State} (step : ValueStep v m) (same : v.follower = s.follower) :
      m.follower.value.valid = s.follower.value.valid := by
    rw [(step.of_no_history (by rw [same, empty])).2, same]
  rcases body.valueStep with step | ⟨i, edges, -, step⟩ | ⟨-, invalid⟩
  · exact kept step rfl
  · exact kept step (by rw [takeOffset_follower, if_neg (by simp [idle])])
  · rcases invalid with ⟨⟨due, moves⟩, -⟩ | ⟨n, h⟩
    · have notHoldover : s.follower.output ≠ .holdover := fun h => by simp [expiryMoves, h, optional] at moves
      have noValue := value.1 (output.resolve_right notHoldover)
      simp [valueDue, noValue] at due
    · rw [h]

theorem RecordsAgree.clearBarredForce (agree : RecordsAgree s) : RecordsAgree (clearBarredForce s) :=
  agree.congr (by simp) (by simp) (by simp) (by simp)

/-- Settled before, and with no evaluation due, the shelf is settled after. -/
theorem Body.settled_of_not_due (body : Body c s false expired m) (records : RecordsLawful s) (law : SelectionLaw s)
    (agree : RecordsAgree s) (settled : sourceOf s = decided s) (idle : evaluationDue s (clearBarredForce m) = false) :
    sourceOf (clearBarredForce m) = decided (clearBarredForce m) := by
  rcases body.mid records law with mid | ⟨f, rfl, -, -, other, can⟩
  case inr => exact absurd idle (setForce_due other can)
  case inl =>
    have after := mid.law_of_not_due idle
    have source : (clearBarredForce m).selector.active = s.selector.active := by
      rw [clearBarredForce_selector]
      exact mid.source_of_not_due idle
    have ranking : SameRanking s (clearBarredForce m) :=
      .of_not_due agree (body.recordsAgree agree records).clearBarredForce (by simp [body.units.loader]) idle
    have force := ((evaluationDue_eq_false_iff _ _).mp idle).2.2.symm
    have whole := law
    obtain ⟨-, ⟨own, -⟩, -, value, -⟩ := law
    obtain ⟨-, ⟨own', -⟩, -, value', -⟩ := after
    have output : s.selector.active = none → (clearBarredForce m).follower.output = s.follower.output := fun none =>
      own_output_eq value value' (own.mp none) (own'.mp (source.trans none)) (by
        rw [clearBarredForce_follower]
        exact body.valid_eq whole none rfl)
    have same : sourceOf (clearBarredForce m) = sourceOf s := by
      unfold sourceOf
      rw [source]
      split
      · rfl
      · rename_i none
        rw [output none]
    rw [same, settled]
    refine (ranking.decided_eq source force fun unforced best => ?_).symm
    have decides := decided_of_best_none unforced best
    have none : s.selector.active = none := by
      by_contra active
      obtain ⟨i, active⟩ := Option.ne_none_iff_exists'.mp active
      rw [(sourceOf_input_iff s i).mpr active, decides] at settled
      unfold ownOscillator at settled
      repeat' split at settled
      all_goals cases settled
    rw [ownOscillator_of_own (own'.mp (source.trans none)) (source.trans none), ownOscillator_of_own (own.mp none) none, same]

/-- At the end of every event the source is decided. -/
theorem Body.settled (body : Body c s must expired m) (records : RecordsLawful s) (law : SelectionLaw s)
    (agree : RecordsAgree s) (settled : sourceOf s = decided s) :
    sourceOf (settleEvent s must expired m) = decided (settleEvent s must expired m) := by
  by_cases due : must = true ∨ evaluationDue s (clearBarredForce m) = true
  · refine settleEvent_settled_of_due ?_ due
    rcases body.mid records law with mid | ⟨f, rfl, -, -, -, can⟩
    · exact mid.deciding
    · exact setForce_deciding records law can
  · simp only [not_or, Bool.not_eq_true] at due
    obtain ⟨rfl, idle⟩ := due
    exact settleEvent_settled_of_not_due idle (body.settled_of_not_due records law agree settled idle)

/-! ### START, the settle expiry and one LOSC cycle -/

theorem startPart_settled (held : Option Nat) (s : State) :
    sourceOf (startPart held s) = decided (startPart held s) := by
  have settled := (startReady_deciding held s).evaluate_settled
  rw [startPart_eq]
  generalize (evaluate none (startReady held s)).1 = v at settled
  rw [sourceOf_congr (s := v) (by simp) (by simp), settled]
  exact (decided_congr (by simp) (by simp) (by simp) (by simp) (by simp)).symm

/-- A settled shelf that follows an input is settled in every state of that output (R74). -/
theorem settled_of_following (law : SelectionLaw s) (settled : sourceOf s = decided s) (same : SameRanking s t)
    (selector : t.selector = s.selector) (following : Following s.follower.output) : sourceOf t = decided t := by
  obtain ⟨-, ⟨own, -⟩, -⟩ := law
  have active : s.selector.active ≠ none := fun h => (not_following_iff _).mpr (own.mp h) following
  obtain ⟨i, active⟩ := Option.ne_none_iff_exists'.mp active
  have source := (sourceOf_input_iff s i).mpr active
  have source' := (sourceOf_input_iff t i).mpr (selector ▸ active)
  rw [source', ← source, settled]
  refine (same.decided_eq (by rw [selector]) (by rw [selector]) fun unforced best => ?_).symm
  rw [source, decided_of_best_none unforced best] at settled
  unfold ownOscillator at settled
  repeat' split at settled
  all_goals cases settled

theorem settleEnd_settled (law : SelectionLaw s) (settled : sourceOf s = decided s)
    (acquiring : s.follower.output = .acquiring) : sourceOf (settleEnd s) = decided (settleEnd s) := by
  have follower : (settleEnd s).follower = { s.follower with output := .locked, settle := none } := by simp [settleEnd]
  have grade : ownGrade (settleEnd s) = ownGrade s :=
    ownGrade_of_holdover_iff (by simp [follower, acquiring]) (by simp [settleEnd]) (by simp [follower]) (by simp [follower])
  have same : SameRanking s (settleEnd s) :=
    .of_moves (.of_eq (by simp [settleEnd])) (by simp [settleEnd]) (by simp [settleEnd]) grade
  exact settled_of_following law settled same (by simp [settleEnd]) (by simp [acquiring, Following])

theorem step_age_iff {n age : Nat} (notReached : n + 1 ≠ age * second) : age ≤ (n + 1) / second ↔ age ≤ n / second := by
  rw [Nat.le_div_iff_mul_le (by decide), Nat.le_div_iff_mul_le (by decide)]
  omega

/-- A cycle takes the value's age past no step (R105). -/
theorem steppedGrade_tickAge (c : Image) (base n : Nat) :
    steppedGrade c base (tickAge c n / second) = steppedGrade c base (n / second) := by
  unfold tickAge
  split
  · rfl
  · rename_i notReached
    unfold stepShort
    split
    · rfl
    · simp only [List.contains_cons, List.contains_nil, Bool.or_false, Bool.or_eq_true, beq_iff_eq, not_or] at notReached
      obtain ⟨age1, age2, age3⟩ := notReached
      simp only [steppedGrade, step_age_iff age1, step_age_iff age2, step_age_iff age3]

theorem tickFollower_holdover (s : State) : (if (tickFollower s).value.valid
      then holdoverGradeAt (cfg s) (tickFollower s).value.base (tickFollower s).value.age else unfit) =
    if s.follower.value.valid then holdoverGradeAt (cfg s) s.follower.value.base s.follower.value.age else unfit := by
  rw [tickFollower_valid, tickFollower_base]
  split
  · rename_i valid
    have age : (tickFollower s).value.age = tickAge (cfg s) s.follower.value.ageCycles / second := by
      simp only [tickFollower, valid, if_true, HoldValue.age]
    rw [age, holdoverGradeAt, steppedGrade_tickAge, holdoverGradeAt, HoldValue.age]
  · rfl

theorem tick_cfg (s : State) : cfg (tick s) = cfg s := by rw [cfg, cfg, tick_loader]

theorem tick_holdoverGrade (noHold : s.hold.isSome = false) : holdoverGrade (tick s) = holdoverGrade s := by
  rw [holdoverGrade, holdoverGrade, tick_cfg, tick_follower noHold]
  exact tickFollower_holdover s

theorem boundGroup_tick (s : State) (i : Inp) : boundGroup (tick s) i = boundGroup s i := by
  have group := tick_entryOf (fun o => o.map fun e => e.cls.ownOscillator) (fun o => by
    cases o with
    | none => rfl
    | some e => rw [Option.map_some, Option.map_some, Option.map_some, tickEntry_cls]) s
  simp only [boundGroup, tick_inputCfg, group]

theorem tickRecord_fit (c : InputCfg) (r : InputRec) : (tickRecord c r).fit = r.fit := rfl

theorem tick_settled (settled : sourceOf s = decided s) : sourceOf (tick s) = decided (tick s) := by
  by_cases h : s.hold.isSome = true
  · rw [tick_of_hold h]
    exact settled
  · have noHold : s.hold.isSome = false := by simpa using h
    have follower := tick_follower noHold
    have output : (tick s).follower.output = s.follower.output := by rw [follower]; rfl
    have warm : (tick s).follower.warm = s.follower.warm := by rw [follower]; rfl
    have valid : (tick s).follower.value.valid = s.follower.value.valid := by rw [follower, tickFollower_valid]
    have history : (tick s).follower.history = s.follower.history := by rw [follower]; rfl
    have grade : ownGrade (tick s) = ownGrade s := by
      rw [ownGrade, ownGrade, output, tick_holdoverGrade noHold, floorOrWarm, floorOrWarm, warm, tick_cfg]
    have same : SameRanking s (tick s) := by
      refine ⟨by rw [tick_loader], fun i => eligible_congr ?_ (tick_effective s i) (boundGroup_tick s i) grade,
        tick_effective s, fun i => ?_⟩
      · rw [tick_records noHold]
        exact tickRecord_fit ..
      · rw [tick_records noHold]
        rfl
    have source : sourceOf (tick s) = sourceOf s := by simp only [sourceOf, tick_selector, output]
    rw [source, settled]
    refine (same.decided_eq (by rw [tick_selector]) (by rw [tick_selector]) fun _ _ => ?_).symm
    unfold ownOscillator available
    rw [output, valid, history]

theorem withPort_settled (p : Port) (settled : sourceOf s = decided s) : sourceOf (s.withPort p) = decided (s.withPort p) :=
  settled

theorem Happens.settled (happens : Happens c s t) (records : RecordsLawful s) (law : SelectionLaw s)
    (agree : running s = true → RecordsAgree s)
    (settled : running s = true → sourceOf s = decided s) (on : running t = true) : sourceOf t = decided t := by
  have kept {t : State} (runs : running s = true) (h1 : t.loader = s.loader)
      (h2 : t.peers.entries = s.peers.entries) (h3 : t.records = s.records) (h4 : t.selector = s.selector)
      (h5 : t.follower = s.follower) : sourceOf t = decided t := by
    rw [sourceOf_congr h4 h5, decided_congr h1 h2 h3 h4 h5]
    exact settled runs
  cases happens with
  | aside aside =>
    rw [running_congr aside.hold aside.loader] at on
    exact kept on aside.loader aside.entries aside.records aside.selector aside.follower
  | cleared => simp [running, State.cleared] at on
  | released => simp [released_not_running] at on
  | loading _ off => simp [off] at on
  | starts held open' _ only lawful result =>
    rw [result]
    exact withPort_settled _ (startPart_settled held _)
  | pops result =>
    rw [result] at on ⊢
    exact kept on rfl rfl rfl rfl rfl
  | sampled => exact kept on rfl rfl rfl rfl rfl
  | locks runs acquiring => exact settleEnd_settled law (settled runs) acquiring
  | event beside _ body result =>
    have runs : running s = true := by
      rw [← running_congr beside.hold beside.loader]
      exact body.on
    rw [result]
    refine withPort_settled _ (body.settled ((recordsLawful_congr beside.records).mpr records)
      ((selectionLaw_congr beside.records beside.selector beside.follower).mpr law)
      ((agree runs).congr beside.loader (by rw [beside.entries]) beside.monitors beside.records) ?_)
    exact kept runs beside.loader beside.entries beside.records beside.selector beside.follower

end
end Sys2Proof.Machine

open Sys2Proof Sys2Proof.Machine

/-- Settles O59: an evaluation leaves the shelf on what it decides, the holdover grade being no worse than the floor
grade up to 15; and an event that asks for none leaves what the decision reads as it was. -/
theorem selectorIsNeverBehind : Obligations.SelectorIsNeverBehind := by
  unfold Obligations.SelectorIsNeverBehind
  intro s t lawful settled h on
  obtain ⟨-, records, law, -, -, -, -, agree, -⟩ := lawful
  rcases step_cases h with rfl | ⟨c, rest, -, happens, -⟩
  · exact tick_settled (settled (tick_running s ▸ on))
  · exact happens.settled records law agree settled on

end


section
/-! PROOF. O1, O4, O5, O6, O51: a step, the resets and their release, and the soft reset that a WITHDRAW announces. -/

namespace Sys2Proof.Machine

section

variable {s t : State}

/-! ### Every unit after a reset -/

/-- A state whose units are those that a reset leaves. -/
theorem unitsReset_of_init {warm : Bool} {los : Inp → Bool} (records : ∀ i : Inp, t.records[i] = InputRec.init)
    (monitors : ∀ i : Inp, t.monitors[i] = Monitor.init (los i)) (selector : t.selector = Selector.init)
    (follower : t.follower = Follower.init warm) (peers : t.peers = PeerTable.init)
    (announcer : t.announcer = Announcer.init) (bus : t.bus = Bus.init) (log : t.log = EventLog.init)
    (loader : t.loader.held = false ∧ t.loader.clampCount = 0) (port : t.port.frame = none) : UnitsReset t := by
  refine ⟨fun i => ?_, fun i => ?_, ?_, ?_, ?_, ?_, ?_, ?_, loader, port⟩
  · rw [records]
    exact ⟨rfl, rfl, rfl, rfl, rfl, rfl, rfl, rfl, rfl, rfl⟩
  · rw [monitors]
    exact ⟨rfl, rfl, rfl, rfl, rfl, rfl, rfl, rfl, rfl, rfl, rfl, rfl, rfl⟩
  · rw [selector]
    exact ⟨rfl, rfl⟩
  · rw [follower]
    exact ⟨rfl, rfl, rfl, rfl, rfl, rfl, rfl, rfl, rfl, rfl⟩
  · rw [peers]
    exact ⟨fun k => by simp [PeerTable.init], rfl, rfl, rfl⟩
  · rw [announcer]
    exact ⟨rfl, rfl, rfl, rfl, rfl, rfl, rfl, rfl, rfl, rfl, rfl⟩
  · rw [bus]
    exact ⟨rfl, rfl, rfl, rfl, rfl, rfl, rfl, rfl, rfl, rfl⟩
  · rw [log]
    exact ⟨rfl, rfl, rfl, rfl⟩

theorem cleared_record (kind : ResetKind) (pins : Pins) (pending : List Instr) (i : Inp) :
    (State.cleared kind pins pending).records[i] = InputRec.init := by simp [State.cleared]

theorem cleared_monitor (kind : ResetKind) (pins : Pins) (pending : List Instr) (i : Inp) :
    (State.cleared kind pins pending).monitors[i] = Monitor.init false := by simp [State.cleared]

theorem cleared_unitsReset (kind : ResetKind) (pins : Pins) (pending : List Instr) :
    UnitsReset (State.cleared kind pins pending) :=
  unitsReset_of_init (warm := false) (los := fun _ => false) (cleared_record kind pins pending)
    (cleared_monitor kind pins pending) rfl rfl rfl rfl rfl rfl ⟨rfl, rfl⟩ rfl

/-- The Image Loader at a release holds no image, whatever the straps (R165). -/
theorem loaderAtRelease_held (pins : Pins) :
    (loaderAtRelease pins).held = false ∧ (loaderAtRelease pins).clampCount = 0 := by
  unfold loaderAtRelease
  dsimp only
  split
  · split <;> exact ⟨rfl, rfl⟩
  · exact ⟨rfl, rfl⟩

theorem loaderAtRelease_strapsRead (pins : Pins) :
    StrapsRead pins.addrStrap.toNat pins.controllerMode (loaderAtRelease pins) := by
  unfold loaderAtRelease strapGood
  by_cases good : 1 ≤ pins.addrStrap.toNat ∧ pins.addrStrap.toNat ≤ 24
  · rw [if_pos (by simpa using good)]
    refine ⟨fun bad => absurd bad (by omega), fun _ => ?_, ?_⟩
    · cases pins.controllerMode <;> exact ⟨rfl, rfl, by simp, by simp [Loader.init]⟩
    · cases pins.controllerMode <;> rfl
  · rw [if_neg (by simpa using good)]
    exact ⟨fun _ => ⟨rfl, rfl, rfl, rfl⟩, fun within => absurd within good, rfl⟩

theorem released_justReleased (kind : ResetKind) (pins : Pins) {port : Port} (pending : List Instr)
    (noFrame : port.frame = none) : JustReleased kind pins (released kind pins port pending) := by
  have monitor (i : Inp) : (released kind pins port pending).monitors[i] = Monitor.init (losPin pins i) := by
    simp [released]
  refine ⟨rfl, rfl, rfl, ?_, loaderAtRelease_strapsRead pins, fun i => ?_, ?_⟩
  · exact unitsReset_of_init (warm := decide (kind = .power)) (los := losPin pins)
      (fun i => by simp [released, State.cleared]) monitor rfl rfl rfl rfl rfl rfl (loaderAtRelease_held pins) noFrame
  · rw [monitor]
    rfl
  · exact decide_eq_true_iff

theorem softResetNow_justReleased (pins : Pins) (s : State) : JustReleased .soft pins (softResetNow pins s) :=
  released_justReleased .soft pins s.pending rfl

theorem softResetNow_sdo (pins : Pins) (s : State) : (softResetNow pins s).port.sdo = s.port.sdo := rfl
theorem softResetNow_pending (pins : Pins) (s : State) : (softResetNow pins s).pending = s.pending := rfl

/-! ### The transmitter and the want (R122) -/

/-- What the want makes of the transmitter's state (R122). -/
def wantedTx (wants : Bool) (tx : Transmitter) : Transmitter :=
  match tx with
  | .idle | .deferring => if wants then .deferring else .idle
  | .off => .off
  | .sending => .sending
  | .silent => .silent

theorem State.withBus_self (s : State) : s.withBus s.bus = s := rfl

theorem Bus.with_tx (b : Bus) {tx : Transmitter} (same : b.tx = tx) : { b with tx := tx } = b := by rw [← same]

theorem syncWant_eq (s : State) : syncWant s = s.withBus { s.bus with tx := wantedTx (wantsFrame s.announcer) s.bus.tx } := by
  unfold syncWant wantedTx
  cases tx : s.bus.tx <;> simp only
  case idle =>
    split
    · rfl
    · rw [s.bus.with_tx tx, s.withBus_self]
  case deferring =>
    split
    · rw [s.bus.with_tx tx, s.withBus_self]
    · rfl
  all_goals rw [s.bus.with_tx tx, s.withBus_self]

theorem wantsFrame_of_withdrawing {a : Announcer} (mode : a.mode = .withdrawing) : wantsFrame a = true := by
  simp [wantsFrame, mode]

theorem wantedTx_wants (tx : Transmitter) : wantedTx true tx = if tx = .idle then .deferring else tx := by
  cases tx <;> rfl

/-! ### SOFT RESET (R181) -/

theorem beginWithdraw_eq (s : State) : beginWithdraw s = { s with
    announcer := { s.announcer with mode := .withdrawing, withdrawWait := some 1000000, waitOver := false }
    bus := { s.bus with tx := if s.bus.tx = .idle then .deferring else s.bus.tx } } := by
  unfold beginWithdraw
  rw [syncWant_eq, wantsFrame_of_withdrawing rfl, wantedTx_wants]
  rfl

theorem softReset_at_once {pins : Pins} (open' : s.hold = none)
    (now : running s = false ∨ s.bus.duplicate = true ∧ s.announcer.mode ≠ .withdrawing) :
    exec (.softReset pins) s = .next (softResetNow pins (answer 0 [resDone] s)) := by
  have isOpen : portOpen s = true := (portOpen_iff s).mpr open'
  have running : running (answer 0 [resDone] s) = running s := rfl
  show Host.Outcome.next _ = _
  rw [if_pos isOpen, softResetTaken, running, answer_announcer, answer_bus, if_neg, if_neg]
  · rcases now with off | ⟨duplicate, -⟩
    · simp [off]
    · simp [duplicate]
  · rcases now with off | ⟨-, mode⟩
    · simp [off]
    · simp [mode]

/-! ### The ends of the wait for a WITHDRAW (R131) -/

theorem sendingWithdraw_iff : sendingWithdraw s = true ↔ s.bus.tx = .sending ∧ ∃ q, s.announcer.frame = some (.withdraw q) := by
  unfold sendingWithdraw
  rcases frame : s.announcer.frame with _ | ⟨_ | _ | _⟩ <;> simp

theorem resetAfterClash_iff (before : State) : resetAfterClash before s = true ↔ before.announcer.mode = .withdrawing ∧
    (s.bus.duplicate = true ∨ sendingWithdraw before = true ∧ before.announcer.waitOver = true) := by
  simp [resetAfterClash]

theorem setDuplicate_duplicate (cause arg : Nat) : (setDuplicate cause arg s).bus.duplicate = true := by
  unfold setDuplicate
  split
  · assumption
  · rfl

/-- What a clash leaves, written out: the want finds the transmitter idle (R122, R125). -/
theorem clashEnd_eq (s : State) : clashEnd s = (s.withAnnouncer { s.announcer with frame := none }).withBus { s.bus with
    tx := wantedTx (wantsFrame { s.announcer with frame := none }) .idle, rx := receiverFreed s, idle := some 0
    rest := false, clashRun := s.bus.clashRun + 1, clashes := bump s.bus.clashes } := by
  rw [clashEnd, syncWant_eq]
  rfl

theorem clashEnd_clashRun : (clashEnd s).bus.clashRun = s.bus.clashRun + 1 := by
  rw [clashEnd_eq]
  rfl

theorem clashEnd_duplicate : (clashEnd s).bus.duplicate = s.bus.duplicate := by
  rw [clashEnd_eq]
  rfl

theorem clashDuplicate_port : (clashDuplicate (clashEnd s)).port = s.port := by
  unfold clashDuplicate setDuplicate
  rw [clashEnd_eq]
  split
  · split <;> rfl
  · rfl

theorem clashDuplicate_pending : (clashDuplicate (clashEnd s)).pending = s.pending := by
  unfold clashDuplicate setDuplicate
  rw [clashEnd_eq]
  split
  · split <;> rfl
  · rfl

theorem clashDuplicate_of_run (run : 7 ≤ s.bus.clashRun) : clashDuplicate (clashEnd s) = setDuplicate 1 8 (clashEnd s) :=
  if_pos (by rw [clashEnd_clashRun]; omega)

theorem clashDuplicate_of_less (run : s.bus.clashRun < 7) : clashDuplicate (clashEnd s) = clashEnd s :=
  if_neg (by rw [clashEnd_clashRun]; omega)

/-- The eighth clash in a row takes a station that withdraws to its reset (R128, R131). -/
theorem resetAfterClash_of_run (withdrawing : s.announcer.mode = .withdrawing) (run : 7 ≤ s.bus.clashRun) :
    resetAfterClash s (clashDuplicate (clashEnd s)) = true := by
  rw [clashDuplicate_of_run run]
  exact (resetAfterClash_iff s).mpr ⟨withdrawing, .inl (setDuplicate_duplicate 1 8)⟩

end
end Sys2Proof.Machine

open Sys2Proof Sys2Proof.Machine

/-- Settles O1. -/
theorem stepTakesFront : Obligations.StepTakesFront := by
  unfold Obligations.StepTakesFront
  intro c rest s front
  unfold step
  rw [front]

/-- Settles O4. -/
theorem resetsClearEveryUnit : Obligations.ResetsClearEveryUnit := by
  unfold Obligations.ResetsClearEveryUnit
  intro kind addr controller los s
  refine ⟨⟨_, rfl, rfl, rfl, cleared_unitsReset .power s.pins s.pending, rfl, rfl⟩, fun noHold => ?_, fun held => ?_,
    fun held => ?_, fun noHold => ?_⟩
  · refine ⟨State.cleared .pin s.pins s.pending, ?_, rfl, rfl, cleared_unitsReset .pin s.pins s.pending, rfl, rfl⟩
    show Host.Outcome.next _ = _
    rw [if_neg (by simp [noHold])]
    rfl
  · show Host.Outcome.next _ = _
    rw [if_pos (Option.isSome_iff_ne_none.mpr held)]
  · refine ⟨released kind { addrStrap := addr, controllerMode := controller, los := los } Port.init s.pending, ?_,
      released_justReleased kind _ s.pending rfl, rfl, rfl⟩
    show Host.Outcome.next _ = _
    rw [held]
  · show Host.Outcome.next _ = _
    rw [noHold]

/-- Settles O5. -/
theorem softResetWithdrawsFirst : Obligations.SoftResetWithdrawsFirst := by
  unfold Obligations.SoftResetWithdrawsFirst
  intro pins s noHold
  have isOpen : portOpen s = true := (portOpen_iff s).mpr noHold
  have answered : answer 0 [resDone] s = { s with port := answeredPort s.port [0x00, 0xA0] } := rfl
  refine ⟨fun now => ⟨_, softReset_at_once noHold now, softResetNow_justReleased .., rfl, rfl⟩,
    fun on noDuplicate mode => ?_, fun on mode => ?_⟩
  · have on' : running (answer 0 [resDone] s) = true := on
    show Host.Outcome.next _ = _
    rw [if_pos isOpen, softResetTaken, on', answer_announcer, answer_bus, if_neg (by simp [mode]),
      if_pos (by simp [noDuplicate]), beginWithdraw_eq, answered]
  · have on' : running (answer 0 [resDone] s) = true := on
    show Host.Outcome.next _ = _
    rw [if_pos isOpen, softResetTaken, on', answer_announcer, if_pos (by simp [mode]), answered]

/-- Settles O51: nothing is in use while the reset of power-on is held. -/
theorem resetIsLawful : Obligations.ResetIsLawful := by
  unfold Obligations.ResetIsLawful
  have off : running State.reset = false := rfl
  obtain ⟨records, selection⟩ := cleared_law .power Pins.low []
  have monitor (i : Inp) : State.reset.monitors[i] = Monitor.init false := cleared_monitor .power Pins.low [] i
  have record (i : Inp) : State.reset.records[i] = InputRec.init := cleared_record .power Pins.low [] i
  refine ⟨⟨?_, records, selection, by decide, ?_, loaderLaw_of_hold (by decide), fun k e entry => ?_, fun on => ?_, ?_,
    (measuringLaw_iff _).mpr fun i => ?_, fun i => ?_, by decide⟩, fun on => ?_⟩
  · refine ⟨fun place h => ?_, by decide, by decide, by decide, by decide, by decide, fun i => ?_⟩
    · cases h
    · rw [monitor]
      decide
  · and_intros <;> decide
  · have none : State.reset.peers.entries[k] = .none := by simp [State.reset, State.cleared, PeerTable.init]
    rw [none] at entry
    cases entry
  · rw [off] at on
    cases on
  · exact offsets_of_init (warm := false) (los := fun _ => false) record monitor rfl
  · rw [measuring_of_not_running off, monitor]
    exact gateLaw_init false
  · rw [record]
    exact init_effective
  · rw [off] at on
    cases on

/-- Settles O6. -/
theorem withdrawEndsInReset : Obligations.WithdrawEndsInReset := by
  unfold Obligations.WithdrawEndsInReset
  intro pins q s on
  refine ⟨fun sending frame => ?_, fun withdrawing waits => ⟨fun notSent => ?_, fun sending frame => ?_⟩,
    fun withdrawing sending => ⟨fun ends => ?_, fun goes run noDuplicate => ?_⟩⟩
  · have sent : sendingWithdraw s = true := sendingWithdraw_iff.mpr ⟨sending, q, frame⟩
    refine ⟨_, ?_, softResetNow_justReleased pins s, rfl, rfl⟩
    show Host.Outcome.next _ = _
    rw [on, sent]
    rfl
  · have notSent' : ¬ sendingWithdraw s = true := fun h => by
      obtain ⟨sending, w, frame⟩ := sendingWithdraw_iff.mp h
      rcases notSent with other | other
      · exact other sending
      · exact other w frame
    refine ⟨_, ?_, softResetNow_justReleased pins s, rfl, rfl⟩
    show Host.Outcome.next _ = _
    rw [if_pos (by simp [on, withdrawing, Option.isSome_iff_ne_none, waits]), withdrawWaitEnd, if_neg notSent']
  · have sent : sendingWithdraw s = true := sendingWithdraw_iff.mpr ⟨sending, q, frame⟩
    show Host.Outcome.next _ = _
    rw [if_pos (by simp [on, withdrawing, Option.isSome_iff_ne_none, waits]), withdrawWaitEnd, if_pos sent]
    rfl
  · have reset : resetAfterClash s (clashDuplicate (clashEnd s)) = true := by
      rcases ends with ⟨frame, waited⟩ | run
      · exact (resetAfterClash_iff s).mpr ⟨withdrawing, .inr ⟨sendingWithdraw_iff.mpr ⟨sending, q, frame⟩, waited⟩⟩
      · exact resetAfterClash_of_run withdrawing run
    refine ⟨softResetNow pins (clashDuplicate (clashEnd s)), ?_, softResetNow_justReleased pins _, ?_, ?_⟩
    · show Host.Outcome.next _ = _
      rw [if_pos (by simp [on, sending]), clashNow, reset]
      rfl
    · rw [softResetNow_sdo, clashDuplicate_port]
    · rw [softResetNow_pending, clashDuplicate_pending]
  · have stays : ¬ resetAfterClash s (clashEnd s) = true := fun h => by
      obtain ⟨-, duplicate | ⟨sent, waited⟩⟩ := (resetAfterClash_iff s).mp h
      · rw [clashEnd_duplicate, noDuplicate] at duplicate
        cases duplicate
      · obtain ⟨-, w, frame⟩ := sendingWithdraw_iff.mp sent
        rcases goes with notOver | other
        · rw [notOver] at waited
          cases waited
        · exact other w frame
    refine ⟨clashEnd s, ?_, ?_⟩
    · show Host.Outcome.next _ = _
      rw [if_pos (by simp [on, sending]), clashNow]
      simp only [clashDuplicate_of_less run]
      rw [if_neg stays]
    · rw [clashEnd_eq, wantsFrame_of_withdrawing (a := { s.announcer with frame := none }) withdrawing]
      exact ⟨rfl, rfl⟩

end


section
/-! PROOF. O46, O48: LOAD IMAGE, and the EEPROM's attempts with what each puts on the bus. -/

namespace Sys2Proof.Machine

section

variable {s : State}

/-! ### The transfers (R168) -/

theorem dataActions_append (first second : List Byte) : dataActions (first ++ second) =
    dataActions first ++ second.mapIdx fun k byte => .data byte (decide (k + first.length ≠ 109)) := by
  simp [dataActions, List.mapIdx_append]

/-- The bytes before the last are acknowledged. -/
theorem dataActions_of_short {bytes : List Byte} (short : bytes.length ≤ 109) :
    dataActions bytes = bytes.map (.data · true) := by
  refine List.ext_getElem (by simp [dataActions]) fun k here _ => ?_
  have below : k < bytes.length := by simpa [dataActions] using here
  simp [dataActions, show k ≠ 109 by omega]

theorem dataActions_of_whole {image : List Byte} (whole : image.length = 110) :
    dataActions image = (image.take 109).map (.data · true) ++ (image.drop 109).map (.data · false) := by
  have before : (image.take 109).length = 109 := by simp [whole]
  obtain ⟨last, drop⟩ := List.length_eq_one_iff.mp (show (image.drop 109).length = 1 by simp [whole])
  conv_lhs => rw [← List.take_append_drop 109 image, dataActions_append, dataActions_of_short before.le, before, drop]
  rw [drop]
  rfl

theorem wholeRead_eq {image : List Byte} (whole : image.length = 110) : wholeRead image = readTransfer image := by
  rw [wholeRead, dataActions_of_whole whole]
  simp [readTransfer, readHead, eepromDevice]

theorem readTransfer_bits {image : List Byte} (whole : image.length = 110) : transferBits (readTransfer image) = 1017 := by
  rw [← wholeRead_eq whole, wholeRead, transferBits_append, transferBits_append, dataActions_bits, whole]
  rfl

theorem actionsBefore_eq (read : List Byte) {n : Nat} (inside : n ≤ 112) : actionsBefore read n =
    if n < 1 then [.start] else if n < 2 then [.start, .device 0x50 false true]
    else if n < 3 then [.start, .device 0x50 false true, .memory 0x00 true, .start]
    else addressedRead ++ (read.take (n - 3)).map (.data · true) := by
  match n with
  | 0 | 1 | 2 => rfl
  | n + 3 =>
    have short : (read.take n).length ≤ 109 := (List.length_take_le n read).trans (by omega)
    rw [actionsBefore, dataActions_of_short short]
    rfl

theorem failedTransfer_eq (failure : AttemptFailure) (stop : Bool) :
    failedTransfer failure stop = lostTransfer failure stop := by
  cases failure with
  | writeAddress | memoryAddress | readAddress => rfl
  | heldLow bit read =>
    cases bit with
    | none => rfl
    | some bit =>
      have inside := bit.isLt
      have byte (n : Nat) : bit.val / 9 < n ↔ bit.val < 9 * n := by omega
      rw [failedTransfer, failedActions, actionsBefore_eq read (by omega)]
      simp only [byte, lostTransfer]

theorem failureTime_eq (failure : AttemptFailure) : failureTime failure = lostAfter failure := by
  cases failure with
  | writeAddress | memoryAddress | readAddress => rfl
  | heldLow bit read =>
    cases bit with
    | none => rfl
    | some bit => exact failureTime_heldLow bit read

/-! ### The attempts (R168, R169) -/

theorem attemptLasting_of_early {time elapsed n : Nat} (attempt : s.loader.eeprom = .attempt n elapsed)
    (early : elapsed < time) : attemptLasting time s = none := by
  refine Option.eq_none_iff_forall_ne_some.mpr fun m lasting => ?_
  obtain ⟨-, -, other, same, long⟩ := (attemptLasting_eq_some ..).mp lasting
  rw [attempt] at same
  cases same
  omega

theorem validateImage_signature {own : Nat} {image : List Byte} (bad : byteAt image 0 ≠ 0xB4) :
    validateImage own image = .error .signature := if_pos bad

theorem validateImage_format {own : Nat} {image : List Byte} (good : byteAt image 0 = 0xB4) (bad : byteAt image 1 ≠ 0x01) :
    validateImage own image = .error .format := by rw [validateImage, if_neg (by simpa using good), if_pos bad]

theorem validateImage_good {own : Nat} {image : List Byte} (signature : byteAt image 0 = 0xB4)
    (format : byteAt image 1 = 0x01) : validateImage own image = .ok (clampImage own image) := by
  rw [validateImage, if_neg (by simpa using signature), if_neg (by simpa using format)]

/-- An attempt that has clocked all its bits reads the image. -/
theorem eepromReadDone_eq {image : List Byte} {n elapsed : Nat} (held : Option Nat) (noHold : s.hold = none)
    (loading : s.loader.partState = .loading) (attempt : s.loader.eeprom = .attempt n elapsed)
    (long : 203400 ≤ elapsed) (whole : image.length = 110) :
    exec (.eepromReadDone image held) s = .next (imageRead image held (transferred (readTransfer image) s)) := by
  have lasting : attemptLasting readTime s = some n :=
    (attemptLasting_eq_some ..).mpr ⟨noHold, loading, elapsed, attempt, long⟩
  show Host.Outcome.next _ = _
  rw [if_pos ⟨by rw [lasting]; rfl, whole⟩, wholeRead_eq whole]

theorem eepromAttemptFailed_eq {failure : AttemptFailure} {n elapsed : Nat} (stop : Bool) (noHold : s.hold = none)
    (loading : s.loader.partState = .loading) (attempt : s.loader.eeprom = .attempt n elapsed)
    (long : lostAfter failure ≤ elapsed) : exec (.eepromAttemptFailed failure stop) s =
      .next (attemptEnd n (transferred (lostTransfer failure stop) s)) := by
  have lasting : attemptLasting (failureTime failure) s = some n :=
    (attemptLasting_eq_some ..).mpr ⟨noHold, loading, elapsed, attempt, by rwa [failureTime_eq]⟩
  show Host.Outcome.next _ = _
  rw [lasting, failedTransfer_eq]

/-! ### LOAD IMAGE (R173) -/

theorem loadImage_whole {image : List Byte} (noHold : s.hold = none) (whole : image.length = 110) :
    exec (.loadImage image) s = .next (answer 110 [(loadResult image s).1] (loadResult image s).2) := by
  show Host.Outcome.next _ = _
  rw [if_pos ((portOpen_iff s).mpr noHold), if_neg (by omega)]

theorem loadResult_refused {image : List Byte} (refuses : takesImage s.loader = false) :
    loadResult image s = (resRefused, s) := by rw [loadResult, if_neg (by simp [refuses])]

theorem loadResult_invalid {image : List Byte} {cause : LoadCause} (takes : takesImage s.loader = true)
    (whole : image.length = 110) (invalid : validateImage s.loader.ownAddress image = .error cause) :
    loadResult image s = (resInvalid, s.withLoader { s.loader with cause := cause }) := by
  rw [loadResult, if_pos takes, List.take_of_length_le whole.le, invalid]

theorem loadResult_done {image : List Byte} (takes : takesImage s.loader = true) (whole : image.length = 110)
    (valid : validateImage s.loader.ownAddress image = .ok (clampImage s.loader.ownAddress image)) :
    loadResult image s = (resDone, s.withLoader { s.loader with
      partState := .awaitImage, cause := .none, held := true, viaPort := true
      buffer := (clampImage s.loader.ownAddress image).1, clampCount := (clampImage s.loader.ownAddress image).2 }) := by
  rw [loadResult, if_pos takes, List.take_of_length_le whole.le, valid]
  rfl

end
end Sys2Proof.Machine

open Sys2Proof Sys2Proof.Machine

/-- Settles O46. -/
theorem loadImageHolds : Obligations.LoadImageHolds := by
  unfold Obligations.LoadImageHolds
  intro image s noHold
  refine ⟨fun short => ⟨_, ?_, rfl⟩, fun whole => ⟨_, loadImage_whole noHold whole, fun refuses => ?_,
    fun takes => ⟨fun signature => ?_, fun signature format => ?_, fun signature format => ?_⟩⟩⟩
  · show Host.Outcome.next _ = _
    rw [if_pos ((portOpen_iff s).mpr noHold), if_pos short, answer, List.append_nil]
    rfl
  · have refused : takesImage s.loader = false := by
      rw [Bool.eq_false_iff, Ne, takesImage_iff]
      rcases refuses with part | part | ⟨part, cause⟩ <;> simp [part]
      exact cause
    rw [loadResult_refused refused]
    rfl
  all_goals have takes' := (takesImage_iff s.loader).mpr takes
  · rw [loadResult_invalid takes' whole (validateImage_signature signature)]
    rfl
  · rw [loadResult_invalid takes' whole (validateImage_format signature format)]
    rfl
  · rw [loadResult_done takes' whole (validateImage_good signature format)]
    rfl

/-- Settles O48. -/
theorem eepromAttempts : Obligations.EepromAttempts := by
  unfold Obligations.EepromAttempts
  intro n elapsed left image held failure stop s noHold loading first last
  refine ⟨readTransfer_bits, fun attempt => ⟨fun long => ⟨fun early => ?_, fun third => ?_⟩, fun short => ?_⟩,
    fun attempt whole => ⟨fun long => ⟨fun signature => ?_, fun signature format => ?_⟩, fun short => ?_⟩, fun waits => ?_⟩
  · rw [eepromAttemptFailed_eq stop noHold loading attempt long, attemptEnd, if_neg (by omega)]
    rfl
  · rw [eepromAttemptFailed_eq stop noHold loading attempt long, attemptEnd, if_pos (by omega)]
    rfl
  · show Host.Outcome.next _ = _
    rw [attemptLasting_of_early attempt (by rwa [failureTime_eq])]
  · rw [eepromReadDone_eq held noHold loading attempt long whole, imageRead]
    simp only [transferred, State.withLoader_loader, validateImage_signature signature]
    rfl
  · rw [eepromReadDone_eq held noHold loading attempt long whole, imageRead]
    simp only [transferred, State.withLoader_loader, validateImage_format signature format]
    rfl
  · show Host.Outcome.next _ = _
    rw [if_neg]
    rintro ⟨lasting, -⟩
    rw [attemptLasting_of_early (time := readTime) attempt short] at lasting
    cases lasting
  · show Host.Outcome.next _ = _
    rw [if_pos ⟨by rw [noHold]; rfl, loading⟩, waits]
    rfl

end


section
/-! PROOF. O19, O22, O27: the settle expiry, the holdover grade and value, and the four steps of the decision. -/

namespace Sys2Proof.Machine

section

variable {s : State}

/-! ### The steps of the holdover grade (R105) -/

section
variable {c : Image} (base : Nat) {age later : Nat} (age12 : c.age1 ≤ c.age2) (age23 : c.age2 ≤ c.age3)
  (grade12 : c.grade1 ≤ c.grade2) (grade23 : c.grade2 ≤ c.grade3)

theorem steppedGrade_before (young : age < c.age1) : steppedGrade c base age = base := by
  rw [steppedGrade, if_neg (by omega), if_neg (by omega), if_neg (by omega)]

include age23 in
theorem steppedGrade_first (one : c.age1 ≤ age) (two : age < c.age2) :
    steppedGrade c base age = max base c.grade1 := by
  rw [steppedGrade, if_neg (by omega), if_neg (by omega), if_pos one]

include age12 in
theorem steppedGrade_second (two : c.age2 ≤ age) (three : age < c.age3) :
    steppedGrade c base age = max base c.grade2 := by
  rw [steppedGrade, if_neg (by omega), if_pos (by omega)]

include age12 age23 in
theorem steppedGrade_third (three : c.age3 ≤ age) : steppedGrade c base age = max base c.grade3 := by
  rw [steppedGrade, if_pos (by omega)]

theorem steppedGrade_ge : base ≤ steppedGrade c base age := by
  unfold steppedGrade
  repeat' split
  all_goals omega

include grade12 grade23 in
theorem steppedGrade_mono (older : age ≤ later) : steppedGrade c base age ≤ steppedGrade c base later := by
  unfold steppedGrade
  repeat' split
  all_goals omega

end

/-! ### The settle expiry (R95) -/

theorem EventLog.append_eq (l : EventLog) (kind : EventKind) (a b : Nat) : l.append kind a b =
    if l.records.length < 32 then { l with records := l.records ++
      [{ uptime := l.uptime, kind := kind, arg1 := BitVec.ofNat 8 a, arg2 := BitVec.ofNat 8 b }] }
    else { l with overflow := true } := rfl

theorem settleExpiry_waits (waits : s.follower.settle ≠ some 0) : exec .settleExpiry s = .next s := by
  have notOut : ranOut s.follower.settle = false := by simpa [ranOut] using waits
  show Host.Outcome.next _ = _
  rw [notOut, Bool.and_false]
  rfl

/-! ### The decision in an event in which the active input was barred -/

theorem decision_of_none (barred : Bool) (force : s.selector.force = .none) (best : bestInput s = none) :
    (decision s barred).1 = ownOscillator s := by simp only [decision, force, best]

theorem decision_leaves {b : Inp} (barred : Bool) (force : s.selector.force = .none) (best : bestInput s = some b)
    (leaves : ∀ a : Inp, s.selector.active = some a → ¬eligible s a = true) : (decision s barred).1 = .input b := by
  simp only [decision, force, best]
  split
  · rename_i a active
    rw [if_neg (leaves a active)]
  · rfl

theorem decision_compares {a b : Inp} (barred : Bool) (force : s.selector.force = .none) (best : bestInput s = some b)
    (active : s.selector.active = some a) (stays : eligible s a = true) :
    (decision s barred).1 = (keepOrLeave s a b).1 := by
  simp only [decision, force, best, active, stays, if_true]

end
end Sys2Proof.Machine

open Sys2Proof Sys2Proof.Machine

/-- Settles O19. -/
theorem settleExpiryLocks : Obligations.SettleExpiryLocks := by
  unfold Obligations.SettleExpiryLocks
  intro i left s
  refine ⟨fun on acquiring out active => ?_, fun waits => settleExpiry_waits ?_⟩
  · have args : lockedArgs s = (i.val + 1, s.records[i].effective) := by rw [lockedArgs, active]; rfl
    show Host.Outcome.next _ = _
    rw [on, acquiring, out, settleEnd, args]
    rfl
  · rcases waits with waits | waits <;> simp [waits]

/-- Settles O22. -/
theorem holdoverGradeSteps : Obligations.HoldoverGradeSteps := by
  unfold Obligations.HoldoverGradeSteps
  intro c base age later history
  refine ⟨fun full range => ⟨roundDiv_rounded _ 16 (by decide), holdoverMean_range full range, sum_range_of_full full range⟩,
    fun age12 age23 grade12 grade23 older => ⟨?_, ?_, ?_, ?_, ?_, ?_, ?_⟩⟩
  all_goals unfold holdoverGradeAt
  · intro young
    rw [steppedGrade_before base young]
  · intro one two
    rw [steppedGrade_first base age23 one two]
  · intro two three
    rw [steppedGrade_second base age12 two three]
  · intro three
    rw [steppedGrade_third base age12 age23 three]
  · exact min_le_min_right _ (steppedGrade_mono base grade12 grade23 older)
  · exact min_le_min_right _ (steppedGrade_ge base)
  · exact min_le_right _ _

/-- Settles O27. -/
theorem decisionTakesFourSteps : Obligations.DecisionTakesFourSteps := by
  unfold Obligations.DecisionTakesFourSteps
  intro barred s
  refine ⟨fun f force => decision_forced barred force, decision_forcedOwn barred, fun force => ⟨fun empty => ?_,
    fun b chosen first => ⟨fun a active stays => ?_, fun leaves => ?_⟩⟩⟩
  · rw [decision_of_none barred force ((bestInput_eq_none_iff s).mpr empty)]
    refine ⟨fun output => by simp only [ownOscillator, output], fun output => by simp only [ownOscillator, output],
      fun notFree notHold => ?_⟩
    have own : ownOscillator s = if available s then .holdover else .freeRun := by
      unfold ownOscillator
      split <;> rename_i output
      · exact absurd output notHold
      · exact absurd output notFree
      all_goals rfl
    rw [own, available]
    refine ⟨fun some => if_pos ?_, fun invalid other => if_neg ?_⟩
    · simpa using some
    · simp only [invalid, Bool.false_or, decide_eq_true_eq]
      tauto
  all_goals have best : bestInput s = some b := (bestInput_eq_some_iff s b).mpr ⟨chosen, first⟩
  · rw [decision_compares barred force best active ((eligible_iff s a).mpr stays), keepOrLeave]
    refine ⟨fun leaves => ?_, fun equal stay => ?_⟩
    · split
      · rfl
      · rename_i notLess
        have back : (cfg s).revertive = true := leaves.resolve_left notLess
        split
        · rfl
        · rename_i same
          have here : b = a := by_contra fun other => same ⟨back, other⟩
          rw [here]
    · rw [if_neg equal, if_neg (by simp [stay])]
  · exact decision_leaves barred force best fun a active h => leaves a active ((eligible_iff s a).mp h)

end


section
/-! PROOF. What no event of an input and no end of an event touches, said once: the reset logic, the pins, the Image
Loader, the queue, the peers, the port and warm-up stand, the log only grows, and of the Announcer and the Bus Interface
only the event flag and the transmitter move. -/

namespace Sys2Proof

open Machine

section

variable {s t u m : State}

/-! ### The frames of an event -/

theorem LogGrown.refl (s : State) : LogGrown s s := ⟨List.prefix_refl _, rfl, rfl⟩

theorem LogGrown.trans (first : LogGrown s t) (second : LogGrown t u) : LogGrown s u :=
  ⟨first.1.trans second.1, second.2.1.trans first.2.1, second.2.2.trans first.2.2⟩

/-- The record appended first stands first among those appended. -/
theorem LogGrown.first {kind : EventKind} {a b : Nat} (grown : LogGrown m t) (log : m.log = s.log.append kind a b)
    (room : s.log.records.length < 32) : s.log.records ++ [{ uptime := s.log.uptime, kind := kind
                                                             arg1 := BitVec.ofNat 8 a, arg2 := BitVec.ofNat 8 b }]
      <+: t.log.records := by
  have records := grown.1
  rwa [log, EventLog.append_eq, if_pos room] at records

theorem LogGrown.ite {p : Prop} [Decidable p] (grown : LogGrown s t) : LogGrown s (if p then t else s) := by
  split
  · exact grown
  · exact .refl s

theorem SameWarm.refl (s : State) : SameWarm s s := ⟨rfl, rfl⟩

theorem SameWarm.trans (first : SameWarm s t) (second : SameWarm t u) : SameWarm s u :=
  ⟨second.1.trans first.1, second.2.trans first.2⟩

theorem SameAnnouncer.trans (first : SameAnnouncer s t) (second : SameAnnouncer t u) : SameAnnouncer s u := by
  obtain ⟨h1, h2⟩ := first
  obtain ⟨g1, g2⟩ := second
  refine ⟨?_, fun flag => g2 (h2 flag)⟩
  rw [g1, h1]

theorem SameBus.trans (first : SameBus s t) (second : SameBus t u) : SameBus s u := by
  rw [SameBus, second, first]

end
end Sys2Proof

namespace Sys2Proof.Machine

section

variable {s t u m : State} {i : Inp}

/-! ### The log only grows (R182) -/

theorem logGrown_of_eq (log : t.log = s.log) : LogGrown s t := by
  rw [LogGrown, log]
  exact ⟨List.prefix_refl _, rfl, rfl⟩

theorem logGrown_of_append {kind : EventKind} {a b : Nat} (log : t.log = s.log.append kind a b) : LogGrown s t := by
  unfold LogGrown
  rw [log]
  exact ⟨EventLog.append_prefix .., by simp, by simp⟩

theorem logEvent_grown (kind : EventKind) (a b : Nat) (s : State) : LogGrown s (logEvent kind a b s) :=
  logGrown_of_append (logEvent_log kind a b s)

theorem clearBarredForce_grown (s : State) : LogGrown s (clearBarredForce s) := by
  unfold clearBarredForce
  split
  · exact .ite (.trans (logGrown_of_eq rfl) (logEvent_grown ..))
  · exact .refl s
  · exact .refl s

theorem logSwitch_grown (before : State) (cause : Cause) (s : State) : LogGrown s (logSwitch before cause s) := by
  unfold logSwitch
  split
  · exact .refl s
  · exact logEvent_grown ..

theorem settleEvent_grown (before : State) (must expired : Bool) (s : State) :
    LogGrown s (settleEvent before must expired s) := by
  refine .trans (clearBarredForce_grown s) (.trans (t := selectorTurn before must expired (clearBarredForce s)) ?_
    (logGrown_of_eq (by simp [settleEvent])))
  unfold selectorTurn
  exact .ite (.trans (t := (evaluate before.selector.active (clearBarredForce s)).1) (logGrown_of_eq (by simp))
    (logSwitch_grown ..))

/-! ### Warm-up stands (R107) -/

theorem sameWarm_of_eq (follower : t.follower = s.follower) : SameWarm s t := by rw [SameWarm, follower]; exact ⟨rfl, rfl⟩

theorem computeValue_sameWarm (leaver : Option Inp) (s : State) : SameWarm s (computeValue leaver s) := by
  rw [SameWarm, computeValue_follower]
  exact ⟨rfl, rfl⟩

theorem carryOut_sameWarm (leaver : Option Inp) (d : Source) (s : State) : SameWarm s (carryOut leaver d s) := by
  rcases carryOut_cases leaver d s with ⟨h, -⟩ | ⟨i, -, h⟩ | ⟨-, h⟩ | ⟨-, h⟩ <;> rw [h, SameWarm]
  · exact ⟨rfl, rfl⟩
  · by_cases state : s.records[i].state = .suspect
    · rw [takeInput_follower_of_suspect leaver state]
      exact ⟨rfl, rfl⟩
    · rw [takeInput_follower_of_usable leaver state]
      exact ⟨rfl, rfl⟩
  all_goals
    rw [takeOwn_follower]
    exact ⟨rfl, rfl⟩

theorem evaluate_sameWarm (leaver : Option Inp) (s : State) : SameWarm s (evaluate leaver s).1 := by
  refine .trans (carryOut_sameWarm leaver (decision s (leaver.isSome && s.selector.active.isNone)).1 s) ?_
  dsimp only [evaluate, decideAgain]
  split
  · exact carryOut_sameWarm ..
  · exact .refl _

theorem settleEvent_sameWarm (before : State) (must expired : Bool) (s : State) :
    SameWarm s (settleEvent before must expired s) := by
  refine .trans (t := clearBarredForce s) (sameWarm_of_eq (by simp)) (.trans
    (t := selectorTurn before must expired (clearBarredForce s)) ?_ (sameWarm_of_eq (by simp [settleEvent])))
  dsimp only [selectorTurn]
  split
  · exact .trans (evaluate_sameWarm before.selector.active _) (sameWarm_of_eq (by simp))
  · exact .refl _

theorem followMove_sameWarm (i : Inp) (r r' : InputRec) (s : State) : SameWarm s (followMove i r r' s) := by
  unfold followMove
  split
  · rw [SameWarm, enterBridging_follower]
    exact ⟨rfl, rfl⟩
  split
  · rw [SameWarm, leaveBridging_follower]
    split <;> exact ⟨rfl, rfl⟩
  split
  · exact ⟨rfl, rfl⟩
  · exact .refl s

/-! ### What an event leaves standing -/

/-- What stands in every event of an input and in every end of an event. -/
structure EventKept (s t : State) : Prop where
  part : SamePart s t
  log : LogGrown s t
  announcer : SameAnnouncer s t
  bus : SameBus s t
  warm : SameWarm s t
  peers : t.peers = s.peers
  port : t.port = s.port

theorem samePart_of_eq (hold : t.hold = s.hold) (cause : t.cause = s.cause) (pins : t.pins = s.pins)
    (loader : t.loader = s.loader) (pending : t.pending = s.pending) : SamePart s t := ⟨hold, cause, pins, loader, pending⟩

theorem sameAnnouncer_of_eq (announcer : t.announcer = s.announcer) : SameAnnouncer s t := by
  rw [SameAnnouncer, announcer]
  exact ⟨rfl, id⟩

theorem sameBus_of_eq (bus : t.bus = s.bus) : SameBus s t := by rw [SameBus, bus]

theorem EventKept.trans (first : EventKept s t) (second : EventKept t u) : EventKept s u := by
  obtain ⟨⟨h1, h2, h3, h4, h5⟩, log, announcer, bus, warm, peers, port⟩ := first
  obtain ⟨⟨g1, g2, g3, g4, g5⟩, log', announcer', bus', warm', peers', port'⟩ := second
  exact ⟨⟨g1.trans h1, g2.trans h2, g3.trans h3, g4.trans h4, g5.trans h5⟩, .trans log log',
    .trans announcer announcer', .trans bus bus', .trans warm warm', peers'.trans peers, port'.trans port⟩

theorem EventKept.refl (s : State) : EventKept s s :=
  ⟨⟨rfl, rfl, rfl, rfl, rfl⟩, .refl s, sameAnnouncer_of_eq rfl, rfl, .refl s, rfl, rfl⟩

theorem settleEvent_kept (before : State) (must expired : Bool) (s : State) :
    EventKept s (settleEvent before must expired s) where
  part := samePart_of_eq (by simp) (by simp) (by simp) (by simp) (by simp)
  log := settleEvent_grown ..
  announcer := settleEvent_announcer ..
  bus := settleEvent_bus ..
  warm := settleEvent_sameWarm ..
  peers := by simp
  port := by simp

/-- Another monitor, and another history or value. -/
theorem withMonitor_kept (s : State) (i : Inp) (m : Monitor) : EventKept s (s.withMonitor i m) :=
  ⟨⟨rfl, rfl, rfl, rfl, rfl⟩, .refl s, sameAnnouncer_of_eq rfl, rfl, .refl s, rfl, rfl⟩

theorem logNotice_kept (i : Inp) (r : InputRec) (n : Notice) (s : State) : EventKept s (logNotice i r n s) where
  part := samePart_of_eq (by simp) (by simp) (by simp) (by simp) (by simp)
  log := logNotice_log i r n s
  announcer := sameAnnouncer_of_eq (by simp)
  bus := sameBus_of_eq (by simp)
  warm := sameWarm_of_eq (by simp)
  peers := by simp
  port := by simp

theorem followMove_kept (i : Inp) (r r' : InputRec) (s : State) : EventKept s (followMove i r r' s) where
  part := samePart_of_eq (by simp) (by simp) (by simp) (by simp) (by simp)
  log := logGrown_of_eq (by simp)
  announcer := sameAnnouncer_of_eq (by simp)
  bus := sameBus_of_eq (by simp)
  warm := followMove_sameWarm ..
  peers := by simp
  port := by simp

theorem withRecord_kept (s : State) (i : Inp) (r : InputRec) : EventKept s (s.withRecord i r) :=
  ⟨⟨rfl, rfl, rfl, rfl, rfl⟩, .refl s, sameAnnouncer_of_eq rfl, rfl, .refl s, rfl, rfl⟩

theorem applyMove_kept (i : Inp) (n : InputRec × Notice) (s : State) : EventKept s (applyMove i n s) := by
  rw [applyMove_eq]
  exact .trans (withRecord_kept ..) (.trans (logNotice_kept ..) (followMove_kept ..))

theorem qualify_kept (i : Inp) (x : Reasons) (s : State) : EventKept s (qualify i x s) := applyMove_kept ..

theorem takeOffset_kept (i : Inp) (m : Monitor) (s : State) : EventKept s (takeOffset i m s) := by
  unfold takeOffset
  split
  · exact ⟨⟨rfl, rfl, rfl, rfl, rfl⟩, .refl s, sameAnnouncer_of_eq rfl, rfl, .refl s, rfl, rfl⟩
  · exact .refl s

theorem recompute_kept (i : Inp) (s : State) : EventKept s (recompute i s) := by
  rw [recompute_eq]
  exact .trans (withRecord_kept ..) (qualify_kept ..)

theorem recomputeBound_kept (a : Nat) (s : State) : EventKept s (recomputeBound a s) := by
  rw [recomputeBound_eq]
  induction List.finRange 6 using List.reverseRecOn with
  | nil => exact .refl s
  | append_singleton inputs i ih =>
    rw [List.foldl_append]
    refine .trans ih ?_
    dsimp only [List.foldl_cons, List.foldl_nil]
    split
    · exact recompute_kept ..
    · exact .refl _

/-! ### An event of one input -/

/-- An event that changes the monitor and the record of input `i` before its end. -/
structure InputEvent (i : Inp) (s m : State) : Prop extends EventKept s m where
  others : ∀ j : Inp, j ≠ i → m.monitors[j] = s.monitors[j] ∧ m.records[j] = s.records[j]

theorem InputEvent.settled (event : InputEvent i s m) (must expired : Bool) (before : State) :
    InputEventFrame i s (settleEvent before must expired m) := by
  obtain ⟨part, log, announcer, bus, warm, peers, -⟩ := event.toEventKept.trans (settleEvent_kept before must expired m)
  refine ⟨part, log, announcer, bus, warm, peers, fun j other => ?_⟩
  obtain ⟨monitor, record⟩ := event.others j other
  rw [settleEvent_monitors, ← record]
  exact ⟨monitor, settleEvent_records ..⟩

theorem InputEvent.settled_port (event : InputEvent i s m) (must expired : Bool) (before : State) :
    (settleEvent before must expired m).port = s.port :=
  (event.toEventKept.trans (settleEvent_kept before must expired m)).port

theorem applyMove_event (i : Inp) (n : InputRec × Notice) (s : State) : InputEvent i s (applyMove i n s) where
  toEventKept := applyMove_kept ..
  others j other := ⟨by simp, by rw [applyMove_get, if_neg (Ne.symm other)]⟩

theorem qualify_event (i : Inp) (x : Reasons) (s : State) : InputEvent i s (qualify i x s) := applyMove_event ..

theorem InputEvent.trans (first : InputEvent i s t) (second : InputEvent i t u) : InputEvent i s u where
  toEventKept := first.toEventKept.trans second.toEventKept
  others j other := ⟨(second.others j other).1.trans (first.others j other).1,
    (second.others j other).2.trans (first.others j other).2⟩

theorem withMonitor_event (i : Inp) (m : Monitor) (s : State) : InputEvent i s (s.withMonitor i m) where
  toEventKept := withMonitor_kept ..
  others j other := ⟨by rw [State.withMonitor_get, if_neg (Ne.symm other)], rfl⟩

theorem takeOffset_event (i : Inp) (m : Monitor) (s : State) : InputEvent i s (takeOffset i m s) where
  toEventKept := takeOffset_kept ..
  others j _ := ⟨by rw [takeOffset_monitors], by rw [takeOffset_records]⟩

end
end Sys2Proof.Machine
end


section
/-! PROOF. O7, O8: the detectors at a 1 ms point, and what the point leaves of its monitor and of everything else. -/

namespace Sys2Proof.Machine

section

variable {s t : State} {i : Inp} {m : Monitor} {high edge : Bool}

/-! ### The detectors (R18, R20) -/

theorem losSample_same (same : high = m.losLevel) : losSample m high = { m with losCount := 0 } := if_pos same

theorem losSample_accepts (differs : high ≠ m.losLevel) (eighth : 7 ≤ m.losCount) :
    losSample m high = { m with losLevel := high, losCount := 0 } := by
  rw [losSample, if_neg differs, if_pos (by omega)]

theorem losSample_counts (differs : high ≠ m.losLevel) (early : m.losCount < 7) :
    losSample m high = { m with losCount := m.losCount + 1 } := by
  rw [losSample, if_neg differs, if_neg (by omega)]

theorem activitySample_stays (present : m.present = true) : activitySample m true = m := by
  simp [activitySample, present]

theorem activitySample_lost (present : m.present = true) :
    activitySample m false = { m with present := false, activityRun := 0 } := by simp [activitySample, present]

theorem activitySample_missing (absent : m.present = false) : activitySample m false = { m with activityRun := 0 } := by
  simp [activitySample, absent]

theorem activitySample_counts (absent : m.present = false) (early : m.activityRun < 7) :
    activitySample m true = { m with activityRun := m.activityRun + 1 } := by
  simp [activitySample, absent, show ¬8 ≤ m.activityRun + 1 by omega]

theorem activitySample_accepts (absent : m.present = false) (eighth : 7 ≤ m.activityRun) :
    activitySample m true = { m with present := true, activityRun := 0 } := by
  simp [activitySample, absent, show 8 ≤ m.activityRun + 1 by omega]

/-- The activity detector reads and moves its own two fields. -/
theorem activitySample_fields (m : Monitor) (edge : Bool) :
    (activitySample m edge).losLevel = m.losLevel ∧ (activitySample m edge).losCount = m.losCount := by
  unfold activitySample
  repeat' split
  all_goals exact ⟨rfl, rfl⟩

theorem losSample_fields (m : Monitor) (high : Bool) :
    (losSample m high).present = m.present ∧ (losSample m high).activityRun = m.activityRun := by
  unfold losSample
  repeat' split
  all_goals exact ⟨rfl, rfl⟩

theorem activitySample_congr {m m' : Monitor} (present : m'.present = m.present) (run : m'.activityRun = m.activityRun)
    (edge : Bool) : (activitySample m' edge).present = (activitySample m edge).present ∧
      (activitySample m' edge).activityRun = (activitySample m edge).activityRun := by
  unfold activitySample
  rw [present, run]
  repeat' split
  all_goals simp [present, run]

/-- Each detector takes its own sample. -/
theorem detect_detectors (m : Monitor) (high edge : Bool) :
    ((detect m high edge).losLevel = (losSample m high).losLevel ∧
      (detect m high edge).losCount = (losSample m high).losCount) ∧
    (detect m high edge).present = (activitySample m edge).present ∧
      (detect m high edge).activityRun = (activitySample m edge).activityRun := by
  obtain ⟨present, run⟩ := losSample_fields m high
  exact ⟨activitySample_fields (losSample m high) edge, activitySample_congr present run edge⟩

theorem losAsserted_iff (mode : LosMode) (level : Bool) : losAsserted mode level = true ↔
    mode = .activeHigh ∧ level = true ∨ mode = .activeLow ∧ level = false := by
  cases mode <;> simp [losAsserted]

/-! ### A 1 ms point (R21, R25, R27) -/

/-- The gate follows a change of SIGNAL: it is abandoned, or one starts. -/
def regate (m : Monitor) : Monitor := if m.signal then abandonGate m else beginGate m

/-- The monitor of input `i` that a 1 ms point leaves. -/
def pointedMonitor (s : State) (i : Inp) (high edge : Bool) : Monitor :=
  if (pointMonitor s i high edge).signal = s.monitors[i].signal then pointMonitor s i high edge
  else regate (pointMonitor s i high edge)

/-- What a 1 ms point makes of a change of SIGNAL: the Qualifier moves the input on it. -/
def signalMoved (s : State) (i : Inp) (high edge : Bool) : State :=
  qualify i (withSignal s.records[i].reasons (pointMonitor s i high edge).signal)
    ((s.withPins (setLosPin s.pins i high)).withMonitor i (regate (pointMonitor s i high edge)))

theorem pointMonitor_detectors (s : State) (i : Inp) (high edge : Bool) :
    (pointMonitor s i high edge).losLevel = (losSample s.monitors[i] high).losLevel ∧
    (pointMonitor s i high edge).losCount = (losSample s.monitors[i] high).losCount ∧
    (pointMonitor s i high edge).present = (activitySample s.monitors[i] edge).present ∧
    (pointMonitor s i high edge).activityRun = (activitySample s.monitors[i] edge).activityRun := by
  obtain ⟨⟨level, count⟩, present, run⟩ := detect_detectors s.monitors[i] high edge
  unfold pointMonitor judgeSignal
  split <;> exact ⟨level, count, present, run⟩

theorem pointMonitor_msPhase (s : State) (i : Inp) (high edge : Bool) : (pointMonitor s i high edge).msPhase = 0 := by
  unfold pointMonitor judgeSignal detect
  split <;> rfl

/-- The fields of the detectors and the causes are those of the sample; the gate and the window follow SIGNAL. -/
theorem pointedMonitor_eq (s : State) (i : Inp) (high edge : Bool) : pointedMonitor s i high edge =
    { pointMonitor s i high edge with
      gate := (pointedMonitor s i high edge).gate, window := (pointedMonitor s i high edge).window } := by
  unfold pointedMonitor regate
  repeat' split
  all_goals rfl

theorem pointedMonitor_fields (s : State) (i : Inp) (high edge : Bool) :
    ((pointedMonitor s i high edge).losLevel = (losSample s.monitors[i] high).losLevel ∧
      (pointedMonitor s i high edge).losCount = (losSample s.monitors[i] high).losCount) ∧
    ((pointedMonitor s i high edge).present = (activitySample s.monitors[i] edge).present ∧
      (pointedMonitor s i high edge).activityRun = (activitySample s.monitors[i] edge).activityRun) ∧
    ((pointedMonitor s i high edge).losCause = (pointMonitor s i high edge).losCause ∧
      (pointedMonitor s i high edge).activityCause = (pointMonitor s i high edge).activityCause ∧
      (pointedMonitor s i high edge).signal = (pointMonitor s i high edge).signal) ∧
    (pointedMonitor s i high edge).lastOffset = s.monitors[i].lastOffset ∧
    (pointedMonitor s i high edge).freq = s.monitors[i].freq ∧
    (pointedMonitor s i high edge).check = s.monitors[i].check ∧ (pointedMonitor s i high edge).msPhase = 0 := by
  obtain ⟨level, count, present, run⟩ := pointMonitor_detectors s i high edge
  obtain ⟨-, -, lastOffset, freq, check⟩ := pointMonitor_keeps s i high edge
  rw [pointedMonitor_eq]
  exact ⟨⟨level, count⟩, ⟨present, run⟩, ⟨rfl, rfl, rfl⟩, lastOffset, freq, check, pointMonitor_msPhase ..⟩

theorem pointMonitor_signal_off (off : measuring s i = false) :
    (pointMonitor s i high edge).signal = s.monitors[i].signal := by
  rw [pointMonitor_of_not_measuring off, detect_signal]

/-- The state after a 1 ms point, SIGNAL standing or changing. -/
def pointed (s : State) (i : Inp) (high edge : Bool) : State :=
  if (pointMonitor s i high edge).signal = s.monitors[i].signal then
    (s.withPins (setLosPin s.pins i high)).withMonitor i (pointMonitor s i high edge)
  else settleEvent (s.withPins (setLosPin s.pins i high)) false false (signalMoved s i high edge)

theorem msPoint_eq (noHold : s.hold = none) : exec (.msPoint i high edge) s = .next (pointed s i high edge) := by
  show Host.Outcome.next _ = _
  rw [if_neg (by simp [noHold]), pointed]
  dsimp only
  by_cases on : measuring s i = true
  · have point := pointMonitor_of_measuring on high edge
    rw [if_pos on, ← point, detect_signal, reportSignal, signalMoved, regate]
    cases before : s.monitors[i].signal <;> cases after : (pointMonitor s i high edge).signal <;> rfl
  · have off : measuring s i = false := by simpa using on
    rw [if_neg on, if_pos (pointMonitor_signal_off off), pointMonitor_of_not_measuring off]

theorem withPins_kept_log (s : State) (pins : Pins) : LogGrown s (s.withPins pins) := .refl s

theorem signalMoved_event (s : State) (i : Inp) (high edge : Bool) :
    InputEvent i (s.withPins (setLosPin s.pins i high)) (signalMoved s i high edge) :=
  (withMonitor_event ..).trans (qualify_event ..)

theorem signalMoved_monitor (s : State) (i : Inp) (high edge : Bool) :
    (signalMoved s i high edge).monitors[i] = regate (pointMonitor s i high edge) := by
  rw [signalMoved, qualify_monitors, State.withMonitor_self]

theorem setLosPin_los (pins : Pins) (i j : Inp) (high : Bool) :
    (setLosPin pins i high).los.getLsbD j.val = if j = i then high else pins.los.getLsbD j.val := by
  have inside : j.val < 6 := j.isLt
  have same : j.val = i.val ↔ j = i := Fin.ext_iff.symm
  cases high <;> by_cases h : j = i <;>
    simp [setLosPin, BitVec.getLsbD_twoPow, h, inside, eq_comm (a := i.val), same, -BitVec.getLsbD_eq_getElem]

/-- What a 1 ms point leaves, beside what the Qualifier and the Selector make of a change of SIGNAL. -/
structure Pointed (i : Inp) (high edge : Bool) (s t : State) : Prop where
  kept : EventKept (s.withPins (setLosPin s.pins i high)) t
  monitor : t.monitors[i] = pointedMonitor s i high edge
  others : SameOthers i s t
  quiet : (pointMonitor s i high edge).signal = s.monitors[i].signal → t.records = s.records ∧ t.selector = s.selector ∧
    t.follower = s.follower ∧ t.log = s.log ∧ t.bus = s.bus ∧ t.announcer = s.announcer

theorem msPoint_pointed (s : State) (i : Inp) (high edge : Bool) : Pointed i high edge s (pointed s i high edge) := by
  unfold pointed
  split
  · rename_i same
    exact ⟨withMonitor_kept .., by rw [State.withMonitor_self, pointedMonitor, if_pos same],
      fun j other => ⟨(withMonitor_event i _ _).others j other |>.1, rfl⟩, fun _ => ⟨rfl, rfl, rfl, rfl, rfl, rfl⟩⟩
  · rename_i differs
    obtain ⟨-, -, -, -, -, -, others⟩ := (signalMoved_event s i high edge).settled false false
      (s.withPins (setLosPin s.pins i high))
    exact ⟨(signalMoved_event s i high edge).toEventKept.trans (settleEvent_kept ..),
      by rw [settleEvent_monitors, signalMoved_monitor, pointedMonitor, if_neg differs], others,
      fun same => absurd same differs⟩

theorem pointMonitor_causes (on : measuring s i = true) (high edge : Bool) :
    ((pointMonitor s i high edge).losCause = true ↔
      (inputCfg s i).losMode = .activeHigh ∧ (pointMonitor s i high edge).losLevel = true ∨
      (inputCfg s i).losMode = .activeLow ∧ (pointMonitor s i high edge).losLevel = false) ∧
    ((pointMonitor s i high edge).activityCause = true ↔ (pointMonitor s i high edge).present = false) := by
  rw [pointMonitor_of_measuring on]
  exact ⟨losAsserted_iff _ _, by simp [judgeSignal]⟩

theorem pointMonitor_causes_off (off : measuring s i = false) (high edge : Bool) :
    (pointMonitor s i high edge).losCause = s.monitors[i].losCause ∧
    (pointMonitor s i high edge).activityCause = s.monitors[i].activityCause := by
  rw [pointMonitor_of_not_measuring off, detect_keeps]
  exact ⟨rfl, rfl⟩

/-! ### A run of agreeing samples (R18, R20) -/

/-- The detectors after `k` samples that agree on `high` and hold an edge. -/
structure SampledFor (high : Bool) (k : Nat) (m : Monitor) : Prop where
  level : m.losLevel = high ∧ (0 < k → m.losCount = 0) ∨ high ≠ m.losLevel ∧ k ≤ m.losCount ∧ k < 8
  activity : m.present = true ∨ m.present = false ∧ k ≤ m.activityRun ∧ k < 8

theorem sampledFor_zero (high : Bool) (m : Monitor) : SampledFor high 0 m where
  level := by
    by_cases same : m.losLevel = high
    · exact .inl ⟨same, fun h => absurd h (by decide)⟩
    · exact .inr ⟨Ne.symm same, Nat.zero_le _, by decide⟩
  activity := by cases m.present <;> simp

theorem SampledFor.losSample {k : Nat} (sampled : SampledFor high k m) :
    (losSample m high).losLevel = high ∧ (losSample m high).losCount = 0 ∨
      high ≠ (losSample m high).losLevel ∧ k + 1 ≤ (losSample m high).losCount ∧ k + 1 < 8 := by
  rcases sampled.level with ⟨same, -⟩ | ⟨differs, counted, early⟩
  · rw [losSample_same same.symm]
    exact .inl ⟨same, rfl⟩
  · rcases Nat.lt_or_ge m.losCount 7 with less | eighth
    · rw [losSample_counts differs less]
      exact .inr ⟨differs, by dsimp only; omega, by omega⟩
    · rw [losSample_accepts differs eighth]
      exact .inl ⟨rfl, rfl⟩

theorem SampledFor.activitySample {k : Nat} (sampled : SampledFor high k m) :
    (activitySample m true).present = true ∨
      (activitySample m true).present = false ∧ k + 1 ≤ (activitySample m true).activityRun ∧ k + 1 < 8 := by
  rcases sampled.activity with present | ⟨absent, counted, early⟩
  · rw [activitySample_stays present]
    exact .inl present
  · rcases Nat.lt_or_ge m.activityRun 7 with less | eighth
    · rw [activitySample_counts absent less]
      exact .inr ⟨absent, by dsimp only; omega, by omega⟩
    · rw [activitySample_accepts absent eighth]
      exact .inl rfl

theorem SampledFor.pointed {k : Nat} (sampled : SampledFor high k s.monitors[i]) :
    SampledFor high (k + 1) (pointedMonitor s i high true) := by
  obtain ⟨⟨level, count⟩, ⟨present, run⟩, -⟩ := pointedMonitor_fields s i high true
  constructor
  · rw [level, count]
    exact sampled.losSample.imp_left fun ⟨h, h'⟩ => ⟨h, fun _ => h'⟩
  · rw [present, run]
    exact sampled.activitySample

theorem core_run_succ (M : Host.Core) (n : Nat) {s u : M.State} (first : M.step s = .next u) :
    M.run (n + 1) s = M.run n u := by rw [Host.Core.run, first]

theorem run_succ (n : Nat) {u : State} (first : step s = .next u) :
    Host.Core.run Sys2Proof.core (n + 1) s = Host.Core.run Sys2Proof.core n u :=
  core_run_succ Sys2Proof.core n first

/-- What a run of 1 ms points of one monitor leaves. -/
structure PointedFor (i : Inp) (high : Bool) (rest : List Instr) (s t : State) : Prop where
  pending : t.pending = rest
  hold : t.hold = none
  others : ∀ j : Inp, j ≠ i → t.monitors[j] = s.monitors[j]
  peers : t.peers = s.peers
  loader : t.loader = s.loader
  port : t.port = s.port

theorem step_msPoint (noHold : s.hold = none) {rest : List Instr} (front : s.pending = .msPoint i high edge :: rest) :
    ∃ t : State, step s = .next t ∧ t.monitors[i] = pointedMonitor { s with pending := rest } i high edge ∧
      PointedFor i high rest s t := by
  have point := msPoint_pointed { s with pending := rest } i high edge
  obtain ⟨⟨⟨hold, -, -, loader, pending⟩, -, -, -, -, peers, port⟩, monitor, others, -⟩ := point
  refine ⟨pointed { s with pending := rest } i high edge, ?_, monitor, pending, hold.trans noHold,
    fun j other => (others j other).1, peers, loader, port⟩
  rw [stepTakesFront _ rest s front]
  exact msPoint_eq noHold

/-- `n` more agreeing samples, after `k` of them. -/
theorem run_msPoints (n : Nat) : ∀ {k : Nat} {s : State} {rest : List Instr}, s.hold = none →
    s.pending = List.replicate n (.msPoint i high true) ++ rest → SampledFor high k s.monitors[i] →
    ∃ t : State, Host.Core.run Sys2Proof.core n s = .next t ∧ SampledFor high (k + n) t.monitors[i] ∧
      PointedFor i high rest s t := by
  induction n with
  | zero =>
    intro k s rest noHold front sampled
    exact ⟨s, rfl, sampled, front, noHold, fun _ _ => rfl, rfl, rfl, rfl⟩
  | succ n ih =>
    intro k s rest noHold front sampled
    obtain ⟨u, first, monitor, pending, hold, others, peers, loader, port⟩ :=
      step_msPoint (rest := List.replicate n (.msPoint i high true) ++ rest) noHold
        (by simpa [List.replicate_succ] using front)
    have sampled' : SampledFor high (k + 1) u.monitors[i] := by
      rw [monitor]
      exact SampledFor.pointed (s := { s with pending := _ }) sampled
    obtain ⟨t, run, last, pending', hold', others', peers', loader', port'⟩ := ih hold pending sampled'
    refine ⟨t, ?_, by rwa [Nat.add_right_comm, Nat.add_assoc] at last, pending', hold',
      fun j other => (others' j other).trans (others j other), peers'.trans peers, loader'.trans loader, port'.trans port⟩
    exact (run_succ n first).trans run

end
end Sys2Proof.Machine

open Sys2Proof Sys2Proof.Machine

/-- Settles O8: the detectors' fields are those of the two samples, the sub-causes those of the judgement, and the gate
and the window follow the change of SIGNAL. -/
theorem msPointDetects : Obligations.MsPointDetects := by
  unfold Obligations.MsPointDetects
  intro i high edge s noHold
  refine ⟨_, msPoint_eq noHold, ?_⟩
  obtain ⟨⟨part, log, announcer, bus, warm, peers, port⟩, monitor, others, quiet⟩ := msPoint_pointed s i high edge
  obtain ⟨level, count, present, run⟩ := pointMonitor_detectors s i high edge
  obtain ⟨gate, window, -⟩ := pointMonitor_keeps s i high edge
  obtain ⟨hold, cause, pins, loader, pending⟩ := part
  obtain ⟨⟨level', count'⟩, ⟨present', run'⟩, ⟨losCause, activityCause, signal⟩, lastOffset, freq, check, phase⟩ :=
    pointedMonitor_fields s i high edge
  rw [monitor, level', count', present', run', losCause, activityCause, signal, ← level, ← present]
  refine ⟨fun same => ?_, fun differs early => ?_, fun differs eighth => ?_, fun was is => ?_, fun was is => ?_,
    fun was is early => ?_, fun was is eighth => ?_, fun was is => ?_, fun on => ?_, fun off => ?_, fun same => ?_,
    fun was is => ?_, fun was is => ?_, lastOffset, freq, check, phase, fun j => ?_, ?_, ?_, hold, cause, loader, peers,
    port, pending, log, announcer, bus, warm, others⟩
  · rw [level, losSample_same same]
    exact ⟨same.symm, rfl⟩
  · rw [level, losSample_counts differs early]
    exact ⟨rfl, rfl⟩
  · rw [level, losSample_accepts differs eighth]
    exact ⟨rfl, rfl⟩
  · rw [present, is, activitySample_stays was]
    exact ⟨was, rfl⟩
  · rw [present, is, activitySample_lost was]
    exact ⟨rfl, rfl⟩
  · rw [present, is, activitySample_counts was early]
    exact ⟨was, rfl⟩
  · rw [present, is, activitySample_accepts was eighth]
    exact ⟨rfl, rfl⟩
  · rw [present, is, activitySample_missing was]
    exact ⟨was, rfl⟩
  · obtain ⟨los, activity⟩ := pointMonitor_causes on high edge
    exact ⟨los, activity, pointMonitor_signal_iff on high edge⟩
  · obtain ⟨los, activity⟩ := pointMonitor_causes_off off high edge
    exact ⟨los, activity, pointMonitor_signal_off off⟩
  · rw [pointedMonitor, if_pos same]
    exact ⟨gate, window, quiet same⟩
  · rw [pointedMonitor, if_neg (by simp [was, is, -Fin.getElem_fin]), regate, if_pos is]
    exact ⟨rfl, rfl, rfl⟩
  · rw [pointedMonitor, if_neg (by simp [was, is, -Fin.getElem_fin]), regate, if_neg (by simp [is])]
    exact ⟨rfl, rfl, rfl, window⟩
  · rw [pins]
    exact setLosPin_los ..
  · rw [pins]
    rfl
  · rw [pins]
    rfl

/-- Settles O7: after eight agreeing samples no count below eight is left. -/
theorem eightSamplesAgree : Obligations.EightSamplesAgree := by
  unfold Obligations.EightSamplesAgree
  intro i high rest s noHold front
  obtain ⟨t, run, ⟨level, activity⟩, pending, hold, others, peers, loader, port⟩ :=
    run_msPoints 8 noHold front (sampledFor_zero high s.monitors[i])
  obtain ⟨accepted, count⟩ := level.resolve_right fun h => absurd h.2.2 (by decide)
  exact ⟨t, run, pending, hold, accepted, count (by decide), activity.resolve_right fun h => absurd h.2.2 (by decide),
    others, peers, loader, port⟩

end


section
/-! PROOF. The Qualifier's moves of a lawful record case by case (R46 to R54), and what the end of an event leaves of an
input that is barred, or of a shelf that stays. -/

namespace Sys2Proof.Machine

section

variable {s t m before : State} {i j : Inp} {r : InputRec} {c : InputCfg} {full : Bool} {x : Reasons}

/-! ### The moves of a record -/

/-- The record of a used input that reasons bar, or that further reasons reach in BARRED (R46, R47). -/
def InputRec.barredBy (r : InputRec) (x : Reasons) : InputRec :=
  { r with state := .barred, origin := none, reasons := x, hardSeen := r.hardSeen || x.hard, holdOff := none, wtr := .none }

theorem InputRec.bar_eq (law : RecordLaw r) (notBarred : r.state ≠ .barred) (x : Reasons) : r.bar x = r.barredBy x := by
  have unseen : r.hardSeen = false := by
    obtain ⟨bare, -, proving, suspect⟩ := law
    cases state : r.state with
    | off => exact (bare (.inl state)).2.1
    | ready => exact (bare (.inr (.inl state))).2.1
    | active => exact (bare (.inr (.inr state))).2.1
    | barred => exact absurd state notBarred
    | proving => exact (proving state).2.1
    | suspect => exact (suspect state).2.1
  simp [InputRec.bar, InputRec.barredBy, unseen]

theorem InputRec.joined_eq (law : RecordLaw r) (barred : r.state = .barred) (x : Reasons) : r.joined x = r.barredBy x := by
  obtain ⟨-, law, -⟩ := law
  obtain ⟨-, holdOff, wtr, origin, -⟩ := law barred
  simp [InputRec.joined, InputRec.barredBy, barred, holdOff, wtr, origin]

/-- A reason set bars a used input, but for SIGNAL alone of an input with a hold-off. -/
theorem InputRec.move_barring (law : RecordLaw r) (on : r.state ≠ .off) (some : x ≠ Reasons.empty)
    (bars : x ≠ { Reasons.empty with signal := true } ∨ r.state = .proving ∨ r.state = .barred ∨
      (r.state = .ready ∨ r.state = .active) ∧ c.holdOff = 0) :
    r.move c full x = (r.barredBy x, if r.state = .barred then .nothing else .barred) := by
  have notNone : x.none = false := (Reasons.none_eq_false_iff x).mpr some
  have usable (origin : Origin) (state : r.state = .ready ∨ r.state = .active) :
      r.usableMove c origin x = (r.bar x, .barred) := by
    rw [InputRec.usableMove, if_neg (by simp [notNone]), if_neg]
    rintro ⟨alone, holdOff⟩
    rw [Reasons.onlySignal_iff] at alone
    rcases bars with other | proving | barred | ⟨-, none⟩
    · exact other alone
    · rcases state with h | h <;> simp [h] at proving
    · rcases state with h | h <;> simp [h] at barred
    · omega
  cases state : r.state with
  | off => exact absurd state on
  | barred =>
    rw [r.move_barred_joins c full x state notNone, ← InputRec.joined_eq law state, if_pos rfl]
    rfl
  | proving =>
    rw [r.move_proving_bars c full x state notNone, InputRec.bar_eq law (by simp [state]), if_neg (by simp)]
  | ready =>
    simp only [InputRec.move, state]
    rw [usable _ (.inl state), InputRec.bar_eq law (by simp [state]), if_neg (by simp)]
  | active =>
    simp only [InputRec.move, state]
    rw [usable _ (.inr state), InputRec.bar_eq law (by simp [state]), if_neg (by simp)]
  | suspect =>
    have other : x ≠ { Reasons.empty with signal := true } := bars.resolve_right (by simp [state])
    have notAlone : x.onlySignal = false := by rw [Bool.eq_false_iff, Ne, Reasons.onlySignal_iff]; exact other
    simp only [InputRec.move, state, notNone, notAlone, Bool.false_eq_true, if_false]
    rw [InputRec.bar_eq law (by simp [state])]
    simp

theorem InputRec.move_suspends (state : r.state = .ready ∨ r.state = .active) (holdOff : 0 < c.holdOff) :
    r.move c full { Reasons.empty with signal := true } =
      (r.suspend c (if r.state = .ready then .ready else .active), .nothing) := by
  rcases state with state | state <;> simp only [InputRec.move, state, InputRec.usableMove] <;>
    rw [if_neg (by decide), if_pos ⟨by decide, holdOff⟩] <;> rfl

theorem InputRec.move_resumes (state : r.state = .suspect) : r.move c full Reasons.empty = (r.resume, .nothing) := by
  simp only [InputRec.move, state]
  rfl

theorem InputRec.move_proving (state : r.state = .proving) : r.move c full Reasons.empty = r.promote full := by
  simp only [InputRec.move, state]
  rfl

theorem InputRec.move_proves (state : r.state = .barred) :
    r.move c full Reasons.empty = (r.proven c).promote full := by
  simp only [InputRec.move, state]
  rfl

theorem InputRec.promote_passes (state : r.state = .proving) (passes : r.wtr.passes = true) :
    r.promote true = (r.passed, .ready r.wtr) := by
  rw [InputRec.promote, if_pos ⟨state, rfl, passes⟩]
  rfl

theorem InputRec.promote_waits (waits : full = false ∨ r.wtr.passes = false) : r.promote full = (r, .nothing) := by
  rw [InputRec.promote, if_neg]
  rintro ⟨-, isFull, passes⟩
  rcases waits with h | h
  · simp [h] at isFull
  · simp [h] at passes

/-! ### A move in the state -/

theorem applyMove_log (i : Inp) (n : InputRec × Notice) (s : State) :
    (Machine.applyMove i n s).log = (logNotice i n.1 n.2 s).log := by
  rw [applyMove_eq, followMove_log]
  unfold logNotice
  split <;> rfl

theorem applyMove_log_barred (i : Inp) (r : InputRec) (s : State) :
    (Machine.applyMove i (r, .barred) s).log = s.log.append .inputBarred (i.val + 1) r.reasons.bits :=
  applyMove_log i (r, .barred) s

theorem applyMove_log_ready (i : Inp) (r : InputRec) (w : Wtr) (s : State) :
    (Machine.applyMove i (r, .ready w) s).log = s.log.append .inputReady (i.val + 1) w.code :=
  applyMove_log i (r, .ready w) s

theorem qualify_eq (i : Inp) (x : Reasons) (s : State) :
    Machine.qualify i x s = Machine.applyMove i (s.records[i].move (inputCfg s i) (windowFull s i) x) s := rfl

/-! ### The end of an event -/

theorem notFit_of_state {state : InputState} (is : r.state = state)
    (notFit : state ≠ .ready ∧ state ≠ .active ∧ state ≠ .suspect) : r.fit = false := by
  obtain ⟨h1, h2, h3⟩ := notFit
  simp [InputRec.fit, is, h1, h2, h3]

/-- The Selector does not touch an input it may not choose. -/
theorem settleEvent_unfit (before : State) (must expired : Bool) (notFit : m.records[i].fit = false) :
    (settleEvent before must expired m).records[i] = m.records[i] :=
  (settleEvent_moves before must expired m i).eq_of_not_fit notFit

theorem settleEvent_barred (before : State) (must expired : Bool) (barred : m.records[i].state = .barred) :
    (settleEvent before must expired m).records[i] = m.records[i] :=
  settleEvent_unfit before must expired (notFit_of_state barred (by decide))

theorem settleEvent_proving (before : State) (must expired : Bool) (proving : m.records[i].state = .proving) :
    (settleEvent before must expired m).records[i] = m.records[i] :=
  settleEvent_unfit before must expired (notFit_of_state proving (by decide))

theorem SelectorMove.of_ready {r r' : InputRec} (move : SelectorMove r r') (ready : r.state = .ready) :
    r'.state = .ready ∨ r'.state = .active := by
  cases move with
  | same => exact .inl ready
  | usable state state' chosen => exact chosen
  | suspect state => simp [ready] at state

/-- A READY input is READY or taken at the end of an event. -/
theorem settleEvent_ready (before : State) (must expired : Bool) (ready : m.records[i].state = .ready) :
    ((settleEvent before must expired m).records[i].state = .ready ∨
      (settleEvent before must expired m).records[i].state = .active) := by
  exact (settleEvent_moves before must expired m i).of_ready ready

/-- An input that is not usable is neither the active input nor forced (R69, R85). -/
theorem not_active_of_state (law : SelectionLaw t) (state : t.records[i].state ≠ .active ∧ t.records[i].state ≠ .suspect) :
    t.selector.active ≠ some i ∧ t.selector.force ≠ .input i := by
  obtain ⟨active, -, -, -, force, -⟩ := law
  have idle : t.selector.active ≠ some i := fun h => by
    have isActive := (active i).mpr h
    rw [InputRec.isActive_eq_false ⟨state.1, .inl state.2⟩] at isActive
    cases isActive
  exact ⟨idle, fun h => idle (force i h)⟩

theorem barred_left (law : SelectionLaw t) (barred : t.records[i].state = .barred) :
    t.selector.active ≠ some i ∧ t.selector.force ≠ .input i := not_active_of_state law (by simp [barred, -Fin.getElem_fin])

/-! ### A shelf that stays -/

/-- On the state that it gives, a decision changes nothing, and nor does a second one. -/
theorem evaluate_of_current (leaver : Option Inp)
    (own : s.selector.active = none → s.follower.output = .freeRun ∨ s.follower.output = .holdover)
    (current : sourceOf s = decided s) : (evaluate leaver s).1 = s := by
  have stays : carryOut leaver (decided s) s = s := carryOut_of_current leaver current own
  rw [evaluate_fst, stays, if_neg]
  rintro ⟨-, moved⟩
  exact moved Iff.rfl

/-- The shelf stays: no force is lost, and an evaluation that the event asks for decides on the source it is on. -/
structure Stays (before : State) (must : Bool) (m : State) : Prop where
  force : ∀ f : Inp, m.selector.force = .input f → m.records[f].state ≠ .barred
  current : must = true ∨ evaluationDue before m = true → sourceOf m = sourceOf before ∧ sourceOf m = decided m ∧
    (m.selector.active = none → m.follower.output = .freeRun ∨ m.follower.output = .holdover)

theorem Stays.clearBarredForce_eq {must : Bool} (stays : Stays before must m) : clearBarredForce m = m := by
  unfold clearBarredForce
  split
  · rename_i f force
    exact if_neg (stays.force f force)
  · rfl
  · rfl

theorem Stays.selectorTurn_eq {must : Bool} (stays : Stays before must m) (expired : Bool) :
    selectorTurn before must expired m = m := by
  by_cases due : must = true ∨ evaluationDue before m = true
  · obtain ⟨same, current, own⟩ := stays.current due
    rw [selectorTurn_of_due _ _ _ _ due, evaluate_of_current _ own current, logSwitch, if_pos same.symm]
  · simp only [not_or, Bool.not_eq_true] at due
    rw [due.1, selectorTurn_of_not_due _ _ _ due.2]

theorem Stays.settleEvent_eq {must : Bool} (stays : Stays before must m) (expired : Bool) :
    settleEvent before must expired m = syncWant (raiseEvent before m) := by
  rw [settleEvent, stays.clearBarredForce_eq, stays.selectorTurn_eq]

theorem Stays.settleEvent_fields {must : Bool} (stays : Stays before must m) (expired : Bool) :
    (settleEvent before must expired m).records = m.records ∧ (settleEvent before must expired m).selector = m.selector ∧
    (settleEvent before must expired m).follower = m.follower ∧ (settleEvent before must expired m).log = m.log := by
  rw [stays.settleEvent_eq]
  exact ⟨by simp, by simp, by simp, by simp⟩

/-- The inputs and the Selector stand as they were before the event. -/
theorem stays_of_same (law : SelectionLaw before) (selector : m.selector = before.selector)
    (records : ∀ j : Inp, m.records[j].state = before.records[j].state ∧ m.records[j].origin = before.records[j].origin ∧
      m.records[j].effective = before.records[j].effective ∧ m.records[j].hop = before.records[j].hop)
    (group : ∀ j : Inp, boundGroup m j = boundGroup before j) (own : ownGrade m = ownGrade before) :
    Stays before false m where
  force f force barred := by
    rw [selector] at force
    exact (barred_left law ((records f).1.symm.trans barred)).2 force
  current due := by
    have idle : evaluationDue before m = false := (evaluationDue_eq_false_iff before m).mpr
      ⟨fun j => ⟨(records j).1.symm, (records j).2.1.symm, (records j).2.2.1.symm, (records j).2.2.2.symm,
        by rw [group j]; rintro ⟨h, h'⟩; simp [h] at h',
        by rw [group j]; rintro ⟨h, h'⟩; simp [h] at h'⟩, own.symm, by rw [selector]⟩
    simp [idle] at due

end
end Sys2Proof.Machine
end


section
/-! PROOF. O15, O16, O17, O18: the hold-off and the WTR expiry, LOCKOUT and RELEASE. -/

namespace Sys2Proof.Machine

section

variable {s t m before : State} {i : Inp} {r : InputRec} {n : Byte}

theorem inputOf_eq_some_iff (n : Byte) (i : Inp) : inputOf n = some i ↔ n.toNat = i.val + 1 := by
  have inside : i.val < 6 := i.isLt
  unfold inputOf
  split
  · rw [Option.some_inj, Fin.ext_iff]
    dsimp only
    omega
  · simp only [reduceCtorEq, false_iff]
    omega

theorem inputOf_eq_none (outside : ¬(1 ≤ n.toNat ∧ n.toNat ≤ 6)) : inputOf n = none := dif_neg outside

/-! ### The timers of an input (R49, R53) -/

theorem holdOffExpiry_eq (on : running s = true) (suspect : s.records[i].state = .suspect)
    (runs : s.records[i].holdOff ≠ none) : exec (.holdOffExpiry i) s = .next
      (settleEvent s false false (applyMove i (s.records[i].bar s.records[i].reasons, .barred) s)) := by
  show Host.Outcome.next _ = _
  rw [if_pos]
  · rfl
  · simp only [on, suspect, decide_true, Bool.true_and]
    exact Option.isSome_iff_ne_none.mpr runs

/-- The event of a WTR expiry before the Selector's part (R53, R54). -/
def wtrServed (i : Inp) (s : State) : State :=
  applyMove i (({ s.records[i] with wtr := .served } : InputRec).promote (windowFull s i)) s

theorem wtrExpiry_eq {elapsed : Nat} (on : running s = true) (proving : s.records[i].state = .proving)
    (runs : s.records[i].wtr = .running elapsed) :
    exec (.wtrExpiry i) s = .next (settleEvent s false false (wtrServed i s)) := by
  show Host.Outcome.next _ = _
  rw [if_pos]
  · rfl
  · simp [on, proving, runs, Wtr.isRunning, -Fin.getElem_fin]

theorem wtrServed_full (proving : s.records[i].state = .proving) (full : s.monitors[i].window.length = 8) :
    wtrServed i s = applyMove i ({ s.records[i] with state := .ready, wtr := .none }, .ready .served) s := by
  have isFull : windowFull s i = true := decide_eq_true full
  rw [wtrServed, isFull, InputRec.promote_passes (r := { s.records[i] with wtr := .served }) proving rfl]
  rfl

theorem wtrServed_waits (proving : s.records[i].state = .proving) (notFull : s.monitors[i].window.length ≠ 8) :
    wtrServed i s = s.withRecord i { s.records[i] with wtr := .served } := by
  have isNot : windowFull s i = false := decide_eq_false notFull
  rw [wtrServed, isNot, InputRec.promote_waits (.inl rfl), applyMove_eq, followMove_quiet]
  · rfl
  all_goals simp [proving, -Fin.getElem_fin]

/-- A change of the timer alone is no business of the Selector (R78). -/
theorem stays_of_wtr (law : SelectionLaw s) (w : Wtr) :
    Stays s false (s.withRecord i { s.records[i] with wtr := w }) := by
  refine stays_of_same law rfl (fun j => ?_) (fun _ => rfl) rfl
  rw [State.withRecord_get]
  split
  · rename_i same
    subst same
    exact ⟨rfl, rfl, rfl, rfl⟩
  · exact ⟨rfl, rfl, rfl, rfl⟩

/-! ### LOCKOUT and RELEASE (R62, R63) -/

theorem lockout_invalid (noHold : s.hold = none) (names : inputOf n = none) :
    exec (.lockout n) s = .next (answer 1 [resInvalid] s) ∧ exec (.release n) s = .next (answer 1 [resInvalid] s) := by
  constructor <;>
  · show Host.Outcome.next _ = _
    rw [if_pos ((portOpen_iff s).mpr noHold), lockResult, names]

theorem lockout_refused (noHold : s.hold = none) (names : inputOf n = some i) (off : measuring s i = false) :
    exec (.lockout n) s = .next (answer 1 [resRefused] s) ∧ exec (.release n) s = .next (answer 1 [resRefused] s) := by
  constructor <;>
  · show Host.Outcome.next _ = _
    rw [if_pos ((portOpen_iff s).mpr noHold), lockResult, names]
    simp only [off, Bool.false_eq_true, if_false]

theorem lockout_done (noHold : s.hold = none) (names : inputOf n = some i) (on : measuring s i = true) :
    exec (.lockout n) s = .next (answer 1 [resDone] (lockInput i s)) ∧
    exec (.release n) s = .next (answer 1 [resDone] (releaseInput i s)) := by
  constructor <;>
  · show Host.Outcome.next _ = _
    rw [if_pos ((portOpen_iff s).mpr noHold), lockResult, names]
    simp only [on, if_true]

/-- The event of a reason set that reaches input `i`. -/
theorem qualify_settled (i : Inp) (x : Reasons) (s : State) :
    InputEventFrame i s (settleEvent s false false (qualify i x s)) ∧
    (settleEvent s false false (qualify i x s)).monitors = s.monitors ∧
    (settleEvent s false false (qualify i x s)).port = s.port :=
  ⟨(qualify_event i x s).settled false false s, by simp, (qualify_event i x s).settled_port false false s⟩

theorem inputEventFrame_refl (i : Inp) (s : State) : InputEventFrame i s s :=
  ⟨⟨rfl, rfl, rfl, rfl, rfl⟩, .refl s, sameAnnouncer_of_eq rfl, rfl, .refl s, rfl, fun _ _ => ⟨rfl, rfl⟩⟩

theorem lockInput_frame (i : Inp) (s : State) : InputEventFrame i s (lockInput i s) ∧
    (lockInput i s).monitors = s.monitors ∧ (lockInput i s).port = s.port := by
  unfold lockInput
  split
  · exact ⟨inputEventFrame_refl i s, rfl, rfl⟩
  · exact qualify_settled ..

theorem releaseInput_frame (i : Inp) (s : State) : InputEventFrame i s (releaseInput i s) ∧
    (releaseInput i s).monitors = s.monitors ∧ (releaseInput i s).port = s.port := by
  unfold releaseInput
  split
  · exact qualify_settled ..
  · exact ⟨inputEventFrame_refl i s, rfl, rfl⟩

/-- A reason other than SIGNAL is present in BARRED alone (R44). -/
theorem barred_of_reasons (law : RecordLaw r) (some : r.reasons ≠ Reasons.empty)
    (other : r.reasons ≠ { Reasons.empty with signal := true }) : r.state = .barred := by
  obtain ⟨bare, -, proving, suspect⟩ := law
  cases state : r.state with
  | off => exact absurd (bare (.inl state)).1 some
  | ready => exact absurd (bare (.inr (.inl state))).1 some
  | active => exact absurd (bare (.inr (.inr state))).1 some
  | barred => rfl
  | proving => exact absurd (proving state).1 some
  | suspect => exact absurd (suspect state).1 other

theorem InputRec.barredBy_self (law : RecordLaw r) (barred : r.state = .barred) : r.barredBy r.reasons = r := by
  obtain ⟨-, law, -⟩ := law
  obtain ⟨-, holdOff, wtr, origin, seen⟩ := law barred
  have hard : (r.hardSeen || r.reasons.hard) = r.hardSeen := by
    cases h : r.reasons.hard
    · simp
    · simp [seen h]
  obtain ⟨⟩ := r
  simp_all [InputRec.barredBy]

theorem Reasons.with_lockout {x : Reasons} (locked : x.lockout = true) : { x with lockout := true } = x := by
  rw [← locked]

/-- LOCKOUT bars a used input, or finds it barred by LOCKOUT. -/
theorem lockInput_cases (law : RecordLaw s.records[i]) (on : s.records[i].state ≠ .off) :
    (lockInput i s = s ∧ s.records[i].reasons.lockout = true ∧ s.records[i].state = .barred ∧
      s.records[i] = s.records[i].barredBy { s.records[i].reasons with lockout := true }) ∨
    lockInput i s = settleEvent s false false (applyMove i
      (s.records[i].barredBy { s.records[i].reasons with lockout := true },
        if s.records[i].state = .barred then .nothing else .barred) s) := by
  by_cases locked : s.records[i].reasons.lockout = true
  · have barred : s.records[i].state = .barred := by
      refine barred_of_reasons law (fun h => ?_) (fun h => ?_) <;> rw [h] at locked <;> cases locked
    refine .inl ⟨if_pos locked, locked, barred, ?_⟩
    rw [Reasons.with_lockout locked, InputRec.barredBy_self law barred]
  · refine .inr ?_
    rw [lockInput, if_neg locked, qualify_eq, InputRec.move_barring law on]
    · exact fun h => by simpa [Reasons.empty] using congrArg Reasons.lockout h
    · exact .inl fun h => by simpa [Reasons.empty] using congrArg Reasons.lockout h

theorem lockInput_record (law : RecordLaw s.records[i]) (on : s.records[i].state ≠ .off) :
    (lockInput i s).records[i] = s.records[i].barredBy { s.records[i].reasons with lockout := true } := by
  rcases lockInput_cases law on with ⟨same, -, -, record⟩ | event
  · rw [same, ← record]
  · rw [event, settleEvent_barred]
    · rw [applyMove_get, if_pos rfl]
    · rw [applyMove_get, if_pos rfl]
      rfl

theorem lockInput_log (law : RecordLaw s.records[i]) (on : s.records[i].state ≠ .off)
    (notBarred : s.records[i].state ≠ .barred) (room : s.log.records.length < 32) :
    s.log.records ++ [{ uptime := s.log.uptime, kind := .inputBarred, arg1 := BitVec.ofNat 8 (i.val + 1)
                        arg2 := BitVec.ofNat 8 (lockInput i s).records[i].reasons.bits }]
      <+: (lockInput i s).log.records := by
  rw [lockInput_record law on]
  rcases lockInput_cases law on with ⟨-, -, barred, -⟩ | event
  · exact absurd barred notBarred
  · rw [event, if_neg notBarred]
    exact (settleEvent_grown ..).first (applyMove_log_barred ..) room

theorem lockInput_law (records : RecordsLawful s) (law : SelectionLaw s) (on : measuring s i = true)
    (names : inputOf n = some i) : SelectionLaw (lockInput i s) := by
  unfold lockInput
  split
  · exact law
  · rename_i absent
    exact ((Body.lockout names on (by simpa using absent)).law records law).2

/-- RELEASE of an input that LOCKOUT bars. -/
theorem releaseInput_eq (locked : s.records[i].reasons.lockout = true) : releaseInput i s =
    settleEvent s false false (qualify i { s.records[i].reasons with lockout := false } s) := if_pos locked

/-- Other reasons keep a BARRED input there; a hard one had been seen. -/
theorem qualify_joined (law : RecordLaw s.records[i]) (barred : s.records[i].state = .barred) {x : Reasons}
    (others : x ≠ Reasons.empty) (hard : x.hard = true → s.records[i].reasons.hard = true) :
    (settleEvent before false false (qualify i x s)).records[i] = { s.records[i] with reasons := x } := by
  have notNone : x.none = false := (Reasons.none_eq_false_iff x).mpr others
  have seen : (s.records[i].hardSeen || x.hard) = s.records[i].hardSeen := by
    obtain ⟨-, law, -⟩ := law
    obtain ⟨-, -, -, -, seen⟩ := law barred
    cases h : x.hard
    · simp
    · simp [seen (hard h), -Fin.getElem_fin]
  have record : (qualify i x s).records[i] = { s.records[i] with reasons := x } := by
    rw [qualify_self, InputRec.move_barred_joins _ _ _ _ barred notNone, seen]
  rw [settleEvent_barred, record]
  rw [record]
  exact barred

/-- An emptied reason set takes a BARRED input to PROVING, and there it waits for its WTR or its window. -/
theorem qualify_proves_waits (barred : s.records[i].state = .barred)
    (waits : windowFull s i = false ∨ (entryWtr s.records[i].hardSeen (inputCfg s i).wtr).passes = false) :
    (settleEvent before false false (qualify i Reasons.empty s)).records[i] = s.records[i].proven (inputCfg s i) := by
  have record : (qualify i Reasons.empty s).records[i] = s.records[i].proven (inputCfg s i) := by
    rw [qualify_self, InputRec.move_proves barred, InputRec.promote_waits waits]
  rw [settleEvent_proving, record]
  rw [record]
  rfl

/-- ... or passes to READY with its status, or is taken. -/
theorem qualify_proves_passes (barred : s.records[i].state = .barred) (full : windowFull s i = true)
    (passes : (entryWtr s.records[i].hardSeen (inputCfg s i).wtr).passes = true) :
    qualify i Reasons.empty s = applyMove i ((s.records[i].proven (inputCfg s i)).passed,
      .ready (entryWtr s.records[i].hardSeen (inputCfg s i).wtr)) s := by
  rw [qualify_eq, InputRec.move_proves barred, full, InputRec.promote_passes rfl passes]
  rfl

/-- The record of a BARRED input whose reason set is emptied, wherever it goes. -/
theorem qualify_proves (barred : s.records[i].state = .barred) :
    (settleEvent before false false (qualify i Reasons.empty s)).records[i].reasons = Reasons.empty ∧
    (settleEvent before false false (qualify i Reasons.empty s)).records[i].hardSeen = false := by
  have record : (qualify i Reasons.empty s).records[i].reasons = Reasons.empty ∧
      (qualify i Reasons.empty s).records[i].hardSeen = false := by
    rw [qualify_self, InputRec.move_proves barred]
    rcases (s.records[i].proven (inputCfg s i)).promote_cases (windowFull s i) with eq | ⟨-, -, -, eq⟩ <;> rw [eq] <;>
      exact ⟨rfl, rfl⟩
  rw [settleEvent_records before false false (qualify i Reasons.empty s) i]
  exact record

end
end Sys2Proof.Machine

open Sys2Proof Sys2Proof.Machine

/-- Settles O15. -/
theorem holdOffExpiryBars : Obligations.HoldOffExpiryBars := by
  unfold Obligations.HoldOffExpiryBars
  intro i s on records law suspect
  obtain ⟨-, -, -, suspectLaw⟩ := records i
  obtain ⟨reasons, seen, runs, wtr, -⟩ := suspectLaw suspect
  have bar : s.records[i].bar s.records[i].reasons = { s.records[i] with
      state := .barred, origin := none, hardSeen := true, holdOff := none } := by
    simp only [InputRec.bar, reasons, wtr]
    rfl
  have event := applyMove_event i (s.records[i].bar s.records[i].reasons, .barred) s
  have record : (applyMove i (s.records[i].bar s.records[i].reasons, .barred) s).records[i] =
      s.records[i].bar s.records[i].reasons := by rw [applyMove_get, if_pos rfl]
  have barred : (applyMove i (s.records[i].bar s.records[i].reasons, .barred) s).records[i].state = .barred := by
    rw [record]
    rfl
  have left := settleEvent_barred s false false barred
  obtain ⟨active, force⟩ := barred_left ((Body.holdOff on suspect).law records law).2 (left.symm ▸ barred)
  refine ⟨_, holdOffExpiry_eq on suspect runs, ?_, ?_, active, force, fun room => ?_, by simp, event.settled .., event.settled_port ..⟩
  · rw [left, record, bar]
  · rw [left, record, bar]
    exact reasons
  · have first := (settleEvent_grown s false false _).first
      (applyMove_log_barred i (s.records[i].bar s.records[i].reasons) s) room
    rw [bar, reasons] at first
    rw [bar]
    exact first

/-- Settles O16. -/
theorem wtrExpiryServes : Obligations.WtrExpiryServes := by
  unfold Obligations.WtrExpiryServes
  intro i elapsed s on records law proving runs
  have event : InputEvent i s (wtrServed i s) := applyMove_event ..
  refine ⟨_, wtrExpiry_eq on proving runs, fun full => ?_, fun notFull => ?_, by simp [wtrServed], event.settled ..,
    event.settled_port ..⟩
  · rw [wtrServed_full proving full]
    have record : (applyMove i ({ s.records[i] with state := .ready, wtr := .none }, .ready .served) s).records[i] =
        { s.records[i] with state := .ready, wtr := .none } := by rw [applyMove_get, if_pos rfl]
    have selected := settleEvent_records s false false
      (applyMove i ({ s.records[i] with state := .ready, wtr := .none }, .ready .served) s) i
    rw [record] at selected
    refine ⟨settleEvent_ready s false false (by rw [record]), by rw [selected], selected, fun room => ?_⟩
    exact (settleEvent_grown ..).first (applyMove_log_ready ..) room
  · rw [wtrServed_waits proving notFull]
    obtain ⟨records', selector, follower, log⟩ := (stays_of_wtr (i := i) law .served).settleEvent_fields false
    rw [records', selector, follower, log, State.withRecord_self]
    exact ⟨rfl, rfl, rfl, rfl⟩

/-- Settles O17. -/
theorem lockoutBars : Obligations.LockoutBars := by
  unfold Obligations.LockoutBars
  intro n s noHold records law
  rcases names : inputOf n with _ | i
  · refine ⟨_, (lockout_invalid noHold names).1, fun _ => rfl, fun i number => ?_⟩
    rw [(inputOf_eq_some_iff n i).mpr number] at names
    cases names
  have inside : 1 ≤ n.toNat ∧ n.toNat ≤ 6 := by
    have := (inputOf_eq_some_iff n i).mp names
    have := i.isLt
    omega
  cases on : measuring s i with
  | false =>
    refine ⟨_, (lockout_refused noHold names on).1, fun outside => absurd inside outside, fun j number => ?_⟩
    obtain rfl : i = j := Option.some_inj.mp (names.symm.trans ((inputOf_eq_some_iff n j).mpr number))
    exact ⟨fun _ => rfl, fun h => absurd (on.symm.trans h) (by decide)⟩
  | true =>
    refine ⟨_, (lockout_done noHold names on).1, fun outside => absurd inside outside, fun j number => ?_⟩
    obtain rfl : i = j := Option.some_inj.mp (names.symm.trans ((inputOf_eq_some_iff n j).mpr number))
    obtain ⟨frame, monitors, port⟩ := lockInput_frame i s
    refine ⟨fun h => absurd (on.symm.trans h) (by decide), fun _ => ⟨rfl, ?_, monitors, frame, fun used => ?_⟩⟩
    · rw [answer_port, port]
    · have record := lockInput_record (records i) used
      have law' := lockInput_law records law on names
      have barred : (lockInput i s).records[i].state = .barred := by rw [record]; rfl
      obtain ⟨active, force⟩ := barred_left law' barred
      refine ⟨barred, ?_, ?_, ?_, active, fun _ => force, ?_, fun notBarred room => lockInput_log (records i) used notBarred room⟩
      · exact (congrArg InputRec.reasons record).trans rfl
      · exact (congrArg InputRec.holdOff record).trans rfl
      · exact (congrArg InputRec.wtr record).trans rfl
      · exact (congrArg InputRec.hardSeen record).trans (Bool.or_assoc ..).symm

/-- Settles O18. -/
theorem releaseFrees : Obligations.ReleaseFrees := by
  unfold Obligations.ReleaseFrees
  intro n s noHold records law
  rcases names : inputOf n with _ | i
  · refine ⟨_, (lockout_invalid noHold names).2, fun _ => rfl, fun i number => ?_⟩
    rw [(inputOf_eq_some_iff n i).mpr number] at names
    cases names
  have inside : 1 ≤ n.toNat ∧ n.toNat ≤ 6 := by
    have := (inputOf_eq_some_iff n i).mp names
    have := i.isLt
    omega
  cases on : measuring s i with
  | false =>
    refine ⟨_, (lockout_refused noHold names on).2, fun outside => absurd inside outside, fun j number => ?_⟩
    obtain rfl : i = j := Option.some_inj.mp (names.symm.trans ((inputOf_eq_some_iff n j).mpr number))
    exact ⟨fun _ => rfl, fun h => absurd (on.symm.trans h) (by decide)⟩
  | true =>
    refine ⟨_, (lockout_done noHold names on).2, fun outside => absurd inside outside, fun j number => ?_⟩
    obtain rfl : i = j := Option.some_inj.mp (names.symm.trans ((inputOf_eq_some_iff n j).mpr number))
    obtain ⟨frame, monitors, port⟩ := releaseInput_frame i s
    refine ⟨fun h => absurd (on.symm.trans h) (by decide), fun _ => ⟨rfl, ?_, monitors, frame, fun absent => ?_,
      fun barred locked => ⟨fun others => ?_, fun none => ?_⟩⟩⟩
    · rw [answer_port, port]
    · have same : releaseInput i s = s := if_neg (by simp [absent, -Fin.getElem_fin])
      rw [same]
      exact ⟨rfl, rfl, rfl⟩
    · have record := qualify_joined (before := s) (records i) barred others id
      rw [releaseInput_eq locked]
      rw [answer_records, record]
      exact ⟨barred, rfl, rfl⟩
    · simp only [answer_records, answer_log]
      rw [releaseInput_eq locked, none]
      obtain ⟨reasons, seen⟩ := qualify_proves barred
      refine ⟨reasons, seen, fun hard configured => ?_, fun soft notFull => ?_, fun soft full => ?_⟩
      · have entry : entryWtr s.records[i].hardSeen (inputCfg s i).wtr = .running 0 := by
          rw [hard, entryWtr, if_pos rfl, if_neg configured]
        rw [qualify_proves_waits barred (.inr (by rw [entry]; rfl))]
        exact ⟨rfl, entry⟩
      · have entry : entryWtr s.records[i].hardSeen (inputCfg s i).wtr = .met := by rw [soft]; rfl
        rw [qualify_proves_waits barred (.inl (decide_eq_false notFull))]
        exact ⟨rfl, entry⟩
      · have entry : entryWtr s.records[i].hardSeen (inputCfg s i).wtr = .met := by rw [soft]; rfl
        rw [qualify_proves_passes barred (decide_eq_true full) (by rw [entry]; rfl), entry]
        have record : (applyMove i ((s.records[i].proven (inputCfg s i)).passed, .ready .met) s).records[i] =
            (s.records[i].proven (inputCfg s i)).passed := by rw [applyMove_get, if_pos rfl]
        refine ⟨settleEvent_ready (i := i) s false false (by rw [record]; rfl), ?_, fun room =>
          (settleEvent_grown s false false _).first (applyMove_log_ready ..) room⟩
        have selected := settleEvent_records s false false
          (applyMove i ((s.records[i].proven (inputCfg s i)).passed, .ready .met) s) i
        rw [record] at selected
        rw [selected]
        rfl

end


section
/-! PROOF. O11, O12, O13, O14: a gate completion, the frequency check, and the history. -/

namespace Sys2Proof.Machine

section

variable {s t m before : State} {i : Inp} {edges : Nat}

/-! ### The monitor after a completion (R24, R26, R31) -/

/-- The monitor of input `i` after a gate completion with `edges` more edges. -/
def completed (s : State) (i : Inp) (edges : Nat) : Monitor :=
  completeGate s i s.monitors[i] (gateCount s.monitors[i].gate edges)

/-- The state after the completion, as the Qualifier finds it. -/
def measured (s : State) (i : Inp) (edges : Nat) : State :=
  takeOffset i (completed s i edges) (s.withMonitor i (completed s i edges))

/-- The reason set that the completion leaves input `i` (R37). -/
def checkedReasons (s : State) (i : Inp) (edges : Nat) : Reasons :=
  freqReasons s.records[i].reasons s.monitors[i].freq (completed s i edges).freq

theorem gateCompletion_eq (on : measuring s i = true) (runs : s.monitors[i].gate.run = true)
    (early : s.monitors[i].msPhase < 20000) : exec (.gateCompletion i edges) s =
      .next (settleEvent s false false (qualify i (checkedReasons s i edges) (measured s i edges))) := by
  have may : gateMayComplete s.monitors[i] = true := by
    rw [gateMayComplete, runs, Bool.true_and]
    exact decide_eq_true early
  show Host.Outcome.next _ = _
  rw [on, may]
  rfl

theorem gateCompletion_waits (due : 20000 ≤ s.monitors[i].msPhase) : exec (.gateCompletion i edges) s = .next s := by
  have mayNot : gateMayComplete s.monitors[i] = false := by
    rw [gateMayComplete, decide_eq_false (show ¬s.monitors[i].msPhase < millisecond from Nat.not_lt.mpr due), Bool.and_false]
  show Host.Outcome.next _ = _
  rw [mayNot, Bool.and_false]
  rfl

theorem joinWindow_suffix (window : List Nat) (count : Nat) : joinWindow window count <:+ window ++ [count] :=
  List.drop_suffix ..

theorem joinWindow_length {window : List Nat} (count : Nat) (small : window.length ≤ 8) :
    (joinWindow window count).length = min 8 (window.length + 1) := by
  simp only [joinWindow, List.length_drop, List.length_append, List.length_singleton]
  omega

theorem completed_eq (s : State) (i : Inp) (edges : Nat) : completed s i edges = { s.monitors[i] with
    gate := Gate.begun, window := joinWindow s.monitors[i].window (gateCount s.monitors[i].gate edges)
    lastOffset := (completed s i edges).lastOffset, freq := (completed s i edges).freq
    check := (completed s i edges).check } := completeGate_eq ..

theorem completed_window (s : State) (i : Inp) (edges : Nat) : (completed s i edges).window =
    joinWindow s.monitors[i].window (gateCount s.monitors[i].gate edges) := by rw [completed_eq]

/-- A completion that leaves the window full gives an offset and checks it. -/
theorem completed_full (full : (completed s i edges).window.length = 8) :
    (completed s i edges).lastOffset = some (windowedOffset (completed s i edges).window (inputCfg s i).freq) ∧
    ((completed s i edges).freq, (completed s i edges).check) = frequencyCheck s i
      (windowedOffset (completed s i edges).window (inputCfg s i).freq) s.monitors[i].freq := by
  rw [completed_window] at full ⊢
  unfold completed completeGate
  dsimp only
  rw [if_pos full]
  exact ⟨rfl, rfl⟩

theorem completed_not_full (notFull : (completed s i edges).window.length ≠ 8) :
    (completed s i edges).lastOffset = s.monitors[i].lastOffset ∧ (completed s i edges).freq = s.monitors[i].freq ∧
    (completed s i edges).check = s.monitors[i].check := by
  rw [completed_window] at notFull
  unfold completed completeGate
  dsimp only
  rw [if_neg notFull]
  exact ⟨rfl, rfl, rfl⟩

theorem completed_full_of_seven (length : s.monitors[i].window.length = 7 ∨ s.monitors[i].window.length = 8) :
    (completed s i edges).window.length = 8 := by
  rw [completed_window, joinWindow_length _ (by omega)]
  omega

/-! ### The event (R31, R54, R100) -/

theorem measured_event (s : State) (i : Inp) (edges : Nat) : InputEvent i s (measured s i edges) :=
  (withMonitor_event ..).trans (takeOffset_event ..)

theorem completion_event (s : State) (i : Inp) (edges : Nat) :
    InputEvent i s (qualify i (checkedReasons s i edges) (measured s i edges)) :=
  (measured_event s i edges).trans (qualify_event ..)

theorem measured_records (s : State) (i : Inp) (edges : Nat) : (measured s i edges).records = s.records := takeOffset_records ..

theorem measured_inputCfg (s : State) (i : Inp) (edges : Nat) : inputCfg (measured s i edges) i = inputCfg s i := by
  obtain ⟨-, -, -, loader, -⟩ := (measured_event s i edges).part
  rw [inputCfg, inputCfg, loader]

theorem measured_monitor (s : State) (i : Inp) (edges : Nat) : (measured s i edges).monitors[i] = completed s i edges := by
  rw [measured, takeOffset_monitors, State.withMonitor_self]

theorem measured_windowFull (s : State) (i : Inp) (edges : Nat) :
    windowFull (measured s i edges) i = decide ((completed s i edges).window.length = 8) := by
  rw [windowFull, measured_monitor]

theorem completion_monitor (s : State) (i : Inp) (edges : Nat) :
    (settleEvent s false false (qualify i (checkedReasons s i edges) (measured s i edges))).monitors[i] =
      completed s i edges := by
  rw [settleEvent_monitors, qualify_monitors, measured_monitor]

theorem completion_body (on : measuring s i = true) (runs : s.monitors[i].gate.run = true)
    (early : s.monitors[i].msPhase < 20000) : Body (.gateCompletion i edges) s false false
      (qualify i (checkedReasons s i edges) (measured s i edges)) := by
  refine .gate on ?_ rfl
  rw [gateMayComplete, runs, Bool.true_and]
  exact decide_eq_true early

/-- With the check clear, a record without reasons keeps its empty set. -/
theorem checkedReasons_clear (none : s.records[i].reasons = Reasons.empty) (clear : (completed s i edges).freq = false) :
    checkedReasons s i edges = Reasons.empty := by
  rw [checkedReasons, none, clear, freqReasons]
  split <;> rfl

/-- A PROVING record that passes with a completion: READY with its status recorded. -/
theorem completion_passes (law : RecordLaw s.records[i]) (proving : s.records[i].state = .proving)
    (full : (completed s i edges).window.length = 8) (clear : (completed s i edges).freq = false)
    (passes : s.records[i].wtr.passes = true) :
    qualify i (checkedReasons s i edges) (measured s i edges) =
      applyMove i (s.records[i].passed, .ready s.records[i].wtr) (measured s i edges) := by
  obtain ⟨-, -, law, -⟩ := law
  rw [checkedReasons_clear (law proving).1 clear, qualify_eq, measured_records, measured_windowFull, decide_eq_true full,
    InputRec.move_proving proving, InputRec.promote_passes proving passes]

theorem completion_waits (law : RecordLaw s.records[i]) (proving : s.records[i].state = .proving)
    (clear : (completed s i edges).freq = false) (waits : s.records[i].wtr.passes = false) :
    (qualify i (checkedReasons s i edges) (measured s i edges)).records[i] = s.records[i] := by
  obtain ⟨-, -, law, -⟩ := law
  rw [checkedReasons_clear (law proving).1 clear, qualify_self, measured_records, InputRec.move_proving proving,
    InputRec.promote_waits (.inr waits)]

/-- The status in the record of INPUT_READY. -/
theorem wtr_code (proving : s.records[i].state = .proving)
    (passes : s.records[i].wtr.passes = true) :
    BitVec.ofNat 8 s.records[i].wtr.code = passStatus s.records[i] := by
  rw [passStatus, if_pos proving]
  cases wtr : s.records[i].wtr with
  | none | running => simp [wtr, Wtr.passes, -Fin.getElem_fin] at passes
  | served | met | waived => rfl

theorem measured_log (s : State) (i : Inp) (edges : Nat) : (measured s i edges).log = s.log := by
  rw [measured, takeOffset]
  split <;> rfl

/-! ### The check (R33 to R35) -/

theorem absoluteFails_eq (warm : Bool) (pull : Nat) (offset : Int) :
    absoluteFails warm pull offset = (!warm && decide (pull < offset.natAbs)) := by
  simp only [absoluteFails, Nat.cast_lt]

section
variable {applies : Bool} {accept reject gap : Nat} {offset o : Int}

theorem relativePart_fails (beyond : reject < (offset - o).natAbs) : relativePart true accept reject offset o = .fails :=
  if_pos beyond

theorem relativePart_off : relativePart false accept reject offset o = .notApplying := rfl

theorem relativePart_passes (order : accept ≤ reject) (near : (offset - o).natAbs ≤ accept) :
    relativePart true accept reject offset o = .passes := by
  rw [relativePart, if_neg (by decide), if_neg (by omega), if_pos near]

/-- Within the accept limit, or where the relative part does not apply, it does not fail the check. -/
theorem combineChecks_clear (order : accept ≤ reject) (near : applies = false ∨ (offset - o).natAbs ≤ accept)
    (before : Bool) : combineChecks false (relativePart applies accept reject offset o) before = (false, .clear) := by
  cases applies with
  | false => rfl
  | true => rw [relativePart_passes order (near.resolve_left (by decide))]; rfl

theorem combineChecks_absolute (near : applies = false ∨ (offset - o).natAbs ≤ reject) (before : Bool) :
    combineChecks true (relativePart applies accept reject offset o) before = (true, .absolute) := by
  have notFails : relativePart applies accept reject offset o ≠ .fails := by
    unfold relativePart
    cases applies with
    | false => simp
    | true =>
      rw [if_neg (by decide), if_neg (by have := near.resolve_left (by decide); omega)]
      split <;> simp
  cases h : relativePart applies accept reject offset o with
  | fails => exact absurd h notFails
  | notApplying | passes | undecided => rfl

theorem relativePart_undecided (far : accept < (offset - o).natAbs) (near : (offset - o).natAbs ≤ reject) :
    relativePart true accept reject offset o = .undecided := by
  rw [relativePart, if_neg (by decide), if_neg (by omega), if_neg (by omega)]

end

/-! ### The history (R100, R101) -/

theorem joinHistory_suffix (history : List Int) (offset : Int) : joinHistory history offset <:+ history ++ [offset] :=
  List.drop_suffix ..

theorem joinHistory_length {history : List Int} (offset : Int) (small : history.length ≤ 16) :
    (joinHistory history offset).length = min 16 (history.length + 1) := by
  simp only [joinHistory, List.length_drop, List.length_append, List.length_singleton]
  omega

theorem State.withRecord_same (s : State) (i : Inp) : s.withRecord i s.records[i] = s := by
  have records : s.records.set i s.records[i] = s.records := by
    refine Vector.ext fun k inside => ?_
    rw [Vector.getElem_set]
    split
    · rename_i same
      subst same
      rfl
    · rfl
  rw [State.withRecord, records]

/-- A usable input without a reason is not moved. -/
theorem qualify_usable (state : s.records[i].state = .ready ∨ s.records[i].state = .active) :
    qualify i Reasons.empty s = s := by
  have stays : s.records[i].move (inputCfg s i) (windowFull s i) Reasons.empty = (s.records[i], .nothing) := by
    rcases state with h | h <;> simp only [InputRec.move, h] <;> rfl
  rw [qualify_eq, stays, applyMove_eq, followMove_quiet]
  · exact s.withRecord_same i
  · rcases state with h | h <;> simp [h, -Fin.getElem_fin]
  · rcases state with h | h <;> simp [h, -Fin.getElem_fin]
  · rcases state with h | h <;> simp [h, -Fin.getElem_fin]

theorem active_of_following (law : SelectionLaw s) (active : s.selector.active = some i)
    (notBridging : s.follower.output ≠ .bridging) : s.records[i].state = .active := by
  obtain ⟨agrees, ⟨-, bridging⟩, -⟩ := law
  have isActive := of_decide_eq_true ((agrees i).mpr active)
  rcases isActive with state | ⟨suspect, -⟩
  · exact state
  · exact absurd ((bridging i active).mpr suspect) notBridging

theorem raiseEvent_of_same (content : currentContent before = currentContent s) : raiseEvent before s = s :=
  if_neg fun h => h.2.1 content

theorem syncWant_of_law (idle : s.bus.tx = .idle → wantsFrame s.announcer = false)
    (deferring : s.bus.tx = .deferring → wantsFrame s.announcer = true) : syncWant s = s := by
  have same : wantedTx (wantsFrame s.announcer) s.bus.tx = s.bus.tx := by
    cases tx : s.bus.tx with
    | idle => rw [idle tx]; rfl
    | deferring => rw [deferring tx]; rfl
    | off | sending | silent => rfl
  rw [syncWant_eq, same]
  rfl

/-- The output, its active input and what is announced of it are the same. -/
theorem currentContent_congr (follower : ({ m.follower with history := s.follower.history } : Follower) = s.follower)
    (selector : m.selector = s.selector) (records : m.records = s.records) (loader : m.loader = s.loader) :
    currentContent m = currentContent s := by
  have output : m.follower.output = s.follower.output := by rw [← follower]
  have value : m.follower.value = s.follower.value := by rw [← follower]
  have warm : m.follower.warm = s.follower.warm := by rw [← follower]
  have free : freeRunContent m = freeRunContent s := by simp only [freeRunContent, floorOrWarm, cfg, warm, loader]
  have lock (i : Inp) : lockContent m i = lockContent s i := by
    rw [lockContent, lockContent, inputCfg_congr loader i, cfg, cfg, records, loader]
  have grade : holdoverGrade m = holdoverGrade s := by simp only [holdoverGrade, cfg, value, loader]
  unfold currentContent
  rw [output, selector, free, grade, cfg, cfg, loader]
  simp only [lock]

/-- The completion of the active input, followed by the shelf: the history alone may move. -/
theorem measured_follower (s : State) (i : Inp) (edges : Nat) : (measured s i edges).follower =
    if s.selector.active = some i ∧ s.follower.output = .locked ∧ (completed s i edges).window.length = 8 ∧
      (completed s i edges).freq = false ∧ s.follower.warm = false
    then { s.follower with history := joinHistory s.follower.history ((completed s i edges).lastOffset.getD 0) }
    else s.follower := by
  rw [measured, takeOffset_follower]
  rfl

theorem measured_follower_history (s : State) (i : Inp) (edges : Nat) :
    ({ (measured s i edges).follower with history := s.follower.history } : Follower) = s.follower := by
  rw [measured_follower]
  split <;> rfl

theorem measured_stays (law : SelectionLaw s) : Stays s false (measured s i edges) := by
  have follower := measured_follower_history s i edges
  obtain ⟨⟨-, -, -, loader, -⟩, -, -, -, -, peers, -⟩ := (measured_event s i edges).toEventKept
  have output : (measured s i edges).follower.output = s.follower.output := by rw [← follower]
  have value : (measured s i edges).follower.value = s.follower.value := by rw [← follower]
  have warm : (measured s i edges).follower.warm = s.follower.warm := by rw [← follower]
  refine stays_of_same law ?_ (fun j => by rw [measured_records]; exact ⟨rfl, rfl, rfl, rfl⟩)
    (boundGroup_congr loader (by rw [peers])) ?_
  · rw [measured, takeOffset]
    split <;> rfl
  · simp only [ownGrade, holdoverGrade, floorOrWarm, cfg, output, value, warm, loader]

end
end Sys2Proof.Machine

open Sys2Proof Sys2Proof.Machine

/-- Settles O11. -/
theorem gateCompletionMeasures : Obligations.GateCompletionMeasures := by
  unfold Obligations.GateCompletionMeasures
  intro i edges s
  refine ⟨gateCompletion_waits, fun on runs early small => ?_, fun on runs early records law proving length => ?_⟩
  · have event := completion_event s i edges
    refine ⟨_, gateCompletion_eq on runs early, ?_⟩
    beta_reduce
    rw [completion_monitor]
    refine ⟨?_, ?_, ?_, ?_, ?_, fun full => (completed_full full).1, completed_not_full, ?_, event.settled .., event.settled_port ..⟩
    · rw [completed_window]
      exact joinWindow_suffix ..
    · rw [completed_window]
      exact joinWindow_length _ small
    · rw [completed_eq]
      rfl
    · rw [completed_eq]
      rfl
    · rw [completed_eq]
      rfl
    · rw [completed_eq]
  · refine ⟨_, gateCompletion_eq on runs early, ?_⟩
    beta_reduce
    rw [completion_monitor]
    intro clear
    have full := completed_full_of_seven (edges := edges) length
    refine ⟨fun ⟨n, running⟩ => ?_, fun status => ?_⟩
    · have record := completion_waits (records i) proving clear (by rw [running]; rfl)
      rw [settleEvent_proving, record]
      rw [record]
      exact proving
    · have passes : s.records[i].wtr.passes = true := by
        rcases status with h | h | h <;> rw [h] <;> rfl
      rw [completion_passes (records i) proving full clear passes]
      have record : (applyMove i (s.records[i].passed, .ready s.records[i].wtr) (measured s i edges)).records[i] =
          s.records[i].passed := by rw [applyMove_get, if_pos rfl]
      have selected := settleEvent_records s false false
        (applyMove i (s.records[i].passed, .ready s.records[i].wtr) (measured s i edges)) i
      rw [record] at selected
      refine ⟨settleEvent_ready (i := i) s false false (by rw [record]; rfl), by rw [selected]; rfl, selected, fun room => ?_⟩
      have first := (settleEvent_grown s false false _).first (s := s)
        (m := applyMove i (s.records[i].passed, .ready s.records[i].wtr) (measured s i edges))
        ((applyMove_log_ready ..).trans (by rw [measured_log])) room
      rwa [wtr_code proving passes] at first

/-- Settles O12. -/
theorem frequencyCheckTable : Obligations.FrequencyCheckTable := by
  unfold Obligations.FrequencyCheckTable
  intro i edges s
  refine ⟨fun output => by simp only [outputOffset, output], fun output => by simp only [outputOffset, output],
    fun notFree notHold a n active last => ?_, fun output => by simp only [synthCommand, output],
    fun output => by simp only [synthCommand, output], fun output => by simp only [synthCommand, output],
    fun output a active => ?_, fun on runs early length order => ?_⟩
  · unfold outputOffset
    split <;> rename_i output
    · exact absurd output notFree
    · exact absurd output notHold
    all_goals simp only [active, last, Option.getD_some]
  · rcases output with output | output <;> simp only [synthCommand, output, active]
  · have full := completed_full_of_seven (edges := edges) length
    obtain ⟨last, check⟩ := completed_full full
    refine ⟨_, gateCompletion_eq on runs early, ?_⟩
    beta_reduce
    rw [completion_monitor]
    refine ⟨_, last, ?_⟩
    generalize windowedOffset (completed s i edges).window (inputCfg s i).freq = offset at *
    rw [frequencyCheck, absoluteFails_eq, relativeApplies] at check
    dsimp only
    refine ⟨fun fails applies far => ?_, fun fails near => ?_, fun passes applies far => ?_, fun passes near => ?_,
      fun passes applies far near => ?_⟩
    · rw [fails, applies, relativePart_fails far] at check
      exact Prod.mk.inj check
    · rw [fails, combineChecks_absolute near] at check
      exact Prod.mk.inj check
    · rw [passes, applies, relativePart_fails far] at check
      exact Prod.mk.inj check
    · rw [passes, combineChecks_clear order near] at check
      exact Prod.mk.inj check
    · rw [passes, applies, relativePart_undecided far near] at check
      exact Prod.mk.inj check

/-- Settles O13. -/
theorem freqMovesInput : Obligations.FreqMovesInput := by
  unfold Obligations.FreqMovesInput
  intro i edges s on runs early records law used length
  refine ⟨_, gateCompletion_eq on runs early, ?_⟩
  have body := completion_body (edges := edges) on runs early
  have full := completed_full_of_seven (edges := edges) length
  beta_reduce
  rw [completion_monitor]
  refine ⟨fun was is => ?_, fun was is barred => ⟨fun others => ?_, fun none seen => ⟨fun configured => ?_, fun unconfigured => ?_⟩⟩⟩
  · have reasons : checkedReasons s i edges = { s.records[i].reasons with freq := true } := by
      rw [checkedReasons, was, is]
      rfl
    have move : qualify i (checkedReasons s i edges) (measured s i edges) = applyMove i
        (s.records[i].barredBy { s.records[i].reasons with freq := true },
          if s.records[i].state = .barred then .nothing else .barred) (measured s i edges) := by
      rw [qualify_eq, measured_records, reasons, InputRec.move_barring (records i) used]
      · exact fun h => by simpa [Reasons.empty] using congrArg Reasons.freq h
      · exact .inl fun h => by simpa [Reasons.empty] using congrArg Reasons.freq h
    have record : (qualify i (checkedReasons s i edges) (measured s i edges)).records[i] =
        s.records[i].barredBy { s.records[i].reasons with freq := true } := by
      rw [move, applyMove_get, if_pos rfl]
    have left := settleEvent_barred s false false
      (m := qualify i (checkedReasons s i edges) (measured s i edges)) (i := i) (by rw [record]; rfl)
    rw [record] at left
    obtain ⟨active, force⟩ := barred_left (i := i) (body.law records law).2 (by rw [left]; rfl)
    rw [left]
    refine ⟨rfl, rfl, ?_, rfl, rfl, rfl, active, force, fun notBarred room => ?_⟩
    · simp [InputRec.barredBy, Reasons.hard]
    · refine (settleEvent_grown s false false _).first (s := s) ?_ room
      rw [move, if_neg notBarred]
      exact (applyMove_log_barred ..).trans (by rw [measured_log])
  all_goals
    have reasons : checkedReasons s i edges = { s.records[i].reasons with freq := false } := by
      rw [checkedReasons, was, is]
      rfl
    have barred' : (measured s i edges).records[i].state = .barred := by rw [measured_records]; exact barred
  · have record := qualify_joined (before := s) (measured_records s i edges ▸ records i) barred' others
      (fun hard => by
        rw [measured_records]
        simp only [Reasons.hard, Bool.or_false] at hard
        rw [Reasons.hard, hard, Bool.true_or])
    rw [reasons, record, measured_records]
    exact ⟨barred, rfl⟩
  · have entry : entryWtr (measured s i edges).records[i].hardSeen (inputCfg (measured s i edges) i).wtr = .running 0 := by
      rw [measured_records, measured_inputCfg, seen, entryWtr, if_pos rfl, if_neg configured]
    rw [reasons, none, qualify_proves_waits barred' (.inr (by rw [entry]; rfl))]
    exact ⟨rfl, entry⟩
  · have entry : entryWtr (measured s i edges).records[i].hardSeen (inputCfg (measured s i edges) i).wtr = .served := by
      rw [measured_records, measured_inputCfg, seen, entryWtr, if_pos rfl, if_pos unconfigured]
    rw [reasons, none, qualify_proves_passes barred' (by rw [measured_windowFull]; exact decide_eq_true full)
      (by rw [entry]; rfl)]
    exact settleEvent_ready (i := i) s false false (by rw [applyMove_get, if_pos rfl]; rfl)

/-- Settles O14: an active input that the shelf follows has no reason, so the completion reaches the history alone. -/
theorem historyTakesOffsets : Obligations.HistoryTakesOffsets := by
  unfold Obligations.HistoryTakesOffsets
  intro i edges s on runs early records law busLaw active output short small
  refine ⟨_, gateCompletion_eq on runs early, ?_⟩
  beta_reduce
  rw [completion_monitor]
  intro clear
  have state : s.records[i].state = .active := active_of_following law active (by rcases output with h | h <;> simp [h])
  have reasons : s.records[i].reasons = Reasons.empty := ((records i).1 (.inr (.inr state))).1
  have unmoved : qualify i (checkedReasons s i edges) (measured s i edges) = measured s i edges := by
    rw [checkedReasons_clear reasons clear]
    refine qualify_usable (.inr ?_)
    rw [measured_records]
    exact state
  obtain ⟨-, -, -, -, -, idle, deferring⟩ := busLaw
  obtain ⟨⟨-, -, -, loader, -⟩, -⟩ := (measured_event s i edges).toEventKept
  have selector : (measured s i edges).selector = s.selector := by
    rw [measured, takeOffset]
    split <;> rfl
  have bus : (measured s i edges).bus = s.bus := by
    rw [measured, takeOffset]
    split <;> rfl
  have announcer : (measured s i edges).announcer = s.announcer := by
    rw [measured, takeOffset]
    split <;> rfl
  have content := currentContent_congr (measured_follower_history s i edges) selector (measured_records s i edges) loader
  have settled : settleEvent s false false (measured s i edges) = measured s i edges := by
    rw [(measured_stays law).settleEvent_eq, raiseEvent_of_same content.symm]
    exact syncWant_of_law (by rw [bus, announcer]; exact idle) (by rw [bus, announcer]; exact deferring)
  rw [unmoved, settled]
  refine ⟨by rw [measured_records], selector, measured_log .., bus, measured_follower_history s i edges,
    fun ⟨locked, full, cold⟩ => ?_, fun other => ?_⟩
  · rw [measured_follower, if_pos ⟨active, locked, full, clear, cold⟩, (completed_full full).1]
    exact ⟨joinHistory_suffix .., joinHistory_length _ short⟩
  · rw [measured_follower, if_neg]
    rintro ⟨-, locked, full, -, cold⟩
    rcases other with h | h | h
    · simp [h] at locked
    · exact h full
    · simp [h] at cold

end


section
/-! PROOF. O9: what SIGNAL arising and clearing does to an input, to the log and to the output. -/

namespace Sys2Proof.Machine

section

variable {s t m before : State} {i : Inp} {r : InputRec} {high edge : Bool}

/-! ### The event (R21) -/

/-- The state in which the Qualifier finds a change of SIGNAL. -/
def signalFound (s : State) (i : Inp) (high edge : Bool) : State :=
  (s.withPins (setLosPin s.pins i high)).withMonitor i (regate (pointMonitor s i high edge))

theorem pointed_changed {present : Bool} (was : s.monitors[i].signal = !present)
    (is : (pointMonitor s i high edge).signal = present) : pointed s i high edge =
      settleEvent (s.withPins (setLosPin s.pins i high)) false false
        (qualify i (withSignal s.records[i].reasons present) (signalFound s i high edge)) := by
  rw [pointed, if_neg (by rw [is, was]; simp), signalMoved, is]
  rfl

theorem changed_body {present : Bool} (on : measuring s i = true) (was : s.monitors[i].signal = !present)
    (is : (pointMonitor s i high edge).signal = present) :
    Body (.msPoint i high edge) (s.withPins (setLosPin s.pins i high)) false false
      (qualify i (withSignal s.records[i].reasons present) (signalFound s i high edge)) := by
  cases present with
  | true =>
    have gate : regate (pointMonitor s i high edge) = abandonGate (pointMonitor s i high edge) := if_pos is
    rw [signalFound, gate]
    exact .arises on was is
  | false =>
    have gate : regate (pointMonitor s i high edge) = beginGate (pointMonitor s i high edge) := if_neg (by simp [is])
    rw [signalFound, gate]
    exact .clears on was is

theorem pointed_signal (s : State) (i : Inp) (high edge : Bool) :
    (pointed s i high edge).monitors[i].signal = (pointMonitor s i high edge).signal := by
  obtain ⟨-, monitor, -⟩ := msPoint_pointed s i high edge
  obtain ⟨-, -, ⟨-, -, signal⟩, -⟩ := pointedMonitor_fields s i high edge
  rw [monitor, signal]

/-- The laws at the end of the event. -/
theorem changed_law {present : Bool} (on : measuring s i = true) (was : s.monitors[i].signal = !present)
    (is : (pointMonitor s i high edge).signal = present) (records : RecordsLawful s) (law : SelectionLaw s) :
    RecordsLawful (pointed s i high edge) ∧ SelectionLaw (pointed s i high edge) := by
  rw [pointed_changed was is]
  exact (changed_body on was is).law records law

/-- The record of the input after the change, but for the Selector's moves. -/
theorem changed_move {present : Bool} (was : s.monitors[i].signal = !present)
    (is : (pointMonitor s i high edge).signal = present) : SelectorMove
      (s.records[i].move (inputCfg s i) (windowFull (signalFound s i high edge) i)
        (withSignal s.records[i].reasons present)).1 (pointed s i high edge).records[i] := by
  have move := settleEvent_moves (s.withPins (setLosPin s.pins i high)) false false
    (qualify i (withSignal s.records[i].reasons present) (signalFound s i high edge)) i
  rw [qualify_self] at move
  rw [pointed_changed was is]
  exact move

/-- A 1 ms point keeps the grade, the hop count and the path of the record. -/
theorem pointed_grade (s : State) (i : Inp) (high edge : Bool) :
    SameGrade s.records[i] (pointed s i high edge).records[i] := by
  by_cases same : (pointMonitor s i high edge).signal = s.monitors[i].signal
  · rw [pointed, if_pos same]
    exact ⟨rfl, rfl, rfl, rfl⟩
  · have was : s.monitors[i].signal = !(pointMonitor s i high edge).signal := by
      revert same
      cases s.monitors[i].signal <;> cases (pointMonitor s i high edge).signal <;> decide
    have selected := (changed_move was rfl).onlySelected
    obtain ⟨raw, effective, hop, path⟩ := s.records[i].move_grade (inputCfg s i)
      (windowFull (signalFound s i high edge) i) (withSignal s.records[i].reasons (pointMonitor s i high edge).signal)
    rw [SameGrade, selected]
    exact ⟨raw, effective, hop, path⟩

/-! ### SIGNAL arising (R47, R48) -/

theorem reasons_of_usable (law : RecordLaw r) (state : r.state = .ready ∨ r.state = .active) : RecordBare r :=
  law.1 (.inr state)

/-- A usable input with a hold-off is suspended. -/
theorem arises_suspends (was : s.monitors[i].signal = false) (is : (pointMonitor s i high edge).signal = true)
    (law : RecordLaw s.records[i]) (state : s.records[i].state = .ready ∨ s.records[i].state = .active)
    (holdOff : 0 < (inputCfg s i).holdOff) : SelectorMove
      (s.records[i].suspend (inputCfg s i) (if s.records[i].state = .ready then .ready else .active))
      (pointed s i high edge).records[i] := by
  have move := changed_move (present := true) was is
  rwa [(reasons_of_usable law state).1, withSignal, InputRec.move_suspends state holdOff] at move

/-- Any other used input is barred. -/
theorem arises_bars (was : s.monitors[i].signal = false) (is : (pointMonitor s i high edge).signal = true)
    (law : RecordLaw s.records[i]) (bars : (s.records[i].state = .ready ∨ s.records[i].state = .active) ∧
      (inputCfg s i).holdOff = 0 ∨ s.records[i].state = .proving ∨ s.records[i].state = .barred) :
    (pointed s i high edge).records[i] = s.records[i].barredBy { s.records[i].reasons with signal := true } ∧
    (s.records[i].state ≠ .barred →
      LogGrown (applyMove i (s.records[i].barredBy { s.records[i].reasons with signal := true }, .barred)
        (signalFound s i high edge)) (pointed s i high edge)) := by
  have used : s.records[i].state ≠ .off := by
    rcases bars with ⟨h | h, -⟩ | h | h <;> simp [h, -Fin.getElem_fin]
  have move : s.records[i].move (inputCfg s i) (windowFull (signalFound s i high edge) i)
      (withSignal s.records[i].reasons true) = _ :=
    InputRec.move_barring law used (fun h => by simpa [withSignal, Reasons.empty] using congrArg Reasons.signal h) (by tauto)
  constructor
  · have selected := changed_move (present := true) was is
    rw [move] at selected
    exact selected.eq_of_not_fit rfl
  · intro notBarred
    have event : qualify i (withSignal s.records[i].reasons true) (signalFound s i high edge) = _ :=
      congrArg (fun n => applyMove i n (signalFound s i high edge)) move
    rw [pointed_changed (present := true) was is, event, if_neg notBarred]
    exact settleEvent_grown ..

/-! ### A shelf that keeps following its input (R58, R96, R97) -/

/-- The active input stays one that the Selector may choose, with its grade, and the output stays off the own oscillator:
the decision stands. -/
theorem stays_of_followed (law : SelectionLaw s) (settled : sourceOf s = decided s) (active : s.selector.active = some i)
    (selector : m.selector = s.selector) (loader : m.loader = s.loader) (peers : m.peers = s.peers)
    (others : ∀ j : Inp, j ≠ i → m.records[j] = s.records[j]) (fit : m.records[i].fit = s.records[i].fit)
    (grade : SameGrade s.records[i] m.records[i]) (notBarred : m.records[i].state ≠ .barred)
    (output : m.follower.output ≠ .holdover) (warm : m.follower.warm = s.follower.warm) : Stays s false m where
  force f force barred := by
    obtain ⟨-, -, -, -, forced, -⟩ := law
    have : some i = some f := active.symm.trans (forced f (by rw [← selector]; exact force))
    obtain rfl : i = f := Option.some_inj.mp this
    exact notBarred barred
  current _ := by
    have source : sourceOf s = .input i := (sourceOf_input_iff s i).mpr active
    have source' : sourceOf m = .input i := (sourceOf_input_iff m i).mpr (by rw [selector]; exact active)
    have output' : s.follower.output ≠ .holdover := fun h => by
      obtain ⟨-, ⟨own, -⟩, -⟩ := law
      have := own.mpr (.inr h)
      rw [active] at this
      cases this
    have own : ownGrade m = ownGrade s := by
      simp only [ownGrade, if_neg output, if_neg output', floorOrWarm, warm, cfg, loader]
    have record (j : Inp) : m.records[j].fit = s.records[j].fit ∧ m.records[j].effective = s.records[j].effective ∧
        m.records[j].hop = s.records[j].hop := by
      by_cases here : j = i
      · subst here
        exact ⟨fit, grade.2.1, grade.2.2.1⟩
      · rw [others j here]
        exact ⟨rfl, rfl, rfl⟩
    have ranking : SameRanking s m :=
      { loader := by rw [loader]
        eligible := fun j => eligible_congr (record j).1 (record j).2.1
          (boundGroup_congr loader (by rw [peers]) j) own
        effective := fun j => (record j).2.1
        hop := fun j => (record j).2.2 }
    have same : decided m = decided s := ranking.decided_eq (by rw [selector]) (by rw [selector]) fun force best => by
      rw [source, decided_of_best_none force best] at settled
      unfold ownOscillator at settled
      repeat' split at settled
      all_goals cases settled
    refine ⟨source'.trans source.symm, by rw [same, ← settled, source, source'], fun idle => ?_⟩
    rw [selector, active] at idle
    cases idle

theorem computeValue_congr (follower : t.follower = s.follower)
    (effective : t.records[i].effective = s.records[i].effective) :
    (computeValue (some i) t).follower.value = (computeValue (some i) s).follower.value := by
  unfold computeValue
  simp only [follower, effective]
  split
  · rfl
  · rw [follower]

/-- The active input has entered SUSPECT: the shelf bridges, and nothing else of the Selector or the log moves. -/
theorem arises_bridges (was : s.monitors[i].signal = false) (is : (pointMonitor s i high edge).signal = true)
    (records : RecordsLawful s) (law : SelectionLaw s) (settled : sourceOf s = decided s)
    (state : s.records[i].state = .active) (holdOff : 0 < (inputCfg s i).holdOff) :
    (pointed s i high edge).records[i] = s.records[i].suspend (inputCfg s i) .active ∧
    (pointed s i high edge).selector = s.selector ∧ (pointed s i high edge).log = s.log ∧
    (pointed s i high edge).follower = { s.follower with
      value := (computeValue (some i) s).follower.value, output := .bridging, settle := none
      bridging := some (if s.follower.output = .locked then .locked else .acquiring) } := by
  have bare := reasons_of_usable (records i) (.inr state)
  have active : s.selector.active = some i := (law.1 i).mp (decide_eq_true (.inl state))
  have moved : qualify i (withSignal s.records[i].reasons true) (signalFound s i high edge) =
      enterBridging i ((signalFound s i high edge).withRecord i (s.records[i].suspend (inputCfg s i) .active)) := by
    have move : s.records[i].move (inputCfg s i) (windowFull (signalFound s i high edge) i)
        (withSignal s.records[i].reasons true) = (s.records[i].suspend (inputCfg s i) .active, .nothing) := by
      rw [bare.1, withSignal, InputRec.move_suspends (.inr state) holdOff, state, if_neg (by decide)]
    have event : qualify i (withSignal s.records[i].reasons true) (signalFound s i high edge) = _ :=
      congrArg (fun n => applyMove i n (signalFound s i high edge)) move
    rw [event, applyMove_eq]
    exact if_pos ⟨state, rfl⟩
  have record : (enterBridging i ((signalFound s i high edge).withRecord i (s.records[i].suspend (inputCfg s i) .active))).records[i] =
      s.records[i].suspend (inputCfg s i) .active := by rw [enterBridging_records, State.withRecord_self]
  have follower := enterBridging_follower i
    ((signalFound s i high edge).withRecord i (s.records[i].suspend (inputCfg s i) .active))
  rw [computeValue_congr (t := (signalFound s i high edge).withRecord i (s.records[i].suspend (inputCfg s i) .active))
    (s := s) rfl (by rw [State.withRecord_self]; rfl)] at follower
  have stays : Stays (s.withPins (setLosPin s.pins i high)) false
      (enterBridging i ((signalFound s i high edge).withRecord i (s.records[i].suspend (inputCfg s i) .active))) := by
    refine stays_of_followed (i := i) law settled active (by rw [enterBridging_selector]; rfl)
      (by rw [enterBridging_loader]; rfl) (by rw [enterBridging_peers]; rfl) (fun j other => ?_) ?_ ?_ ?_ ?_ ?_
    · rw [enterBridging_records, State.withRecord_get, if_neg (Ne.symm other)]
      rfl
    · rw [record]
      exact (decide_eq_true (Or.inr (Or.inr rfl))).trans (decide_eq_true (Or.inr (Or.inl state))).symm
    · rw [record]
      exact ⟨rfl, rfl, rfl, rfl⟩
    · rw [record]
      exact fun h => by cases h
    · rw [follower]
      exact fun h => by cases h
    · rw [follower]
      rfl
  obtain ⟨records', selector, follower', log⟩ := stays.settleEvent_fields false
  rw [pointed_changed (present := true) was is, moved, records', selector, follower', log, record, follower]
  exact ⟨rfl, by rw [enterBridging_selector]; rfl, by rw [enterBridging_log]; rfl, rfl⟩

/-! ### SIGNAL clearing (R50, R52) -/

theorem reasons_of_suspect (law : RecordLaw r) (state : r.state = .suspect) : withSignal r.reasons false = Reasons.empty := by
  obtain ⟨-, -, -, law⟩ := law
  rw [(law state).1]
  rfl

/-- A SUSPECT input returns to its origin. -/
theorem clears_resumes (was : s.monitors[i].signal = true) (is : (pointMonitor s i high edge).signal = false)
    (law : RecordLaw s.records[i]) (state : s.records[i].state = .suspect) :
    SelectorMove s.records[i].resume (pointed s i high edge).records[i] := by
  have move := changed_move (present := false) was is
  rwa [reasons_of_suspect law state, InputRec.move_resumes state] at move

theorem clears_returns (was : s.monitors[i].signal = true) (is : (pointMonitor s i high edge).signal = false)
    (records : RecordsLawful s) (law : SelectionLaw s) (settled : sourceOf s = decided s)
    (state : s.records[i].state = .suspect) (origin : s.records[i].origin = some .active) :
    (pointed s i high edge).records[i] = s.records[i].resume ∧ (pointed s i high edge).selector = s.selector ∧
    (pointed s i high edge).log = s.log ∧ (pointed s i high edge).follower =
      if s.follower.bridging = some .locked then { s.follower with output := .locked, bridging := none }
      else { s.follower with output := .acquiring, bridging := none, settle := settleStart s } := by
  have active : s.selector.active = some i := (law.1 i).mp (decide_eq_true (.inr ⟨state, origin⟩))
  have resumed := s.records[i].resume_active origin
  have moved : qualify i (withSignal s.records[i].reasons false) (signalFound s i high edge) =
      leaveBridging ((signalFound s i high edge).withRecord i s.records[i].resume) := by
    have move : s.records[i].move (inputCfg s i) (windowFull (signalFound s i high edge) i)
        (withSignal s.records[i].reasons false) = (s.records[i].resume, .nothing) := by
      rw [reasons_of_suspect (records i) state, InputRec.move_resumes state]
    have event : qualify i (withSignal s.records[i].reasons false) (signalFound s i high edge) = _ :=
      congrArg (fun n => applyMove i n (signalFound s i high edge)) move
    rw [event, applyMove_eq]
    have here : (signalFound s i high edge).records[i] = s.records[i] := rfl
    rw [followMove, here, if_neg (by simp [state, -Fin.getElem_fin]), if_pos ⟨state, resumed⟩]
    rfl
  have record : (leaveBridging ((signalFound s i high edge).withRecord i s.records[i].resume)).records[i] =
      s.records[i].resume := by rw [leaveBridging_records, State.withRecord_self]
  have follower := leaveBridging_follower ((signalFound s i high edge).withRecord i s.records[i].resume)
  have stays : Stays (s.withPins (setLosPin s.pins i high)) false
      (leaveBridging ((signalFound s i high edge).withRecord i s.records[i].resume)) := by
    refine stays_of_followed (i := i) law settled active (by rw [leaveBridging_selector]; rfl)
      (by rw [leaveBridging_loader]; rfl) (by rw [leaveBridging_peers]; rfl) (fun j other => ?_) ?_ ?_ ?_ ?_ ?_
    · rw [leaveBridging_records, State.withRecord_get, if_neg (Ne.symm other)]
      rfl
    · rw [record]
      exact (decide_eq_true (Or.inr (Or.inl resumed))).trans (decide_eq_true (Or.inr (Or.inr state))).symm
    · rw [record]
      exact ⟨rfl, rfl, rfl, rfl⟩
    · rw [record, resumed]
      decide
    · rw [follower]
      split <;> exact fun h => by cases h
    · rw [follower]
      split <;> rfl
  obtain ⟨records', selector, follower', log⟩ := stays.settleEvent_fields false
  rw [pointed_changed (present := false) was is, moved, records', selector, follower', log, record, follower]
  exact ⟨rfl, by rw [leaveBridging_selector]; rfl, by rw [leaveBridging_log]; rfl, rfl⟩

/-- The gate that starts as SIGNAL clears finds the window that SIGNAL emptied, so a BARRED input stops at PROVING. -/
theorem clears_proves (was : s.monitors[i].signal = true) (is : (pointMonitor s i high edge).signal = false)
    (law : RecordLaw s.records[i]) (empty : s.monitors[i].window = []) (state : s.records[i].state = .barred)
    (alone : s.records[i].reasons = { Reasons.empty with signal := true }) :
    (pointed s i high edge).records[i] = s.records[i].proven (inputCfg s i) ∧ s.records[i].hardSeen = true := by
  have seen : s.records[i].hardSeen = true := by
    obtain ⟨-, law, -⟩ := law
    obtain ⟨-, -, -, -, seen⟩ := law state
    exact seen (by rw [alone]; rfl)
  have notFull : windowFull (signalFound s i high edge) i = false := by
    have gate : regate (pointMonitor s i high edge) = beginGate (pointMonitor s i high edge) := if_neg (by simp [is])
    obtain ⟨-, window, -⟩ := pointMonitor_keeps s i high edge
    rw [windowFull, signalFound, State.withMonitor_self, gate, beginGate, window, empty]
    rfl
  rw [pointed_changed (present := false) was is, alone]
  exact ⟨qualify_proves_waits (s := signalFound s i high edge) state (.inl notFull), seen⟩

/-- The synthesizer holds the offset last shown while the shelf bridges (R93). -/
theorem synthCommand_bridged (output : t.follower.output = .bridging) (active : t.selector.active = some i)
    (active' : s.selector.active = some i) (following : s.follower.output = .acquiring ∨ s.follower.output = .locked)
    (last : t.monitors[i].lastOffset = s.monitors[i].lastOffset) : synthCommand t = .holdAt (outputOffset s) := by
  have shown : outputOffset t = outputOffset s := by
    rcases following with h | h <;> simp only [outputOffset, output, h, active, active', last]
  simp only [synthCommand, output, shown]

theorem SelectorMove.of_usable {r r' : InputRec} (move : SelectorMove r r') (usable : r.state = .ready ∨ r.state = .active) :
    (r'.state = .ready ∨ r'.state = .active) ∧ r' = { r with state := r'.state } := by
  cases move with
  | same => exact ⟨usable, rfl⟩
  | usable state state' chosen => exact ⟨chosen, rfl⟩
  | suspect state => rcases usable with h | h <;> simp [h] at state

theorem InputRec.resume_usable (r : InputRec) : r.resume.state = .ready ∨ r.resume.state = .active := by
  by_cases h : r.origin = some .active
  · exact .inr (r.resume_active h)
  · exact .inl (r.resume_ready h)

/-- The inputs that SIGNAL bars as it arises were usable without a hold-off, or in PROVING. -/
theorem arises_barred (was : s.monitors[i].signal = false) (is : (pointMonitor s i high edge).signal = true)
    (law : RecordLaw s.records[i]) (notBarred : s.records[i].state ≠ .barred)
    (barred : (pointed s i high edge).records[i].state = .barred) :
    ((s.records[i].state = .ready ∨ s.records[i].state = .active) ∧ (inputCfg s i).holdOff = 0 ∨
      s.records[i].state = .proving) ∧ s.records[i].reasons = Reasons.empty := by
  have move := changed_move (present := true) was is
  obtain ⟨bare, -, proving, suspectLaw⟩ := law
  have usable (state : s.records[i].state = .ready ∨ s.records[i].state = .active) :
      (inputCfg s i).holdOff = 0 ∧ s.records[i].reasons = Reasons.empty := by
    refine ⟨?_, (bare (.inr state)).1⟩
    by_contra holdOff
    rw [(bare (.inr state)).1, withSignal, InputRec.move_suspends state (Nat.pos_of_ne_zero holdOff)] at move
    have suspect := move.suspect_iff.mpr rfl
    rw [barred] at suspect
    cases suspect
  cases state : s.records[i].state with
  | off =>
    rw [InputRec.move_off _ _ _ _ state] at move
    have same := move.eq_of_not_fit (notFit_of_state state (by decide))
    rw [same, state] at barred
    cases barred
  | ready => exact ⟨.inl ⟨.inl rfl, (usable (.inl state)).1⟩, (usable (.inl state)).2⟩
  | active => exact ⟨.inl ⟨.inr rfl, (usable (.inr state)).1⟩, (usable (.inr state)).2⟩
  | barred => exact absurd state notBarred
  | proving => exact ⟨.inr rfl, (proving state).1⟩
  | suspect =>
    have stays : (s.records[i].move (inputCfg s i) (windowFull (signalFound s i high edge) i)
        (withSignal s.records[i].reasons true)).1 = s.records[i] := by
      rw [(suspectLaw state).1]
      simp only [InputRec.move, state]
      rfl
    rw [stays] at move
    rw [move.suspect_iff.mpr state] at barred
    cases barred

/-- A bridging shelf in the words of R96, by where it came from. -/
theorem bridged_follower (law : SelectionLaw s)
    (follower : t.follower = { s.follower with
      value := (computeValue (some i) s).follower.value, output := .bridging, settle := none
      bridging := some (if s.follower.output = .locked then .locked else .acquiring) })
    (effective : t.records[i].effective = s.records[i].effective) :
    (s.follower.output = .acquiring →
      t.follower = { s.follower with output := .bridging, bridging := some .acquiring, settle := none }) ∧
    (s.follower.output = .locked → s.follower.history.length ≠ 16 →
      t.follower = { s.follower with output := .bridging, bridging := some .locked }) ∧
    (s.follower.output = .locked → s.follower.history.length = 16 →
      t.follower = { s.follower with output := .bridging, bridging := some .locked, value := t.follower.value } ∧
        ValueMade i s t) := by
  obtain ⟨-, -, ⟨-, settle, -⟩, -⟩ := law
  have noSettle (locked : s.follower.output = .locked) : s.follower.settle = none := by
    by_contra runs
    have := settle.mp runs
    rw [locked] at this
    cases this
  refine ⟨fun output => ?_, fun output short => ?_, fun output full => ?_⟩
  · rw [follower, computeValue_of_not_locked _ (by simp [output]), output, if_neg (by decide)]
  · rw [follower, computeValue_of_not_locked _ (by simp [short]), output, if_pos rfl, ← noSettle output]
  · have value := computeValue_some i output full
    refine ⟨?_, ?_⟩
    · rw [follower, output, if_pos rfl, ← noSettle output]
    · rw [ValueMade, follower, effective]
      exact value

theorem origin_ready (law : RecordLaw t.records[i]) (law' : SelectionLaw t) (suspect : t.records[i].state = .suspect)
    (idle : t.selector.active ≠ some i) : t.records[i].origin = some .ready := by
  obtain ⟨-, -, -, law⟩ := law
  obtain ⟨-, -, -, -, origin⟩ := law suspect
  have notActive : t.records[i].origin ≠ some .active := fun h =>
    idle ((law'.1 i).mp (decide_eq_true (.inr ⟨suspect, h⟩)))
  cases found : t.records[i].origin with
  | none => exact absurd found origin
  | some came =>
    cases came with
    | ready => rfl
    | active => exact absurd found notActive

theorem following_of_active (law : SelectionLaw s) (active : s.selector.active = some i)
    (notSuspect : s.records[i].state ≠ .suspect) : s.follower.output = .acquiring ∨ s.follower.output = .locked := by
  obtain ⟨-, ⟨own, bridging⟩, -⟩ := law
  have notOwn : ¬(s.follower.output = .freeRun ∨ s.follower.output = .holdover) := fun h => by
    rw [own.mpr h] at active
    cases active
  have notBridging : s.follower.output ≠ .bridging := fun h => notSuspect ((bridging i active).mp h)
  cases output : s.follower.output <;> simp_all

end
end Sys2Proof.Machine

open Sys2Proof Sys2Proof.Machine

/-- Settles O9. -/
theorem signalMovesInput : Obligations.SignalMovesInput := by
  unfold Obligations.SignalMovesInput
  intro i high edge s on records measuringLaw
  have noHold : s.hold = none := ((running_iff s).mp (measuring_running on)).1
  have signal := pointed_signal s i high edge
  obtain ⟨-, monitor, others, -⟩ := msPoint_pointed s i high edge
  refine ⟨_, msPoint_eq noHold, fun was is => ?_, fun was is => ?_, ?_⟩
  · rw [signal] at is
    refine ⟨fun state holdOff => ?_, fun bars => ?_, fun notBarred barred room => ?_, fun law state holdOff idle => ?_,
      fun law settled state holdOff => ?_⟩
    · have bare := reasons_of_usable (records i) state
      have move := arises_suspends was is (records i) state holdOff
      rw [move.onlySelected]
      exact ⟨move.suspect_iff.mpr rfl, rfl, bare.2.1, bare.2.2.2.1, rfl⟩
    · rw [(arises_bars was is (records i) bars).1]
      exact ⟨rfl, rfl, by simp [InputRec.barredBy, Reasons.hard], rfl, rfl, rfl⟩
    · obtain ⟨bars, reasons⟩ := arises_barred was is (records i) notBarred barred
      obtain ⟨-, grown⟩ := arises_bars was is (records i) (bars.imp_right .inl)
      have first := (grown notBarred).first (s := s) (applyMove_log_barred ..) room
      rw [reasons] at first
      exact first
    · have move := arises_suspends was is (records i) (.inl state) holdOff
      obtain ⟨records', law'⟩ := changed_law (present := true) on was is records law
      exact origin_ready (records' i) law' (move.suspect_iff.mpr rfl) idle
    · obtain ⟨record, selector, log, follower⟩ := arises_bridges was is records law (settled (measuring_running on)) state holdOff
      have active : s.selector.active = some i := (law.1 i).mp (decide_eq_true (.inl state))
      have following := following_of_active law active (by rw [state]; decide)
      have last : (pointed s i high edge).monitors[i].lastOffset = s.monitors[i].lastOffset := by
        obtain ⟨-, -, -, last, -⟩ := pointedMonitor_fields s i high edge
        rw [monitor, last]
      exact ⟨by rw [record]; rfl, selector, log, synthCommand_bridged (by rw [follower]) (by rw [selector]; exact active)
        active following last, bridged_follower law follower (pointed_grade s i high edge).2.1⟩
  · rw [signal] at is
    refine ⟨fun state => ?_, fun state others => ?_, fun state alone => ?_⟩
    · have move := clears_resumes was is (records i) state
      obtain ⟨-, -, -, suspectLaw⟩ := records i
      obtain ⟨-, seen, -, wtr, -⟩ := suspectLaw state
      obtain ⟨usable, only⟩ := move.of_usable (InputRec.resume_usable _)
      refine ⟨usable, by rw [only]; rfl, by rw [only]; exact seen, by rw [only]; exact wtr,
        by rw [only]; rfl, by rw [only]; rfl, fun law origin => ?_, fun law settled origin => ?_⟩
      · obtain ⟨-, ⟨agrees, -⟩⟩ := changed_law (present := false) on was is records law
        refine ⟨fun idle => usable.resolve_right fun h => idle ((agrees i).mp (decide_eq_true (.inl h))), fun active => ?_⟩
        refine usable.resolve_left fun h => ?_
        have isActive := (agrees i).mpr active
        rw [InputRec.isActive_eq_false (by simp [h, -Fin.getElem_fin])] at isActive
        cases isActive
      · obtain ⟨record, selector, log, follower⟩ := clears_returns was is records law (settled (measuring_running on)) state origin
        have active : s.selector.active = some i := (law.1 i).mp (decide_eq_true (.inr ⟨state, origin⟩))
        refine ⟨by rw [record]; exact InputRec.resume_active _ origin, selector, log, ?_, fun came => ?_, fun came => ?_⟩
        · rw [synthCommand, follower, selector]
          by_cases came : s.follower.bridging = some .locked
          · simp only [if_pos came, active]
          · simp only [if_neg came, active]
        · rw [follower, if_pos came]
        · rw [follower, if_neg (by simp [came])]
          rfl
    · have record : (pointed s i high edge).records[i] =
          { s.records[i] with reasons := { s.records[i].reasons with signal := false } } := by
        rw [pointed_changed (present := false) was is]
        exact qualify_joined (s := signalFound s i high edge) (records i) state others fun hard => by
          simp only [withSignal, Reasons.hard, Bool.false_or] at hard
          exact (congrArg (s.records[i].reasons.signal || ·) hard).trans (Bool.or_true _)
      rw [record]
      exact ⟨state, rfl, rfl⟩
    · obtain ⟨-, empty, -⟩ := (measuringLaw i).1 on
      obtain ⟨record, seen⟩ := clears_proves was is (records i) (empty was) state alone
      rw [record]
      refine ⟨rfl, rfl, rfl, ?_⟩
      rw [InputRec.proven, seen]
      rfl
  · obtain ⟨raw, effective, hop, path⟩ := pointed_grade s i high edge
    exact ⟨raw, effective, hop, path, others⟩

end


section
/-! PROOF. What an evaluation makes of the shelf (R81, R94), and O20, O21, O23, O28: the events of the holdover value and
of warm-up, FORCE and UNFORCE. -/

namespace Sys2Proof.Machine

section

variable {s t m before : State} {i j : Inp} {leaver : Option Inp} {must expired : Bool}

/-! ### What a take makes of the output (R93, R94) -/

theorem takeMade_congr (records : t.records = s.records) (selector : t.selector = s.selector)
    (follower : t.follower = s.follower) (loader : t.loader = s.loader) (made : TakeMade j s)
    (active : s.selector.active = some j) : TakeMade j t := by
  obtain ⟨history, taken, suspect⟩ := made
  refine ⟨by rw [follower, history], fun state => ?_, fun state => ?_⟩
  · rw [records] at state
    obtain ⟨output, bridging, -, settle⟩ := taken state
    refine ⟨by rw [follower, output], by rw [follower, bridging], ?_, by rw [follower, settle, cfg, cfg, loader]⟩
    simp only [synthCommand, follower, output, selector, active]
  · rw [follower]
    exact suspect (by rw [← state, records])

theorem takeInput_takeMade (leaver : Option Inp) (j : Inp) (s : State) : TakeMade j (takeInput leaver j s) := by
  have suspectIff := (takeInput_moves leaver j s j).suspect_iff
  by_cases suspect : s.records[j].state = .suspect
  · have follower := takeInput_follower_of_suspect leaver suspect
    refine ⟨by rw [follower], fun state => ?_, fun _ => by rw [follower]; exact ⟨rfl, rfl, rfl⟩⟩
    have := suspectIff.mpr suspect
    rw [state] at this
    cases this
  · have follower := takeInput_follower_of_usable leaver suspect
    refine ⟨by rw [follower], fun _ => ?_, fun state => absurd (suspectIff.mp state) suspect⟩
    have loader : (takeInput leaver j s).loader = s.loader := by simp
    refine ⟨by rw [follower], by rw [follower], ?_, by rw [follower, cfg, loader]; rfl⟩
    rw [synthCommand, follower, takeInput_selector]

theorem carryOut_takeMade {d : Source} (taken : (carryOut leaver d s).selector.active = some j)
    (other : s.selector.active ≠ some j) : TakeMade j (carryOut leaver d s) := by
  rcases carryOut_cases leaver d s with ⟨h, -⟩ | ⟨i, -, h⟩ | ⟨-, h⟩ | ⟨-, h⟩ <;> rw [h] at taken ⊢
  · exact absurd taken other
  · rw [takeInput_selector] at taken
    obtain rfl := Option.some_inj.mp taken
    exact takeInput_takeMade ..
  all_goals
    rw [takeOwn_selector] at taken
    cases taken

/-- Whichever of the two decisions of an event takes an input, it makes the output of it. -/
theorem evaluate_takeMade (taken : (evaluate leaver s).1.selector.active = some j)
    (other : s.selector.active ≠ some j) : TakeMade j (evaluate leaver s).1 := by
  rw [evaluate_fst] at taken ⊢
  split at taken
  case isTrue again =>
    rw [if_pos again]
    by_cases first : (carryOut leaver (decided s) s).selector.active = some j
    · have source := carryOut_sourceOf (carryOut leaver (decided s) s).selector.active
        (decided (carryOut leaver (decided s) s)) (carryOut leaver (decided s) s)
      rw [(sourceOf_input_iff _ _).mpr taken] at source
      rw [carryOut_of_current _ (((sourceOf_input_iff _ _).mpr first).trans source) fun none => by simp [first] at none]
      exact carryOut_takeMade first other
    · exact carryOut_takeMade taken first
  case isFalse once =>
    rw [if_neg once]
    exact carryOut_takeMade taken other

/-! ### The end of an event in which the Selector evaluates -/

theorem settleEvent_evaluated (due : must = true ∨ evaluationDue before (clearBarredForce m) = true) :
    (settleEvent before must expired m).records = (evaluate before.selector.active (clearBarredForce m)).1.records ∧
    (settleEvent before must expired m).selector = (evaluate before.selector.active (clearBarredForce m)).1.selector ∧
    (settleEvent before must expired m).follower = (evaluate before.selector.active (clearBarredForce m)).1.follower ∧
    (settleEvent before must expired m).loader = (evaluate before.selector.active (clearBarredForce m)).1.loader := by
  rw [settleEvent, selectorTurn_of_due _ _ _ _ due]
  generalize (evaluate before.selector.active (clearBarredForce m)).1 = v
  exact ⟨by simp, by simp, by simp, by simp⟩

/-- An input newly taken in an event is acquired, or bridged (R94). -/
theorem settleEvent_takeMade (taken : (settleEvent before must expired m).selector.active = some j)
    (other : m.selector.active ≠ some j) : TakeMade j (settleEvent before must expired m) := by
  have other' : (clearBarredForce m).selector.active ≠ some j := by
    rw [clearBarredForce_selector]
    exact other
  by_cases due : must = true ∨ evaluationDue before (clearBarredForce m) = true
  · obtain ⟨records, selector, follower, loader⟩ := settleEvent_evaluated (expired := expired) due
    rw [selector] at taken
    exact takeMade_congr records selector follower loader (evaluate_takeMade taken other') taken
  · simp only [not_or, Bool.not_eq_true] at due
    obtain ⟨rfl, idle⟩ := due
    rw [settleEvent, selectorTurn_of_not_due _ _ _ idle] at taken
    exact absurd (by simpa using taken) other'

theorem evaluate_force (leaver : Option Inp) (s : State) : (evaluate leaver s).1.selector.force = s.selector.force := by
  rw [evaluate_fst]
  split
  · rw [carryOut_force, carryOut_force]
  · exact carryOut_force ..

theorem settleEvent_force (before : State) (must expired : Bool) (m : State) :
    (settleEvent before must expired m).selector.force = (clearBarredForce m).selector.force := by
  by_cases due : must = true ∨ evaluationDue before (clearBarredForce m) = true
  · obtain ⟨-, selector, -⟩ := settleEvent_evaluated (expired := expired) due
    rw [selector, evaluate_force]
  · simp only [not_or, Bool.not_eq_true] at due
    obtain ⟨rfl, idle⟩ := due
    rw [settleEvent, selectorTurn_of_not_due _ _ _ idle]
    simp

/-- The frame of an event that touches no monitor and no record before its end. -/
theorem EventKept.settled (kept : EventKept s m) (monitors : m.monitors = s.monitors) (records : m.records = s.records)
    (before : State) (must expired : Bool) :
    SamePart s (settleEvent before must expired m) ∧ LogGrown s (settleEvent before must expired m) ∧
    SameAnnouncer s (settleEvent before must expired m) ∧ SameBus s (settleEvent before must expired m) ∧
    SameWarm s (settleEvent before must expired m) ∧ (settleEvent before must expired m).peers = s.peers ∧
    (settleEvent before must expired m).monitors = s.monitors ∧ (settleEvent before must expired m).port = s.port ∧
    ∀ j : Inp, OnlySelected s.records[j] (settleEvent before must expired m).records[j] := by
  obtain ⟨part, log, announcer, bus, warm, peers, port⟩ := kept.trans (settleEvent_kept before must expired m)
  refine ⟨part, log, announcer, bus, warm, peers, by rw [settleEvent_monitors, monitors], port, fun j => ?_⟩
  rw [← records]
  exact settleEvent_records ..

/-! ### A shelf that stays, with another holdover value (R99, R104, R105) -/

/-- The output is not HOLDOVER, and of what the decision and the content read only the holdover value has moved. -/
theorem settleEvent_of_value (law : SelectionLaw s) (busLaw : BusLaw s) (output : s.follower.output ≠ .holdover)
    {v : HoldValue} (follower : m.follower = { s.follower with value := v }) (records : m.records = s.records)
    (selector : m.selector = s.selector) (loader : m.loader = s.loader) (peers : m.peers = s.peers)
    (announcer : m.announcer = s.announcer) (bus : m.bus = s.bus) :
    settleEvent s false false m = m := by
  obtain ⟨-, -, -, -, -, idle, deferring⟩ := busLaw
  have own : ownGrade m = ownGrade s := by
    rw [ownGrade, ownGrade, follower, if_neg output, if_neg output, floorOrWarm, floorOrWarm, follower, cfg, cfg, loader]
  have stays : Stays s false m := stays_of_same law selector (fun j => by rw [records]; exact ⟨rfl, rfl, rfl, rfl⟩)
    (boundGroup_congr loader (by rw [peers])) own
  have content : currentContent m = currentContent s := by
    have free : freeRunContent m = freeRunContent s := by
      rw [freeRunContent, freeRunContent, floorOrWarm, floorOrWarm, follower, cfg, cfg, loader]
    have lock (i : Inp) : lockContent m i = lockContent s i := by
      rw [lockContent, lockContent, inputCfg_congr loader i, cfg, cfg, records, loader]
    unfold currentContent
    rw [follower, selector, free]
    cases h : s.follower.output <;> simp only [lock]
    exact absurd h output
  rw [stays.settleEvent_eq, raiseEvent_of_same content.symm]
  exact syncWant_of_law (by rw [bus, announcer]; exact idle) (by rw [bus, announcer]; exact deferring)

/-! ### The expiry of the holdover value (R104) -/

theorem expired_log (s : State) : (expireValue s).log =
    s.log.append .holdoverExpired s.follower.value.base s.follower.output.code := by
  rw [expireValue, logEvent_log]
  rfl

theorem clearHoldoverForce_grown (s : State) : LogGrown s (clearHoldoverForce s) := by
  unfold clearHoldoverForce
  exact .ite (.trans (logGrown_of_eq rfl) (logEvent_grown ..))

theorem clearHoldoverForce_kept (s : State) : EventKept s (clearHoldoverForce s) where
  part := by
    unfold clearHoldoverForce
    split <;> exact ⟨rfl, rfl, rfl, rfl, rfl⟩
  log := clearHoldoverForce_grown s
  announcer := sameAnnouncer_of_eq (by unfold clearHoldoverForce; split <;> rfl)
  bus := sameBus_of_eq (by unfold clearHoldoverForce; split <;> rfl)
  warm := sameWarm_of_eq (clearHoldoverForce_follower s)
  peers := by unfold clearHoldoverForce; split <;> rfl
  port := by unfold clearHoldoverForce; split <;> rfl

theorem clearHoldoverForce_monitors (s : State) : (clearHoldoverForce s).monitors = s.monitors := by
  unfold clearHoldoverForce
  split <;> rfl

theorem expireValue_kept (s : State) : EventKept s (expireValue s) where
  part := ⟨rfl, rfl, rfl, rfl, rfl⟩
  log := logGrown_of_append (expired_log s)
  announcer := sameAnnouncer_of_eq rfl
  bus := rfl
  warm := by
    rw [SameWarm, expireValue_follower]
    exact ⟨rfl, rfl⟩
  peers := rfl
  port := rfl

theorem valueEnd_of_other (law : SelectionLaw s) (busLaw : BusLaw s) (output : s.follower.output ≠ .holdover) :
    valueEnd s = expireValue s := by
  have force : s.selector.force ≠ .holdover := fun h => by
    obtain ⟨-, -, -, -, -, forceOwn⟩ := law
    exact output (forceOwn h)
  have still : expiryMoves s = false := decide_eq_false (by simp [output, force])
  have unforced : clearHoldoverForce (expireValue s) = expireValue s := if_neg (by rw [expireValue_selector]; exact force)
  rw [valueEnd, still, unforced]
  refine settleEvent_of_value (v := HoldValue.invalid) law busLaw output ?_ (expireValue_records s)
    (expireValue_selector s) rfl rfl rfl rfl
  rw [expireValue_follower, if_neg output]

/-- In HOLDOVER the expiry leaves the shelf unforced and free-running, and the Selector takes what ranks first. -/
theorem valueEnd_of_holdover (law : SelectionLaw s) (output : s.follower.output = .holdover) :
    (valueEnd s).selector.force = .none ∧ (valueEnd s).follower.output ≠ .holdover ∧
    (valueEnd s).follower.value = HoldValue.invalid ∧
    (valueEnd s).selector.active = bestInput { s with
      follower := { s.follower with output := .freeRun, value := HoldValue.invalid } } := by
  obtain ⟨-, ⟨own, -⟩, -, -, forced, -⟩ := law
  have idle : s.selector.active = none := own.mpr (.inr output)
  have moves : expiryMoves s = true := decide_eq_true (.inl output)
  have selector := clearHoldoverForce_selector (expireValue s)
  have follower := (clearHoldoverForce_follower (expireValue s)).trans (expireValue_follower s)
  rw [expireValue_selector] at selector
  rw [if_pos output] at follower
  have kept := (expireValue_kept s).trans (clearHoldoverForce_kept _)
  have records := (clearHoldoverForce_records (expireValue s)).trans (expireValue_records s)
  rw [valueEnd, moves]
  generalize clearHoldoverForce (expireValue s) = m at selector follower kept records
  have unforced : m.selector.force = .none := by
    rw [selector]
    cases force : s.selector.force with
    | none | holdover => rfl
    | input f =>
      have := forced f force
      simp [idle] at this
  have mIdle : m.selector.active = none := by rw [selector]; exact idle
  have stands : clearBarredForce m = m := clearBarredForce_of_unforced unforced
  have due : true = true ∨ evaluationDue s (clearBarredForce m) = true := .inl rfl
  have ranking : bestInput m = bestInput { s with
      follower := { s.follower with output := .freeRun, value := HoldValue.invalid } } := by
    obtain ⟨⟨-, -, -, loader, -⟩, -, -, -, -, peers, -⟩ := kept
    have own : ownGrade m = ownGrade { s with
        follower := { s.follower with output := .freeRun, value := HoldValue.invalid } } := by
      rw [ownGrade, ownGrade, follower, if_neg (by simp), if_neg (by simp), floorOrWarm, floorOrWarm, follower, cfg, cfg, loader]
    refine (SameRanking.mk (by rw [loader]) (fun i => ?_) (fun i => by rw [records]) fun i => by rw [records]).bestInput
    exact eligible_congr (by rw [records]) (by rw [records]) (boundGroup_congr loader (by rw [peers]) i) own
  obtain ⟨-, sel, fol, -⟩ := settleEvent_evaluated (expired := true) due
  rw [sel, fol, stands, ← ranking, idle]
  cases best : bestInput m with
  | none =>
    have decides : decided m = .freeRun := by
      rw [decided_of_best_none unforced best, ownOscillator]
      simp only [follower]
    have current : (evaluate none m).1 = m := evaluate_of_current none (fun _ => .inl (by rw [follower]))
      (by simp [decides, sourceOf, mIdle, follower])
    rw [current, follower]
    exact ⟨unforced, by simp, rfl, mIdle⟩
  | some b =>
    have decides : decided m = .input b := decision_leaves false unforced best fun a active => by simp [mIdle] at active
    have taken : carryOut none (decided m) m = takeInput none b m := by
      rw [decides]
      exact if_neg (by simp [mIdle])
    have output' : (takeInput none b m).follower.output ≠ .holdover ∧
        (takeInput none b m).follower.value = HoldValue.invalid := by
      have value : (computeValue none m).follower.value = HoldValue.invalid := by
        rw [computeValue_of_not_locked none (by simp [follower]), follower]
      by_cases suspect : m.records[b].state = .suspect
      · rw [takeInput_follower_of_suspect none suspect]
        exact ⟨by simp, value⟩
      · rw [takeInput_follower_of_usable none suspect]
        exact ⟨by simp, value⟩
    have once : (evaluate none m).1 = takeInput none b m := by
      rw [evaluate_fst, taken, if_neg]
      rintro ⟨-, moved⟩
      exact moved (iff_of_false (by simp [follower]) output'.1)
    rw [once, takeInput_selector]
    exact ⟨unforced, output'.1, output'.2, rfl⟩

theorem valueExpiry_eq (on : running s = true) (due : valueDue s = true) : exec .valueExpiry s = .next (valueEnd s) := by
  show Host.Outcome.next _ = _
  rw [on, due]
  rfl

/-! ### The step ages (R105) -/

theorem stepAgeReached_eq (on : running s = true) (valid : s.follower.value.valid = true)
    (comes : stepComes (cfg s) s.follower.value.ageCycles = true) :
    exec .stepAgeReached s = .next (stepAge (s.follower.value.ageCycles + 1) s) := by
  show Host.Outcome.next _ = _
  rw [on, valid, comes]
  rfl

theorem stepAge_of_other (law : SelectionLaw s) (busLaw : BusLaw s) (output : s.follower.output ≠ .holdover) (n : Nat) :
    stepAge n s = s.withFollower { s.follower with value := { s.follower.value with ageCycles := n } } :=
  settleEvent_of_value law busLaw output rfl rfl rfl rfl rfl rfl rfl

/-- Another age is not a change of the frame. -/
theorem withFollower_kept {f : Follower} (warm : f.warm = s.follower.warm) (count : f.warmCount = s.follower.warmCount) :
    EventKept s (s.withFollower f) :=
  ⟨⟨rfl, rfl, rfl, rfl, rfl⟩, .refl s, sameAnnouncer_of_eq rfl, rfl, ⟨warm, count⟩, rfl, rfl⟩

/-! ### FORCE (R83, R84) -/

theorem force_eq (open' : s.hold = none) (n : Byte) : exec (.force n) s = .next (answer 1 [forceResult n s]
    (match forceTarget n with
    | some f => if running s && forceable s f then setForce f s else s
    | none => s)) := congrArg Host.Outcome.next (if_pos ((portOpen_iff s).mpr open'))

theorem unforce_eq (open' : s.hold = none) : exec .unforce s = .next (answer 0
    [if running s then resDone else resRefused] (if running s then setForce .none s else s)) :=
  congrArg Host.Outcome.next (if_pos ((portOpen_iff s).mpr open'))

theorem forceTarget_input {n : Byte} (number : n.toNat = i.val + 1) : forceTarget n = some (.input i) := by
  rw [forceTarget, (inputOf_eq_some_iff n i).mpr number]

theorem forceTarget_holdover {n : Byte} (number : n.toNat = 7) : forceTarget n = some .holdover := by
  have outside : inputOf n = none := inputOf_eq_none (by omega)
  simp [forceTarget, outside, number]

theorem forceTarget_none {n : Byte} (outside : ¬(1 ≤ n.toNat ∧ n.toNat ≤ 7)) : forceTarget n = none := by
  have noInput : inputOf n = none := inputOf_eq_none (by omega)
  simp only [forceTarget, noInput]
  exact if_neg (by omega)

/-- What a FORCE argument within the range names. -/
theorem forceTarget_some {n : Byte} (inside : 1 ≤ n.toNat ∧ n.toNat ≤ 7) : ∃ f : Force, forceTarget n = some f ∧
    (∀ i : Inp, n.toNat = i.val + 1 → f = .input i) ∧ (n.toNat = 7 → f = .holdover) := by
  by_cases seven : n.toNat = 7
  · exact ⟨_, forceTarget_holdover seven, fun i number => by omega, fun _ => rfl⟩
  · have number : n.toNat = (⟨n.toNat - 1, by omega⟩ : Inp).val + 1 := by
      dsimp only
      omega
    refine ⟨_, forceTarget_input number, fun i h => congrArg Force.input (Fin.ext ?_), fun h => absurd h seven⟩
    dsimp only
    omega

theorem available_iff : available s = true ↔
    s.follower.value.valid = true ∨ s.follower.output = .locked ∧ s.follower.history.length = 16 := by simp [available]

/-- A forced input or own oscillator is the source at once (R83, R84). -/
theorem setForce_source {f : Force} (other : s.selector.force ≠ f) (can : forceable s f = true) :
    sourceOf (setForce f s) = decided (s.withForce f) ∧ (setForce f s).selector.force = f ∧
      ((setForce f s).selector.active = some j → s.selector.active ≠ some j → TakeMade j (setForce f s)) := by
  have stands := setForce_stands (.inr can)
  have named : f ≠ .none := by
    rintro rfl
    cases can
  have due : false = true ∨ evaluationDue s (clearBarredForce (s.withForce f)) = true :=
    .inr ((Bool.not_eq_false _).mp (setForce_due other (.inr can)))
  rw [setForce, if_neg other]
  refine ⟨?_, by rw [settleEvent_force, stands]; rfl, fun taken idle => settleEvent_takeMade taken idle⟩
  obtain ⟨-, selector, follower, -⟩ := settleEvent_evaluated (expired := false) due
  rw [sourceOf_congr selector follower, stands, evaluate_fst, if_neg fun h => named h.1, carryOut_sourceOf]

theorem setForce_frame (f : Force) (s : State) :
    SamePart s (setForce f s) ∧ LogGrown s (setForce f s) ∧ SameAnnouncer s (setForce f s) ∧ SameBus s (setForce f s) ∧
    SameWarm s (setForce f s) ∧ (setForce f s).peers = s.peers ∧ (setForce f s).monitors = s.monitors ∧
    (setForce f s).port = s.port ∧ ∀ j : Inp, OnlySelected s.records[j] (setForce f s).records[j] := by
  unfold setForce
  split
  · exact ⟨⟨rfl, rfl, rfl, rfl, rfl⟩, .refl s, sameAnnouncer_of_eq rfl, rfl, .refl s, rfl, rfl, rfl, fun _ => rfl⟩
  · have kept : EventKept s (s.withForce f) :=
      ⟨⟨rfl, rfl, rfl, rfl, rfl⟩, .refl s, sameAnnouncer_of_eq rfl, rfl, .refl s, rfl, rfl⟩
    exact kept.settled rfl rfl s false false

theorem setForce_keeps_law {f : Force} (records : RecordsLawful s) (law : SelectionLaw s)
    (can : f = .none ∨ forceable s f = true) : RecordsLawful (setForce f s) ∧ SelectionLaw (setForce f s) := by
  unfold setForce
  split
  · exact ⟨records, law⟩
  · rename_i other
    exact setForce_law records law other can

/-- A READY or ACTIVE input, once forced, is the active one. -/
theorem setForce_input (records : RecordsLawful s) (law : SelectionLaw s)
    (usable : s.records[i].state = .ready ∨ s.records[i].state = .active) :
    (setForce (.input i) s).selector.force = .input i ∧ (setForce (.input i) s).selector.active = some i ∧
    (setForce (.input i) s).records[i].state = .active ∧
    (s.selector.active ≠ some i → TakeMade i (setForce (.input i) s)) := by
  have can : forceable s (.input i) = true := decide_eq_true usable
  obtain ⟨-, law'⟩ := setForce_keeps_law records law (.inr can)
  have moved : SelectorMove s.records[i] (setForce (.input i) s).records[i] := by
    unfold setForce
    split
    · exact .same
    · exact settleEvent_moves s false false (s.withForce (.input i)) i
  obtain ⟨usable', -⟩ := moved.of_usable usable
  have active_of (force : (setForce (.input i) s).selector.force = .input i) :
      (setForce (.input i) s).selector.active = some i ∧ (setForce (.input i) s).records[i].state = .active := by
    obtain ⟨agrees, -, -, -, forced, -⟩ := law'
    have active := forced i force
    have isActive := of_decide_eq_true ((agrees i).mpr active)
    refine ⟨active, isActive.resolve_right fun h => ?_⟩
    rcases usable' with g | g <;> rw [h.1] at g <;> cases g
  by_cases already : s.selector.force = .input i
  · have same : setForce (.input i) s = s := if_pos already
    obtain ⟨active, state⟩ := active_of (by rw [same]; exact already)
    refine ⟨by rw [same]; exact already, active, state, fun idle => absurd ?_ idle⟩
    rwa [same] at active
  · obtain ⟨-, force, made⟩ := setForce_source (j := i) already can
    obtain ⟨active, state⟩ := active_of force
    exact ⟨force, active, state, made active⟩

/-- HOLDOVER, once forced with a value available, is the output state. -/
theorem setForce_holdover (records : RecordsLawful s) (law : SelectionLaw s) (some : forceable s .holdover = true) :
    (setForce .holdover s).selector.force = .holdover ∧ (setForce .holdover s).selector.active = none ∧
    (setForce .holdover s).follower.output = .holdover ∧ (setForce .holdover s).follower.value.valid = true := by
  obtain ⟨-, -, ⟨own, -⟩, -, ⟨-, valid⟩, -, forceOwn⟩ := setForce_keeps_law records law (.inr some)
  have force : (setForce .holdover s).selector.force = .holdover := by
    by_cases already : s.selector.force = .holdover
    · rw [setForce, if_pos already]
      exact already
    · exact (setForce_source (j := 0) already some).2.1
  have output := forceOwn force
  exact ⟨force, own.mpr (.inr output), output, valid output⟩

theorem force_invalid {n : Byte} (open' : s.hold = none) (outside : ¬(1 ≤ n.toNat ∧ n.toNat ≤ 7)) :
    exec (.force n) s = .next { s with port := answeredPort s.port [0x00, 0x00, 0xA2] } := by
  rw [force_eq open', forceResult, forceTarget_none outside]
  rfl

theorem force_refused {n : Byte} {f : Force} (open' : s.hold = none) (names : forceTarget n = some f)
    (cannot : (running s && forceable s f) = false) :
    exec (.force n) s = .next { s with port := answeredPort s.port [0x00, 0x00, 0xA1] } := by
  rw [force_eq open', forceResult, names]
  simp only [cannot]
  rfl

theorem force_done {n : Byte} {f : Force} (open' : s.hold = none) (names : forceTarget n = some f)
    (on : running s = true) (can : forceable s f = true) :
    exec (.force n) s = .next (answer 1 [resDone] (setForce f s)) := by
  rw [force_eq open', forceResult, names]
  simp only [on, can, Bool.and_self, if_true]

/-- UNFORCE decides anew (R88). -/
theorem setForce_none_settled (records : RecordsLawful s) (law : SelectionLaw s) (forced : s.selector.force ≠ .none) :
    (setForce .none s).selector.force = .none ∧ sourceOf (setForce .none s) = decided (setForce .none s) := by
  have due : false = true ∨ evaluationDue s (clearBarredForce (s.withForce .none)) = true :=
    .inr ((Bool.not_eq_false _).mp (setForce_due forced (.inl rfl)))
  rw [setForce, if_neg forced]
  refine ⟨by rw [settleEvent_force]; rfl, settleEvent_settled_of_due ?_ due⟩
  exact setForce_deciding records law (.inl rfl)

end
end Sys2Proof.Machine

open Sys2Proof Sys2Proof.Machine

/-- Settles O20. -/
theorem valueExpires : Obligations.ValueExpires := by
  unfold Obligations.ValueExpires
  intro s
  refine ⟨fun early => ?_, fun on valid records law busLaw due => ⟨_, valueExpiry_eq on ((valueDue_iff s).mpr ⟨valid, due⟩), ?_⟩⟩
  · have notDue : valueDue s = false := by
      rw [Bool.eq_false_iff, Ne, valueDue_iff, second]
      rintro ⟨valid, due⟩
      rcases early with h | h
      · simp [h] at valid
      · omega
    show Host.Outcome.next _ = _
    rw [notDue, Bool.and_false]
    rfl
  · have kept := (expireValue_kept s).trans (clearHoldoverForce_kept _)
    have frame := kept.settled (clearHoldoverForce_monitors (expireValue s))
      ((clearHoldoverForce_records _).trans (expireValue_records s)) s (expiryMoves s) (expiryMoves s)
    have grown : LogGrown (expireValue s) (valueEnd s) :=
      (clearHoldoverForce_grown _).trans (settleEvent_grown ..)
    have value : (valueEnd s).follower.value = HoldValue.invalid := by
      by_cases output : s.follower.output = .holdover
      · exact (valueEnd_of_holdover law output).2.2.1
      · rw [valueEnd_of_other law busLaw output, expireValue_follower]
    refine ⟨by rw [value]; rfl, by rw [value]; rfl, by rw [value]; rfl, by rw [value]; rfl, by rw [value]; rfl,
      grown.first (expired_log s), fun output => ?_, fun output => ?_, frame⟩
    · obtain ⟨force, left, -, active⟩ := valueEnd_of_holdover law output
      rw [value]
      exact ⟨left, force, active⟩
    · rw [value, valueEnd_of_other law busLaw output, expireValue, if_neg output]
      rfl

/-- Settles O21. -/
theorem stepAgeIsReached : Obligations.StepAgeIsReached := by
  unfold Obligations.StepAgeIsReached
  intro age s
  refine ⟨fun other => ?_, fun on valid records law busLaw step comes below => ?_⟩
  · have idle : (s.follower.value.valid && stepComes (cfg s) s.follower.value.ageCycles) = false := by
      rw [Bool.eq_false_iff, Ne, Bool.and_eq_true, stepComes_iff, second]
      rintro ⟨valid, ⟨a, mem, reached⟩, below⟩
      rcases other with h | h | h
      · simp [h] at valid
      · exact h a mem reached
      · omega
    show Host.Outcome.next _ = _
    rw [Bool.and_assoc, idle, Bool.and_false]
    rfl
  · have reached : stepComes (cfg s) s.follower.value.ageCycles = true :=
      (stepComes_iff _ _).mpr ⟨⟨age, step, comes⟩, by rw [second]; omega⟩
    refine ⟨_, stepAgeReached_eq on valid reached, ?_⟩
    have kept : EventKept s (s.withFollower { s.follower with
        value := { s.follower.value with ageCycles := s.follower.value.ageCycles + 1 } }) := withFollower_kept rfl rfl
    have frame := kept.settled rfl rfl s false false
    have value : (stepAge (s.follower.value.ageCycles + 1) s).follower.value =
        { s.follower.value with ageCycles := s.follower.value.ageCycles + 1 } := by
      by_cases output : s.follower.output = .holdover
      · obtain ⟨-, -, ⟨history, -⟩, -⟩ := law
        have step := settleEvent_valueStep s false false (s.withFollower { s.follower with
          value := { s.follower.value with ageCycles := s.follower.value.ageCycles + 1 } })
        exact (step.of_no_history (history (.inr (.inr (.inl output))))).2
      · rw [stepAge_of_other law busLaw output]
        rfl
    refine ⟨by rw [value, comes], by rw [HoldValue.age, value, comes]; exact Nat.mul_div_cancel _ (by decide),
      fun output => ?_, frame⟩
    rw [value, stepAge_of_other law busLaw output]
    rfl

/-- Settles O23. -/
theorem warmupEnds : Obligations.WarmupEnds := by
  unfold Obligations.WarmupEnds
  intro s on warm records law
  have body : Body .warmupEnd s true false (clearWarmup s) := .warmup on warm
  have log : (clearWarmup s).log = s.log.append .warmupDone ((cfg s).warmup / 256) ((cfg s).warmup % 256) := by
    rw [clearWarmup, logEvent_log]
    rfl
  have mid : MidEvent s (clearWarmup s) := (MidEvent.begin records law).clearWarmup
  have warmed : SameWarm (clearWarmup s) (warmupFinish s) := settleEvent_sameWarm ..
  have follower : (clearWarmup s).follower =
    { s.follower with warm := false, warmCount := max s.follower.warmCount (cfg s).warmup } := rfl
  have equation : exec .warmupEnd s = .next (warmupFinish s) := by
    show Host.Outcome.next _ = _
    rw [on, warm]
    rfl
  obtain ⟨part, -, announcer, bus, -, peers, port⟩ := settleEvent_kept s true false (clearWarmup s)
  have grown : LogGrown (clearWarmup s) (warmupFinish s) := settleEvent_grown ..
  refine ⟨_, equation, by rw [warmed.1]; rfl, by rw [warmed.2]; exact le_max_right _ _,
    fun _ => settleEvent_settled_of_due mid.deciding (.inl rfl), grown.first log, part, .trans (logGrown_of_append log) grown,
    announcer, bus, peers, settleEvent_monitors .., port, fun j => settleEvent_records s true false (clearWarmup s) j⟩

/-- Settles O28. -/
theorem forceHoldsTheShelf : Obligations.ForceHoldsTheShelf := by
  unfold Obligations.ForceHoldsTheShelf
  intro n s open' records law
  constructor
  · have same (port : Port) : SamePart s { s with port := port } ∧ LogGrown s { s with port := port } ∧
        SameAnnouncer s { s with port := port } ∧ SameBus s { s with port := port } ∧ SameWarm s { s with port := port } ∧
        s.peers = s.peers ∧ s.monitors = s.monitors ∧ ∀ j : Inp, OnlySelected s.records[j] s.records[j] :=
      ⟨⟨rfl, rfl, rfl, rfl, rfl⟩, .refl s, sameAnnouncer_of_eq rfl, rfl, .refl s, rfl, rfl, fun _ => rfl⟩
    by_cases inside : 1 ≤ n.toNat ∧ n.toNat ≤ 7
    case neg =>
      refine ⟨_, force_invalid open' inside, fun _ => rfl, fun h => absurd h inside, fun _ i number => ?_, fun _ number => ?_,
        same _⟩
      · have := i.isLt
        omega
      · omega
    obtain ⟨f, names, isInput, isHoldover⟩ := forceTarget_some inside
    cases accepted : running s && forceable s f with
    | false =>
      refine ⟨_, force_refused open' names accepted, fun h => absurd inside h, fun _ _ => rfl, fun on i number => ?_,
        fun on number => ?_, same _⟩
      all_goals rw [on, Bool.true_and] at accepted
      · rw [isInput i number] at accepted
        exact ⟨fun usable => absurd usable (of_decide_eq_false accepted), fun _ _ => rfl⟩
      · rw [isHoldover number] at accepted
        exact ⟨fun usable => absurd ((available_iff.mpr usable).symm.trans accepted) (by decide), fun _ _ => rfl⟩
    | true =>
      obtain ⟨on, can⟩ := (Bool.and_eq_true ..).mp accepted
      obtain ⟨part, log, announcer, bus, warm, peers, monitors, -, records'⟩ := setForce_frame f s
      refine ⟨_, force_done open' names on can, fun h => absurd inside h, fun _ off => absurd (on.symm.trans off) (by decide),
        fun _ i number => ?_, fun _ number => ?_, part, log, announcer, bus, warm, peers, monitors, records'⟩
      · rw [isInput i number] at can ⊢
        have usable : s.records[i].state = .ready ∨ s.records[i].state = .active := of_decide_eq_true can
        refine ⟨fun _ => ⟨rfl, setForce_input records law usable⟩, fun notReady notActive => ?_⟩
        exact absurd usable (not_or.mpr ⟨notReady, notActive⟩)
      · rw [isHoldover number] at can ⊢
        refine ⟨fun _ => ⟨rfl, setForce_holdover records law can⟩, fun invalid other => ?_⟩
        rcases available_iff.mp can with valid | ⟨locked, full⟩
        · simp [invalid] at valid
        · exact absurd full (other.resolve_left (by simp [locked]))
  · obtain ⟨part, log, announcer, bus, warm, peers, monitors, -, records'⟩ := setForce_frame .none s
    refine ⟨_, unforce_eq open', fun off => ?_, fun on unforced => ?_, fun on forced => ?_, ?_⟩
    · rw [off]
      rfl
    · rw [on, if_pos rfl, if_pos rfl, setForce, if_pos unforced]
      rfl
    · rw [on, if_pos rfl, if_pos rfl]
      obtain ⟨force, settled⟩ := setForce_none_settled records law forced
      exact ⟨rfl, force, fun _ => settled⟩
    · cases running s
      · exact ⟨⟨rfl, rfl, rfl, rfl, rfl⟩, .refl s, sameAnnouncer_of_eq rfl, rfl, .refl s, rfl, rfl, fun _ => rfl⟩
      · exact ⟨part, log, announcer, bus, warm, peers, monitors, records'⟩

end


section
/-! PROOF. O30: the eight acceptance checks, each with its own verdict (R149 to R155). -/

namespace Sys2Proof.Machine

section

variable {s : State} {kind : Byte} {f : RxFrame} {k : Slot}

/-! ### Addresses -/

theorem slotOf_eq_some {a : Nat} (number : a = k.val + 1) : slotOf a = some k := by
  subst number
  have := k.isLt
  rw [slotOf, dif_pos (by omega)]
  rfl

theorem slotOf_eq_none {a : Nat} (outside : ¬(1 ≤ a ∧ a ≤ 24)) : slotOf a = none := dif_neg outside

/-! ### What each check says -/

theorem classOf_isSome_iff (code : Nat) : (classOf code).isSome = true ↔ 1 ≤ code ∧ code ≤ 4 := by
  unfold classOf
  repeat' split
  all_goals
    simp only [Option.isSome_some, Option.isSome_none, Bool.false_eq_true, true_iff, false_iff]
    omega

theorem validPath_iff (path : List Nat) (station : Nat) : validPath path station = true ↔ PathOf path station := by
  simp [validPath, PathOf, and_assoc]

/-- R153. -/
theorem readAnnounce_isSome_iff (source : Nat) (payload : List Byte) :
    (readAnnounce source payload).isSome = true ↔ ValidPayload source payload := by
  have cls := classOf_isSome_iff (payloadByte payload 0)
  unfold readAnnounce
  cases h : classOf (payloadByte payload 0) with
  | none =>
    rw [h] at cls
    exact iff_of_false (by simp) fun ⟨code, _⟩ => absurd (cls.mpr code) (by decide)
  | some c =>
    rw [h] at cls
    have codes := cls.mp rfl
    simp only [validPath_iff, payloadInterval, payloadPath]
    split
    · rename_i valid
      exact ⟨fun _ => ⟨codes, valid⟩, fun _ => rfl⟩
    · rename_i invalid
      exact iff_of_false (by decide) fun valid => invalid valid.2

theorem dest_zero_iff (d : Byte) : d.toNat = 0 ↔ d = 0 := by
  rw [← BitVec.toNat_inj]
  rfl

/-- R152. -/
theorem kindFits_iff : kindFits kind f = true ↔ Pairing kind f := by
  unfold kindFits
  by_cases query : kind = kindQuery
  · subst query
    rw [if_pos rfl]
    simp [Pairing, kindQuery, List.isEmpty_iff]
  by_cases withdraw : kind = kindWithdraw
  · subst withdraw
    rw [if_neg (by decide), if_pos rfl]
    simp [Pairing, kindWithdraw, List.isEmpty_iff, dest_zero_iff]
  by_cases announce : kind = kindAnnounce
  · subst announce
    rw [if_neg (by decide), if_neg (by decide), if_pos rfl]
    simp [Pairing, kindAnnounce, dest_zero_iff, and_assoc]
  · rw [if_neg query, if_neg withdraw, if_neg announce]
    refine iff_of_false (by decide) ?_
    rintro (⟨h, -⟩ | ⟨h, -⟩ | ⟨h, -⟩)
    · exact query h
    · exact withdraw h
    · exact announce h

theorem contentFits_iff : contentFits kind f = true ↔ (kind = 0x01 → ValidPayload f.source.toNat f.payload) := by
  unfold contentFits
  split
  · rename_i announce
    rw [readAnnounce_isSome_iff]
    exact ⟨fun valid _ => valid, fun valid => valid announce⟩
  · rename_i other
    exact ⟨fun _ announce => absurd announce other, fun _ => rfl⟩

/-- R154. -/
theorem rateAllows_iff (w : Option RateWindow) : rateAllows w = true ↔ ∀ x ∈ w, x.count < 6 := by
  cases w <;> simp [rateAllows]

/-- R155. -/
theorem sequenceAllows_iff (paired : Pairing kind f) (e : Option PeerEntry) :
    sequenceAllows kind f e = true ↔ SequenceFits kind f e := by
  have known : kind = 0x02 ∨ kind = 0x03 ∨ kind = 0x01 := by
    rcases paired with ⟨h, -⟩ | ⟨h, -⟩ | ⟨h, -⟩ <;> simp [h]
  unfold sequenceAllows SequenceFits
  rcases known with rfl | rfl | rfl
  · simp [kindQuery]
  · cases e with
    | none => simp [kindQuery, kindAnnounce]
    | some e => simp [kindQuery, kindAnnounce, hasRestart, seqNewer, or_iff_not_imp_left]
  · cases e with
    | none => simp [kindQuery, kindAnnounce]
    | some e => simp [kindQuery, kindAnnounce, hasRestart, seqNewer, payloadRestart, or_iff_not_imp_left]

/-! ### The verdicts in their order (R149) -/

theorem verdict_outside (outside : ¬(1 ≤ f.source.toNat ∧ f.source.toNat ≤ 24)) : verdict s kind f = .malformed := by
  rw [verdict, slotOf_eq_none outside]

theorem verdict_own (number : f.source.toNat = k.val + 1) (own : f.source.toNat = s.loader.ownAddress) :
    verdict s kind f = .ownSource := by
  rw [verdict, slotOf_eq_some number]
  exact if_pos own

theorem verdict_other (number : f.source.toNat = k.val + 1) (other : f.source.toNat ≠ s.loader.ownAddress) :
    verdict s kind f = judgeSource s kind f k := by
  rw [verdict, slotOf_eq_some number]
  exact if_neg other

theorem judgeSource_untrusted (distrusted : (cfg s).trust.getLsbD k.val = false) :
    judgeSource s kind f k = .untrusted := if_pos (by rw [trusted, distrusted]; rfl)

theorem judgeSource_trusted (trusts : (cfg s).trust.getLsbD k.val = true) : judgeSource s kind f k =
    if !kindFits kind f then .malformed
    else if !contentFits kind f then .malformed
    else if !rateAllows s.peers.windows[k] then .rate
    else if !sequenceAllows kind f s.peers.entries[k] then .sequence
    else .accepted := if_neg (by rw [trusted, trusts]; decide)

/-- A frame passes steps 4 to 8 exactly when each lets it. -/
theorem judgeSource_accepted_iff : judgeSource s kind f k = .accepted ↔ (cfg s).trust.getLsbD k.val = true ∧
    Pairing kind f ∧ (kind = 0x01 → ValidPayload f.source.toNat f.payload) ∧
    (∀ w ∈ s.peers.windows[k], w.count < 6) ∧ SequenceFits kind f s.peers.entries[k] := by
  cases trusts : (cfg s).trust.getLsbD k.val with
  | false => simp [judgeSource_untrusted trusts]
  | true =>
    rw [judgeSource_trusted trusts, ← kindFits_iff, ← contentFits_iff, ← rateAllows_iff]
    by_cases paired : kindFits kind f = true
    · rw [← sequenceAllows_iff (kindFits_iff.mp paired)]
      simp only [paired, Bool.not_true, Bool.false_eq_true, if_false, true_and]
      cases contentFits kind f <;> cases rateAllows s.peers.windows[k] <;>
        cases sequenceAllows kind f s.peers.entries[k] <;> simp
    · simp [paired]

theorem verdict_accepted_iff : verdict s kind f = .accepted ↔ ∃ k : Slot, f.source.toNat = k.val + 1 ∧
    f.source.toNat ≠ s.loader.ownAddress ∧ judgeSource s kind f k = .accepted := by
  constructor
  · intro accepted
    by_cases inside : 1 ≤ f.source.toNat ∧ f.source.toNat ≤ 24
    · have number : f.source.toNat = (⟨f.source.toNat - 1, by omega⟩ : Slot).val + 1 := by
        dsimp only
        omega
      by_cases own : f.source.toNat = s.loader.ownAddress
      · rw [verdict_own number own] at accepted
        cases accepted
      · rw [verdict_other number own] at accepted
        exact ⟨_, number, own, accepted⟩
    · rw [verdict_outside inside] at accepted
      cases accepted
  · rintro ⟨k, number, other, accepted⟩
    rw [verdict_other number other, accepted]

end
end Sys2Proof.Machine

open Sys2Proof Sys2Proof.Machine

/-- Settles O30. -/
theorem acceptanceChecks : Obligations.AcceptanceChecks := by
  unfold Obligations.AcceptanceChecks
  intro kind f s
  refine ⟨?_, readAnnounce_isSome_iff .., verdict_outside, fun k number => ⟨verdict_own number, fun other =>
    ⟨fun distrusted => ?_, fun trusts => ⟨fun unpaired => ?_, fun paired => ⟨fun ⟨announce, invalid⟩ => ?_,
      fun valid => ⟨fun ⟨w, mem, full⟩ => ?_, fun free => ⟨fun old => ?_, fun fits => ?_⟩⟩⟩⟩⟩⟩⟩
  · rw [verdict_accepted_iff]
    refine exists_congr fun k => and_congr_right fun _ => and_congr_right fun _ => ?_
    rw [judgeSource_accepted_iff]
    refine and_congr_right fun _ => ?_
    constructor
    · rintro ⟨paired, valid, free, known, newer⟩
      refine ⟨?_, free, known, newer⟩
      exact paired.imp_right (.imp_right fun ⟨announce, length, dest⟩ => ⟨announce, length, dest, valid announce⟩)
    · rintro ⟨paired, free, known, newer⟩
      refine ⟨paired.imp_right (.imp_right fun ⟨announce, length, dest, _⟩ => ⟨announce, length, dest⟩), ?_, free, known, newer⟩
      rintro rfl
      rcases paired with ⟨h, -⟩ | ⟨h, -⟩ | ⟨-, -, -, valid⟩
      · cases h
      · cases h
      · exact valid
  all_goals rw [verdict_other number other]
  · exact judgeSource_untrusted distrusted
  all_goals rw [judgeSource_trusted trusts]
  · exact if_pos (by simpa [← kindFits_iff] using unpaired)
  all_goals rw [if_neg (by simp [kindFits_iff.mpr paired])]
  · refine if_pos ?_
    have unfit : ¬contentFits kind f = true := fun fits => invalid (contentFits_iff.mp fits announce)
    simpa using unfit
  all_goals rw [if_neg (by simp [contentFits_iff.mpr valid])]
  · refine if_pos ?_
    have exhausted : ¬rateAllows s.peers.windows[k] = true := fun allows =>
      absurd ((rateAllows_iff _).mp allows w mem) (by omega)
    simpa using exhausted
  all_goals rw [if_neg (by simp [(rateAllows_iff _).mpr free, -Fin.getElem_fin])]
  · refine if_pos ?_
    have stale : ¬sequenceAllows kind f s.peers.entries[k] = true := fun allows =>
      old ((sequenceAllows_iff paired _).mp allows)
    simpa using stale
  · exact if_neg (by simp [(sequenceAllows_iff paired _).mpr fits, -Fin.getElem_fin])

end


section
/-! PROOF. What each block appends to the Event Log, as a list of records to append in order (R64, R82, R86, R182). -/

namespace Sys2Proof.Machine

/-- What a block appends: a kind and two arguments. -/
abbrev LogEntry := EventKind × Nat × Nat

/-- Records appended one after the other, as far as they fit (R182). -/
def EventLog.appendAll (l : EventLog) (es : List LogEntry) : EventLog :=
  es.foldl (fun l e => l.append e.1 e.2.1 e.2.2) l

section

variable {s t m before : State} {i j : Inp} {l : EventLog} {es es' : List LogEntry}

@[simp] theorem EventLog.appendAll_nil (l : EventLog) : l.appendAll [] = l := rfl

theorem EventLog.appendAll_one (l : EventLog) (kind : EventKind) (a b : Nat) :
    l.appendAll [(kind, a, b)] = l.append kind a b := rfl

theorem EventLog.appendAll_cons (l : EventLog) (e : LogEntry) (es : List LogEntry) :
    l.appendAll (e :: es) = (l.append e.1 e.2.1 e.2.2).appendAll es := rfl

theorem EventLog.appendAll_append (l : EventLog) (es es' : List LogEntry) :
    l.appendAll (es ++ es') = (l.appendAll es).appendAll es' := List.foldl_append

theorem EventLog.appendAll_uptime (l : EventLog) (es : List LogEntry) : (l.appendAll es).uptime = l.uptime := by
  induction es generalizing l with
  | nil => rfl
  | cons e es ih => rw [EventLog.appendAll_cons, ih, EventLog.append_uptime]

/-- The record that an entry becomes, at uptime `u`. -/
def LogEntry.record (u : Nat) (e : LogEntry) : EventRec :=
  { uptime := u, kind := e.1, arg1 := BitVec.ofNat 8 e.2.1, arg2 := BitVec.ofNat 8 e.2.2 }

/-- The list takes what fits of the records, in their order. -/
theorem EventLog.appendAll_records (l : EventLog) (es : List LogEntry) : (l.appendAll es).records =
    l.records ++ (es.take (32 - l.records.length)).map (LogEntry.record l.uptime) := by
  induction es generalizing l with
  | nil => simp
  | cons e es ih =>
    rw [EventLog.appendAll_cons, ih, EventLog.append_uptime, EventLog.append_eq]
    split
    · rename_i room
      obtain ⟨n, left⟩ := Nat.exists_eq_add_of_lt room
      have here : 32 - l.records.length = n + 1 := by omega
      have there : 32 - (l.records.length + 1) = n := by omega
      simp only [List.length_append, List.length_cons, List.length_nil, Nat.zero_add, here, there, List.take_succ_cons,
        List.map_cons, List.append_assoc, List.cons_append, List.nil_append]
      rfl
    · rename_i full
      have none : 32 - l.records.length = 0 := by omega
      simp only [none, List.take_zero, List.map_nil]

theorem EventLog.appendAll_fits (room : l.records.length + es.length ≤ 32) : (l.appendAll es).records =
    l.records ++ es.map (LogEntry.record l.uptime) := by
  rw [EventLog.appendAll_records, List.take_of_length_le (by omega)]

/-- Every record appended is of the kind of some entry. -/
theorem EventLog.appendAll_kinds (l : EventLog) (es : List LogEntry) :
    ∀ r ∈ (l.appendAll es).records.drop l.records.length, ∃ e ∈ es, r.kind = e.1 := by
  rw [EventLog.appendAll_records, List.drop_left]
  intro r mem
  obtain ⟨e, taken, rfl⟩ := List.mem_map.mp mem
  exact ⟨e, List.mem_of_mem_take taken, rfl⟩

/-- No record of a kind that no entry has. -/
theorem appended_eq_nil {kind : EventKind} (log : t.log = s.log.appendAll es) (other : ∀ e ∈ es, e.1 ≠ kind) :
    appended kind s t = [] := by
  rw [appended, List.filter_eq_nil_iff, log]
  intro r mem
  obtain ⟨e, entry, same⟩ := s.log.appendAll_kinds es r mem
  simpa [same] using other e entry

/-! ### The Qualifier's records (R52, R64) -/

/-- The record of a move of input `i` to record `r`. -/
def noticeEntries (i : Inp) (r : InputRec) : Notice → List LogEntry
  | .nothing => []
  | .barred => [(.inputBarred, inputNumber i, r.reasons.bits)]
  | .ready w => [(.inputReady, inputNumber i, w.code)]

theorem applyMove_entries (i : Inp) (n : InputRec × Notice) (s : State) :
    (applyMove i n s).log = s.log.appendAll (noticeEntries i n.1 n.2) := by
  rw [applyMove_log]
  obtain ⟨r, n⟩ := n
  cases n <;> rfl

theorem qualify_entries (i : Inp) (x : Reasons) (s : State) : (qualify i x s).log = s.log.appendAll
    (noticeEntries i (s.records[i].move (inputCfg s i) (windowFull s i) x).1
      (s.records[i].move (inputCfg s i) (windowFull s i) x).2) := by
  rw [qualify_eq, applyMove_entries]

/-- The record of input `i`, if it is bound to station `a`, moved on the change of the station's entry. -/
def recomputeEntries (a : Nat) (s : State) (i : Inp) : List LogEntry :=
  if boundTo s a i then
    noticeEntries i ((regraded s i).move (inputCfg s i) (windowFull s i) (regradedReasons s i)).1
      ((regraded s i).move (inputCfg s i) (windowFull s i) (regradedReasons s i)).2
  else []

theorem recompute_entries (i : Inp) (s : State) : (recompute i s).log = s.log.appendAll
    (noticeEntries i ((regraded s i).move (inputCfg s i) (windowFull s i) (regradedReasons s i)).1
      ((regraded s i).move (inputCfg s i) (windowFull s i) (regradedReasons s i)).2) := by
  rw [recompute_eq, qualify_entries, State.withRecord_self]
  rfl

/-- Moves of several inputs, each once, append what each appends on the state before them. -/
theorem MovesOne.entries {f : Inp → State → State} (one : MovesOne f) {entries : State → Inp → List LogEntry}
    (log : ∀ (i : Inp) (t : State), (f i t).log = t.log.appendAll (entries t i))
    (same : ∀ (i : Inp) (s t : State), SameBeside s t → t.records[i] = s.records[i] → entries t i = entries s i) :
    ∀ (inputs : List Inp) (s : State), inputs.Nodup →
      (inputs.foldl (fun t i => f i t) s).log = s.log.appendAll (inputs.flatMap (entries s))
  | [], _, _ => rfl
  | i :: inputs, s, distinct => by
    obtain ⟨absent, distinct'⟩ := List.nodup_cons.mp distinct
    have rest : inputs.flatMap (entries (f i s)) = inputs.flatMap (entries s) := by
      refine List.flatMap_congr fun j mem => same j s (f i s) (one.beside i s) (one.other i j s ?_)
      rintro rfl
      exact absent mem
    rw [List.foldl_cons, MovesOne.entries one log same inputs (f i s) distinct', rest, log, List.flatMap_cons,
      EventLog.appendAll_append]

theorem recomputeBound_entries (a : Nat) (s : State) :
    (recomputeBound a s).log = s.log.appendAll ((List.finRange 6).flatMap (recomputeEntries a s)) := by
  rw [recomputeBound_eq]
  have all := (recompute_movesOne fun i => boundTo s a i).entries (entries := fun t i => if boundTo s a i then
      noticeEntries i ((regraded t i).move (inputCfg t i) (windowFull t i) (regradedReasons t i)).1
        ((regraded t i).move (inputCfg t i) (windowFull t i) (regradedReasons t i)).2 else [])
    (fun i t => ?_) (fun i u t beside record => ?_) (List.finRange 6) s (List.nodup_finRange 6)
  · exact all
  · split
    · exact recompute_entries i t
    · rfl
  · rw [beside.regraded_eq record, regradedReasons, regradedReasons, beside.regraded_eq record, beside.loader, record,
      inputCfg_congr beside.loader, beside.windowFull_eq]

/-! ### The end of an event (R82, R86) -/

/-- The record of a force that names a barred input. -/
def clearedEntries (s : State) : List LogEntry :=
  match s.selector.force with
  | .input f => if s.records[f].state = .barred then [(.forceCleared, inputNumber f, 1)] else []
  | .none => []
  | .holdover => []

theorem clearBarredForce_entries (s : State) : (clearBarredForce s).log = s.log.appendAll (clearedEntries s) := by
  unfold clearBarredForce clearedEntries
  cases force : s.selector.force with
  | none | holdover => rfl
  | input f =>
    dsimp only
    split
    · rw [logEvent_log]
      rfl
    · rfl

/-- The record of a change of the source. -/
def switchEntries (before : State) (cause : Cause) (s : State) : List LogEntry :=
  if sourceOf before = sourceOf s then []
  else [(.switched, 16 * (sourceOf before).code + (sourceOf s).code, cause.code)]

theorem logSwitch_entries (before : State) (cause : Cause) (s : State) :
    (logSwitch before cause s).log = s.log.appendAll (switchEntries before cause s) := by
  unfold logSwitch switchEntries
  split
  · rfl
  · rw [logEvent_log]
    rfl

/-- The record of the Selector's part of the end of an event. -/
def turnEntries (before : State) (must expired : Bool) (s : State) : List LogEntry :=
  if must || evaluationDue before s then
    switchEntries before (if expired then .expired else (evaluate before.selector.active s).2)
      (evaluate before.selector.active s).1
  else []

theorem selectorTurn_entries (before : State) (must expired : Bool) (s : State) :
    (selectorTurn before must expired s).log = s.log.appendAll (turnEntries before must expired s) := by
  simp only [selectorTurn, turnEntries]
  split
  · rw [logSwitch_entries, evaluate_log]
  · rfl

/-- What the end of an event appends. -/
def endEntries (before : State) (must expired : Bool) (s : State) : List LogEntry :=
  clearedEntries s ++ turnEntries before must expired (clearBarredForce s)

theorem settleEvent_entries (before : State) (must expired : Bool) (s : State) :
    (settleEvent before must expired s).log = s.log.appendAll (endEntries before must expired s) := by
  rw [endEntries, EventLog.appendAll_append, ← clearBarredForce_entries, ← selectorTurn_entries]
  simp [settleEvent]

/-! ### The kinds appended -/

theorem noticeEntries_kind (i : Inp) (r : InputRec) (n : Notice) :
    ∀ e ∈ noticeEntries i r n, e.1 = .inputBarred ∨ e.1 = .inputReady := by
  cases n <;> simp [noticeEntries]

theorem recomputeEntries_kind (a : Nat) (s : State) :
    ∀ e ∈ (List.finRange 6).flatMap (recomputeEntries a s), e.1 = .inputBarred ∨ e.1 = .inputReady := by
  intro e mem
  obtain ⟨i, -, mem⟩ := List.mem_flatMap.mp mem
  unfold recomputeEntries at mem
  split at mem
  · exact noticeEntries_kind _ _ _ e mem
  · cases mem

theorem endEntries_kind (before : State) (must expired : Bool) (s : State) :
    ∀ e ∈ endEntries before must expired s, e.1 = .forceCleared ∨ e.1 = .switched := by
  intro e mem
  rcases List.mem_append.mp mem with mem | mem
  · unfold clearedEntries at mem
    repeat' split at mem
    all_goals simp_all
  · unfold turnEntries switchEntries at mem
    repeat' split at mem
    all_goals simp_all

end
end Sys2Proof.Machine
end


section
/-! PROOF. O31 to O34, O36, O37: what a whole frame, accepted or discarded, and the ageing of an entry change. -/

namespace Sys2Proof.Machine

section

variable {s t w before : State} {kind : Byte} {f : RxFrame} {k : Slot} {i : Inp} {e : PeerEntry}
  {entry : Option PeerEntry}

/-! ### A whole frame is heard (R118, R119, R124) -/

theorem frameHeard_eq (free : s.bus.tx ≠ .sending) : frameHeard kind f s = s.withBus (heardBus kind f s.bus) := by
  have rest := restKept_restAfter s.bus free
  rcases frameHeard_cases kind f s with ⟨displaced, eq⟩ | ⟨own, eq⟩
  · have other : Displaced (frameChars kind f) s.bus := displaced
    have rest' : restKept (countBad s).bus = restAfter s.bus := rest
    rw [eq, lineFree, rest', heardBus, if_pos other]
    rfl
  · have alone : ¬Displaced (frameChars kind f) s.bus := own
    rw [eq, lineFree, rest, heardBus, if_neg alone]

theorem hears_iff : hears s f = true ↔ running s = true ∧ s.bus.tx ≠ .sending ∧ f.payload.length ≤ 12 ∧
    (f.dest.toNat = 0 ∨ f.dest.toNat = s.loader.ownAddress) := by
  simp [hears, listening, lengthOk, forUs, and_assoc]

/-- The state in which the checks find an intact frame: it is counted, and the line is free. -/
def heard (kind : Byte) (f : RxFrame) (s : State) : State :=
  s.withBus { heardBus kind f s.bus with intact := min 65535 (s.bus.intact + 1) }

theorem receive_eq (hears : hears s f = true) (good : intact kind f = true) :
    receive kind f s = applyVerdict (verdict s kind f) kind f (heard kind f s) := by
  obtain ⟨-, free, -⟩ := hears_iff.mp hears
  rw [receive, if_pos (by rw [hears, good]; rfl), handOver, frameHeard_eq free]
  rfl

theorem announceReceived_eq (f : RxFrame) (s : State) : exec (.announceReceived f) s = .next (receive kindAnnounce f s) := rfl
theorem queryReceived_eq (f : RxFrame) (s : State) : exec (.queryReceived f) s = .next (receive kindQuery f s) := rfl
theorem withdrawReceived_eq (f : RxFrame) (s : State) : exec (.withdrawReceived f) s = .next (receive kindWithdraw f s) := rfl

theorem malformedFrame_eq (unknown : knownKind kind = false) : exec (.malformedFrame kind f) s = .next (receive kind f s) := by
  show Host.Outcome.next _ = _
  rw [if_neg (by simp [unknown])]

theorem receive_accepted (hears : hears s f = true) (good : intact kind f = true) (number : f.source.toNat = k.val + 1)
    (accepted : verdict s kind f = .accepted) :
    receive kind f s = actOn kind f k (countWindow k (heard kind f s)) := by
  rw [receive_eq hears good, accepted, applyVerdict, slotOf_eq_some number]
  exact if_pos rfl

theorem rateCounted_eq (w : Option RateWindow) : rateCounted w =
    some { count := (w.map RateWindow.count).getD 0 + 1, left := (w.map RateWindow.left).getD 20000000 } := by
  cases w with
  | none => rfl
  | some w => rfl

/-- An accepted frame counts in its source's rate window (R154). -/
theorem countWindow_peers (k : Slot) (s : State) : (countWindow k s).peers = { s.peers with
    windows := s.peers.windows.set k (some
      { count := (s.peers.windows[k].map RateWindow.count).getD 0 + 1,
        left := (s.peers.windows[k].map RateWindow.left).getD 20000000 }) } := by
  rw [countWindow, rateCounted_eq]
  rfl

/-! ### A change of an entry, handed on (R6, R161) -/

theorem boundTo_address (peer : (inputCfg w i).use = .peer) (bound : (inputCfg w i).bound = k.val + 1) :
    boundTo w (address k) i = true := (boundTo_iff ..).mpr ⟨peer, bound⟩

theorem slotOf_address (k : Slot) : slotOf (address k) = some k := slotOf_eq_some rfl

theorem changed_kept (before : State) (k : Slot) (w : State) :
    EventKept w (settleEvent before false false (recomputeBound (address k) w)) :=
  (recomputeBound_kept ..).trans (settleEvent_kept ..)

theorem changed_monitors (before : State) (k : Slot) (w : State) :
    (settleEvent before false false (recomputeBound (address k) w)).monitors = w.monitors := by simp

/-- What a change of the entry of station `k`, handed on, appends after its own record. -/
def changedEntries (before : State) (k : Slot) (w : State) : List LogEntry :=
  (List.finRange 6).flatMap (recomputeEntries (address k) w) ++
    endEntries before false false (recomputeBound (address k) w)

theorem changed_entries (before : State) (k : Slot) (w : State) :
    (settleEvent before false false (recomputeBound (address k) w)).log = w.log.appendAll (changedEntries before k w) := by
  rw [settleEvent_entries, recomputeBound_entries, changedEntries, EventLog.appendAll_append]

theorem changedEntries_kind (before : State) (k : Slot) (w : State) : ∀ e ∈ changedEntries before k w,
    e.1 = .inputBarred ∨ e.1 = .inputReady ∨ e.1 = .forceCleared ∨ e.1 = .switched := by
  intro e mem
  rcases List.mem_append.mp mem with mem | mem
  · exact (recomputeEntries_kind _ _ e mem).imp_right .inl
  · exact .inr (.inr (endEntries_kind _ _ _ _ e mem))

theorem changed_unbound (before : State) (free : ¬((inputCfg w i).use = .peer ∧ (inputCfg w i).bound = k.val + 1)) :
    OnlySelected w.records[i] (settleEvent before false false (recomputeBound (address k) w)).records[i] := by
  have record : (recomputeBound (address k) w).records[i] = w.records[i] := by
    rw [recomputeBound_get, if_neg]
    rw [boundTo_iff]
    exact free
  have moved := settleEvent_records before false false (recomputeBound (address k) w) i
  rwa [record] at moved

theorem regraded_of_entry (bound : (inputCfg w i).bound = k.val + 1) (found : w.peers.entries[k] = entry) :
    regraded w i = { w.records[i] with
      raw := peerRaw entry, effective := max (peerRaw entry) (inputCfg w i).ceiling
      hop := (peerPath entry).length, path := peerPath entry } := by
  have at' : entryOf w (inputCfg w i).bound = entry := by
    rw [bound, ← found, entryOf, slotOf_eq_some (k := k) rfl]
  rw [regraded, at']

/-- A bound input takes the grade, path and hop count of the entry. -/
theorem changed_bound (before : State) (peer : (inputCfg w i).use = .peer) (bound : (inputCfg w i).bound = k.val + 1)
    (found : w.peers.entries[k] = entry) :
    (settleEvent before false false (recomputeBound (address k) w)).records[i].raw = peerRaw entry ∧
    (settleEvent before false false (recomputeBound (address k) w)).records[i].effective =
      max (peerRaw entry) (inputCfg w i).ceiling ∧
    (settleEvent before false false (recomputeBound (address k) w)).records[i].path = peerPath entry ∧
    (settleEvent before false false (recomputeBound (address k) w)).records[i].hop = (peerPath entry).length := by
  have moved := settleEvent_records before false false (recomputeBound (address k) w) i
  rw [recomputeBound_get, if_pos (boundTo_address peer bound), recompute_self] at moved
  obtain ⟨raw, effective, hop, path⟩ := (regraded w i).move_grade (inputCfg w i) (windowFull w i) (regradedReasons w i)
  rw [moved]
  refine ⟨raw.trans ?_, effective.trans ?_, path.trans ?_, hop.trans ?_⟩ <;> rw [regraded_of_entry bound found]

/-- GRADE bars every used input (R46, R47). -/
theorem InputRec.move_grade_bars {r : InputRec} {x : Reasons} (c : InputCfg) (full : Bool) (on : r.state ≠ .off)
    (grade : x.grade = true) : (r.move c full x).1.state = .barred ∧ (r.move c full x).1.reasons = x := by
  have notNone : x.none = false := by
    rw [Reasons.none_eq_false_iff]
    rintro rfl
    cases grade
  have notAlone : x.onlySignal = false := by
    rw [Bool.eq_false_iff, Ne, Reasons.onlySignal_iff]
    rintro rfl
    cases grade
  have usable (origin : Origin) : r.usableMove c origin x = (r.bar x, .barred) := by
    rw [InputRec.usableMove, if_neg (by simp [notNone]), if_neg (by simp [notAlone])]
  cases state : r.state with
  | off => exact absurd state on
  | barred =>
    rw [r.move_barred_joins c full x state notNone]
    exact ⟨state, rfl⟩
  | proving =>
    rw [r.move_proving_bars c full x state notNone]
    exact ⟨rfl, rfl⟩
  | ready | active =>
    simp only [InputRec.move, state, usable]
    exact ⟨rfl, rfl⟩
  | suspect =>
    simp only [InputRec.move, state, notNone, notAlone, Bool.false_eq_true, if_false]
    exact ⟨rfl, rfl⟩

/-- A used input bound to a station that no longer announces is BARRED with GRADE (R59). -/
theorem changed_barred (before : State) (peer : (inputCfg w i).use = .peer) (bound : (inputCfg w i).bound = k.val + 1)
    (found : w.peers.entries[k] = entry) (unfit : max (peerRaw entry) (inputCfg w i).ceiling = 15)
    (on : w.records[i].state ≠ .off) :
    (settleEvent before false false (recomputeBound (address k) w)).records[i].state = .barred ∧
    (settleEvent before false false (recomputeBound (address k) w)).records[i].reasons =
      pathReasons w.loader.ownAddress 15 (peerPath entry) w.records[i].reasons := by
  have grade : (regradedReasons w i).grade = true := by
    rw [regradedReasons, regraded_of_entry bound found]
    exact decide_eq_true unfit
  have on' : (regraded w i).state ≠ .off := by
    rw [regraded_of_entry bound found]
    exact on
  obtain ⟨state, reasons⟩ := InputRec.move_grade_bars (inputCfg w i) (windowFull w i) on' grade
  have record : (recomputeBound (address k) w).records[i] =
      ((regraded w i).move (inputCfg w i) (windowFull w i) (regradedReasons w i)).1 := by
    rw [recomputeBound_get, if_pos (boundTo_address peer bound), recompute_self]
  rw [settleEvent_barred before false false (by rw [record]; exact state), record]
  refine ⟨state, reasons.trans ?_⟩
  rw [regradedReasons, regraded_of_entry bound found, unfit]

/-- The ceiling of a used input of a RUNNING part is 1 to 15 (R171, R174). -/
theorem ceiling_le (on : running s = true) (law : LoaderLaw s) (peer : (inputCfg s i).use = .peer) :
    (inputCfg s i).ceiling ≤ 15 := by
  obtain ⟨noHold, part⟩ := (running_iff s).mp on
  obtain ⟨-, -, -, held, range⟩ := law noHold
  obtain ⟨-, -, -, -, -, -, -, -, -, inputs⟩ := (range (held part)).1
  have used : s.loader.buffer.inputs[i].use ≠ .off := by
    have h : s.loader.buffer.inputs[i].use = .peer := peer
    rw [h]
    decide
  obtain ⟨-, -, -, ceiling, -⟩ := (inputs i).1 used
  exact ceiling.2

theorem unfit_of_not_fresh (gone : entry.all (fun e => decide (e.state ≠ .fresh)) = true) : peerRaw entry = 15 := by
  cases entry with
  | none => rfl
  | some e => exact if_neg (by simpa using gone)

/-- What a change of the entry of station `k` to `entry` makes of a state, but for its table, Announcer and bus. -/
structure EntryChange (s : State) (k : Slot) (entry : Option PeerEntry) (t : State) : Prop where
  part : SamePart s t
  log : LogGrown s t
  warm : SameWarm s t
  monitors : t.monitors = s.monitors
  port : t.port = s.port
  bound : ∀ i : Inp, (inputCfg s i).use = .peer → (inputCfg s i).bound = k.val + 1 →
    t.records[i].raw = peerRaw entry ∧ t.records[i].effective = max (peerRaw entry) (inputCfg s i).ceiling ∧
    t.records[i].path = peerPath entry ∧ t.records[i].hop = (peerPath entry).length
  barred : ∀ i : Inp, (inputCfg s i).use = .peer → (inputCfg s i).bound = k.val + 1 →
    max (peerRaw entry) (inputCfg s i).ceiling = 15 → s.records[i].state ≠ .off → t.records[i].state = .barred ∧
    t.records[i].reasons = pathReasons s.loader.ownAddress 15 (peerPath entry) s.records[i].reasons
  unbound : ∀ i : Inp, ¬((inputCfg s i).use = .peer ∧ (inputCfg s i).bound = k.val + 1) →
    OnlySelected s.records[i] t.records[i]

/-- An entry put in place and handed on, at the end of the event. -/
theorem EntryPut.changed (put : EntryPut s k entry w) :
    EntryChange s k entry (settleEvent s false false (recomputeBound (address k) w)) where
  part := by
    obtain ⟨hold, cause, pins, loader, pending⟩ := (changed_kept s k w).part
    exact ⟨hold.trans put.hold, cause.trans put.cause, pins.trans put.pins, loader.trans put.loader,
      pending.trans put.pending⟩
  log := by
    refine .trans ?_ (changed_kept s k w).log
    rcases put.log with same | ⟨kind, a, b, -, added⟩
    · exact logGrown_of_eq same
    · exact logGrown_of_append added
  warm := .trans (sameWarm_of_eq put.follower) (changed_kept s k w).warm
  monitors := (changed_monitors s k w).trans put.monitors
  port := (changed_kept s k w).port.trans put.port
  bound i peer bound := by
    have found : w.peers.entries[k] = entry := by rw [put.peers, State.withEntry_get, if_pos rfl]
    rw [← inputCfg_congr put.loader i] at peer bound ⊢
    exact changed_bound s peer bound found
  barred i peer bound unfit on := by
    have found : w.peers.entries[k] = entry := by rw [put.peers, State.withEntry_get, if_pos rfl]
    rw [← inputCfg_congr put.loader i] at peer bound unfit
    rw [← put.records] at on ⊢
    rw [← put.loader]
    exact changed_barred s peer bound found unfit on
  unbound i free := by
    rw [← inputCfg_congr put.loader i] at free
    rw [← put.records]
    exact changed_unbound s free

/-- What becomes of the inputs bound to a station whose entry is not FRESH, or is gone. -/
theorem EntryChange.unfit (change : EntryChange s k entry t) (on : running s = true) (law : LoaderLaw s)
    (gone : entry.all (fun e => decide (e.state ≠ .fresh)) = true) (peer : (inputCfg s i).use = .peer)
    (bound : (inputCfg s i).bound = k.val + 1) :
    t.records[i].raw = 15 ∧ t.records[i].effective = 15 ∧ t.records[i].path = peerPath entry ∧
    t.records[i].hop = (peerPath entry).length ∧ (s.records[i].state ≠ .off → t.records[i].state = .barred ∧
      t.records[i].reasons = pathReasons s.loader.ownAddress 15 (peerPath entry) s.records[i].reasons) := by
  have unfit := unfit_of_not_fresh gone
  have most : max (peerRaw entry) (inputCfg s i).ceiling = 15 := by
    rw [unfit]
    exact max_eq_left (ceiling_le on law peer)
  obtain ⟨raw, effective, path, hop⟩ := change.bound i peer bound
  exact ⟨raw.trans unfit, effective.trans most, path, hop, change.barred i peer bound most⟩

/-! ### Verdicts after a change -/

theorem verdict_ne_sequence (number : f.source.toNat = k.val + 1)
    (allows : sequenceAllows kind f s.peers.entries[k] = true) : verdict s kind f ≠ .sequence := by
  by_cases own : f.source.toNat = s.loader.ownAddress
  · simp [verdict_own number own]
  · rw [verdict_other number own, judgeSource]
    simp only [allows, Bool.not_true, Bool.false_eq_true, if_false]
    repeat' split
    all_goals simp

/-- An ANNOUNCE from a station with no FRESH entry is newer than what the table holds (R155). -/
theorem sequenceAllows_announce (gone : entry.all (fun e => decide (e.state ≠ .fresh)) = true) (f : RxFrame) :
    sequenceAllows kindAnnounce f entry = true := by
  cases entry with
  | none => rfl
  | some e =>
    have stale : e.state ≠ .fresh := by simpa using gone
    simp [sequenceAllows, stale]

theorem slot_of_sequence (h : verdict s kind f = .sequence) : ∃ k : Slot, f.source.toNat = k.val + 1 := by
  by_cases inside : 1 ≤ f.source.toNat ∧ f.source.toNat ≤ 24
  · refine ⟨⟨f.source.toNat - 1, by omega⟩, ?_⟩
    dsimp only
    omega
  · rw [verdict_outside inside] at h
    cases h

/-- A frame that fails the last check alone has counted in its source's window (R154, R155). -/
theorem applyVerdict_sequence (number : f.source.toNat = k.val + 1) (s : State) :
    applyVerdict .sequence kind f s = countSequence (countWindow k s) := by
  rw [applyVerdict, slotOf_eq_some number]
  exact if_neg (by decide)

theorem setDuplicate_set {cause arg : Nat} (set : s.bus.duplicate = true) : setDuplicate cause arg s = s := if_pos set

theorem setDuplicate_new {cause arg : Nat} (new : s.bus.duplicate = false) : setDuplicate cause arg s =
    logEvent .duplicate cause arg (s.withBus { s.bus with duplicate := true, tx := .silent }) := if_neg (by simp [new])

theorem entry_of_accepted_withdraw (number : f.source.toNat = k.val + 1) (accepted : verdict s kindWithdraw f = .accepted) :
    ∃ e : PeerEntry, s.peers.entries[k] = some e := by
  obtain ⟨j, number', -, judged⟩ := verdict_accepted_iff.mp accepted
  obtain rfl : j = k := Fin.ext (by omega)
  obtain ⟨-, -, -, -, known, -⟩ := judgeSource_accepted_iff.mp judged
  exact Option.ne_none_iff_exists'.mp (known rfl)

theorem announced_of_accepted (accepted : verdict s kindAnnounce f = .accepted) :
    ∃ a : Announced, readAnnounce f.source.toNat f.payload = some a := by
  obtain ⟨j, -, -, judged⟩ := verdict_accepted_iff.mp accepted
  obtain ⟨-, -, valid, -⟩ := judgeSource_accepted_iff.mp judged
  exact Option.isSome_iff_exists.mp ((readAnnounce_isSome_iff _ _).mpr (valid rfl))

/-! ### The entry rows -/

theorem entryStale_of_none (absent : s.peers.entries[k] = none) : exec (.entryStale k) s = .next s := by
  show Host.Outcome.next _ = _
  rw [absent]

theorem entryRemoval_of_none (absent : s.peers.entries[k] = none) : exec (.entryRemoval k) s = .next s := by
  show Host.Outcome.next _ = _
  rw [absent]

theorem entryStale_of_some (found : s.peers.entries[k] = some e) : exec (.entryStale k) s =
    .next (if running s && decide (e.state = .fresh) && e.due then goStale k e s else s) := by
  show Host.Outcome.next _ = _
  rw [found]

theorem entryRemoval_of_some (found : s.peers.entries[k] = some e) : exec (.entryRemoval k) s =
    .next (if running s && decide (e.state ≠ .fresh) && e.due then removeEntry k e s else s) := by
  show Host.Outcome.next _ = _
  rw [found]

theorem entryStale_waits (found : s.peers.entries[k] = some e) (waits : e.state ≠ .fresh ∨ e.due = false) :
    exec (.entryStale k) s = .next s := by
  rw [entryStale_of_some found, if_neg]
  rcases waits with h | h <;> simp [h]

theorem entryRemoval_waits (found : s.peers.entries[k] = some e) (waits : e.state = .fresh ∨ e.due = false) :
    exec (.entryRemoval k) s = .next s := by
  rw [entryRemoval_of_some found, if_neg]
  rcases waits with h | h <;> simp [h]

theorem due_eq_false (early : e.ageCycles + 1 < entrySeconds e * 20000000) : e.due = false := by
  rw [Bool.eq_false_iff, Ne, PeerEntry.due_iff, second]
  omega

/-! ### The accepted frames -/

theorem announced_put (k : Slot) (e : Option PeerEntry) (s : State) : EntryPut s k e (s.withEntry k e) :=
  ⟨rfl, rfl, rfl, rfl, rfl, rfl, rfl, rfl, rfl, rfl, rfl, rfl, rfl, .inl rfl⟩

theorem acceptAnnounce_eq {a : Announced} (read : readAnnounce f.source.toNat f.payload = some a) (s : State) :
    acceptAnnounce k f s = settleEvent s false false (recomputeBound (address k)
      (s.withEntry k (some (announcedEntry f a)))) := by
  rw [acceptAnnounce, read]
  rfl

/-- PEER_WITHDRAWN, but for an entry that was WITHDRAWN. -/
def withdrawnRecord (k : Slot) (e : PeerEntry) (t : State) : State :=
  if e.state = .withdrawn then t else logEvent .peerWithdrawn (address k) e.state.code t

/-- The table with an entry WITHDRAWN by frame `f`, recorded. -/
def withdrawnState (k : Slot) (f : RxFrame) (e : PeerEntry) (s : State) : State :=
  withdrawnRecord k e (s.withEntry k (some { e with state := .withdrawn, lastSeq := f.seq, ageCycles := 0 }))

theorem acceptWithdraw_eq (found : s.peers.entries[k] = some e) : acceptWithdraw k f s =
    settleEvent s false false (recomputeBound (address k) (withdrawnState k f e s)) := by
  rw [acceptWithdraw, found]
  rfl

theorem announceReceived_accepted {a : Announced} (hears : hears s f = true) (good : intact kindAnnounce f = true)
    (number : f.source.toNat = k.val + 1) (accepted : verdict s kindAnnounce f = .accepted)
    (read : readAnnounce f.source.toNat f.payload = some a) : exec (.announceReceived f) s = .next
      (settleEvent (countWindow k (heard kindAnnounce f s)) false false (recomputeBound (address k)
        ((countWindow k (heard kindAnnounce f s)).withEntry k (some (announcedEntry f a))))) := by
  rw [announceReceived_eq, receive_accepted hears good number accepted, actOn, if_pos rfl, acceptAnnounce_eq read]

theorem queryReceived_accepted (hears : hears s f = true) (good : intact kindQuery f = true)
    (number : f.source.toNat = k.val + 1) (accepted : verdict s kindQuery f = .accepted) :
    exec (.queryReceived f) s = .next (acceptQuery (countWindow k (heard kindQuery f s))) := by
  rw [queryReceived_eq, receive_accepted hears good number accepted, actOn, if_neg (by decide), if_pos rfl]

theorem withdrawReceived_accepted (hears : hears s f = true) (good : intact kindWithdraw f = true)
    (number : f.source.toNat = k.val + 1) (accepted : verdict s kindWithdraw f = .accepted)
    (found : s.peers.entries[k] = some e) : exec (.withdrawReceived f) s = .next
      (settleEvent (countWindow k (heard kindWithdraw f s)) false false (recomputeBound (address k)
        (withdrawnState k f e (countWindow k (heard kindWithdraw f s))))) := by
  rw [withdrawReceived_eq, receive_accepted hears good number accepted, actOn, if_neg (by decide), if_neg (by decide),
    acceptWithdraw_eq (e := e)]
  exact found

theorem withdrawnState_put (k : Slot) (f : RxFrame) (e : PeerEntry) (s : State) :
    EntryPut s k (some { e with state := .withdrawn, lastSeq := f.seq, ageCycles := 0 }) (withdrawnState k f e s) := by
  unfold withdrawnState withdrawnRecord
  split
  · exact ⟨rfl, rfl, rfl, rfl, rfl, rfl, rfl, rfl, rfl, rfl, rfl, rfl, rfl, .inl rfl⟩
  · exact .of_record (.inr (.inl rfl)) rfl

theorem anyBound_iff (s : State) (k : Slot) : anyBound s (address k) = true ↔
    ∃ i : Inp, (inputCfg s i).use = .peer ∧ (inputCfg s i).bound = k.val + 1 := by
  simp [anyBound, boundTo_iff, address]

theorem joinQueries_eq (queries : List Nat) (dest : Nat) : joinQueries queries dest =
    if dest ∉ queries then queries ++ [dest] else queries := by
  by_cases h : dest ∈ queries <;> simp [joinQueries, h]

/-- The query list takes the address of a bound station, once (R144). -/
theorem queryLost_announcer (k : Slot) (s : State) : (queryLost (address k) s).announcer = { s.announcer with
    queries := if (∃ i : Inp, (inputCfg s i).use = .peer ∧ (inputCfg s i).bound = k.val + 1) ∧
      k.val + 1 ∉ s.announcer.queries then s.announcer.queries ++ [k.val + 1] else s.announcer.queries } := by
  unfold queryLost
  by_cases bound : anyBound s (address k) = true
  · rw [if_pos bound]
    simp only [(anyBound_iff s k).mp bound, true_and, State.withAnnouncer_announcer, joinQueries_eq, address]
  · rw [if_neg bound, if_neg (fun h => bound ((anyBound_iff s k).mpr h.1))]

/-- The table with an entry STALE, recorded, and its address in the query list. -/
def staleState (k : Slot) (e : PeerEntry) (s : State) : State :=
  queryLost (address k) (logEvent .peerLost (address k) (classCode e.cls)
    (s.withEntry k (some { e with state := .stale, ageCycles := atSeconds (3 * e.interval) })))

theorem staleState_put (k : Slot) (e : PeerEntry) (s : State) :
    EntryPut s k (some { e with state := .stale, ageCycles := atSeconds (3 * e.interval) }) (staleState k e s) :=
  queryLost_put _ (.of_record (.inl rfl) rfl)

theorem goStale_eq (k : Slot) (e : PeerEntry) (s : State) : goStale k e s =
    settleEvent s false false (recomputeBound (address k) (staleState k e s)) := rfl

theorem staleState_log (k : Slot) (e : PeerEntry) (s : State) :
    (staleState k e s).log = s.log.append .peerLost (k.val + 1) (classCode e.cls) := by
  unfold staleState queryLost
  split <;> rfl

theorem staleState_announcer (k : Slot) (e : PeerEntry) (s : State) : (staleState k e s).announcer = { s.announcer with
    queries := if (∃ i : Inp, (inputCfg s i).use = .peer ∧ (inputCfg s i).bound = k.val + 1) ∧
      k.val + 1 ∉ s.announcer.queries then s.announcer.queries ++ [k.val + 1] else s.announcer.queries } :=
  queryLost_announcer k _

theorem removeEntry_eq (k : Slot) (e : PeerEntry) (s : State) : removeEntry k e s =
    settleEvent s false false (recomputeBound (address k)
      (logEvent .peerGone (address k) e.state.code (s.withEntry k none))) := rfl

end
end Sys2Proof.Machine

open Sys2Proof Sys2Proof.Machine

/-- Settles O31. -/
theorem announceAccepted : Obligations.AnnounceAccepted := by
  unfold Obligations.AnnounceAccepted
  intro f k a s hears good number accepted read
  refine ⟨_, announceReceived_accepted hears good number accepted read, ?_⟩
  have put := announced_put k (some (announcedEntry f a)) (countWindow k (heard kindAnnounce f s))
  obtain ⟨-, -, announcer, bus, -, peers, -⟩ := changed_kept (countWindow k (heard kindAnnounce f s)) k
    ((countWindow k (heard kindAnnounce f s)).withEntry k (some (announcedEntry f a)))
  have change := put.changed
  generalize settleEvent (countWindow k (heard kindAnnounce f s)) false false _ = t at announcer bus peers change
  obtain ⟨part, log, warm, monitors, port, bound, -, unbound⟩ := change
  refine ⟨?_, bus, bound, unbound, part, log, announcer, warm, monitors, port⟩
  rw [peers, State.withEntry, countWindow_peers]
  rfl

/-- Settles O32. -/
theorem queryAccepted : Obligations.QueryAccepted := by
  unfold Obligations.QueryAccepted
  intro f k s hears good number accepted
  refine ⟨_, queryReceived_accepted hears good number accepted, ?_⟩
  rw [acceptQuery, syncWant_eq]
  exact ⟨rfl, countWindow_peers k (heard kindQuery f s), rfl, ⟨rfl, rfl, rfl, rfl, rfl⟩, rfl, rfl, rfl, rfl, rfl, rfl⟩

/-- Settles O33. -/
theorem withdrawAccepted : Obligations.WithdrawAccepted := by
  unfold Obligations.WithdrawAccepted
  intro f k e s hears good number accepted found law
  refine ⟨_, withdrawReceived_accepted hears good number accepted found, ?_⟩
  have on : running s = true := (hears_iff.mp hears).1
  have put := withdrawnState_put k f e (countWindow k (heard kindWithdraw f s))
  have record : (withdrawnState k f e (countWindow k (heard kindWithdraw f s))).log = s.log.appendAll
      (if e.state = .withdrawn then [] else [(.peerWithdrawn, address k, e.state.code)]) := by
    unfold withdrawnState withdrawnRecord
    split <;> rfl
  obtain ⟨-, grown, announcer, bus, -, peers, -⟩ := changed_kept (countWindow k (heard kindWithdraw f s)) k
    (withdrawnState k f e (countWindow k (heard kindWithdraw f s)))
  have change := put.changed
  have added : (settleEvent (countWindow k (heard kindWithdraw f s)) false false (recomputeBound (address k)
      (withdrawnState k f e (countWindow k (heard kindWithdraw f s))))).log = (withdrawnState k f e
      (countWindow k (heard kindWithdraw f s))).log.appendAll (changedEntries (countWindow k (heard kindWithdraw f s)) k
        (withdrawnState k f e (countWindow k (heard kindWithdraw f s)))) := changed_entries ..
  have kinds := changedEntries_kind (countWindow k (heard kindWithdraw f s)) k
        (withdrawnState k f e (countWindow k (heard kindWithdraw f s)))
  have table : (withdrawnState k f e (countWindow k (heard kindWithdraw f s))).peers = _ := put.peers
  generalize changedEntries _ k _ = es at added kinds
  generalize settleEvent (countWindow k (heard kindWithdraw f s)) false false _ = t at announcer bus peers change grown added
  obtain ⟨part, log, warm, monitors, port, -, -, unbound⟩ := id change
  refine ⟨?_, fun fresh room => ?_, fun again => ?_, fun i peer bound => ?_, unbound, ?_, part, log, ?_, warm, monitors, port⟩
  · rw [peers, table, State.withEntry, countWindow_peers]
    rfl
  · rw [if_neg fresh] at record
    exact grown.first record room
  · rw [if_pos again] at record
    refine appended_eq_nil (added.trans (by rw [record]; rfl)) fun e mem => ?_
    rcases kinds e mem with h | h | h | h <;> simp [h]
  · obtain ⟨raw, effective, path, hop, barred⟩ := change.unfit on law rfl peer bound
    refine ⟨raw, effective, path, hop, fun used => ?_⟩
    obtain ⟨state, reasons⟩ := barred used
    exact ⟨state, by rw [reasons]; rfl⟩
  · rw [bus]
    unfold withdrawnState withdrawnRecord
    split <;> rfl
  · have same : (withdrawnState k f e (countWindow k (heard kindWithdraw f s))).announcer = s.announcer := by
      unfold withdrawnState withdrawnRecord
      split <;> rfl
    rw [SameAnnouncer, same] at announcer
    exact announcer

/-- Settles O34. -/
theorem discardedFrames : Obligations.DiscardedFrames := by
  unfold Obligations.DiscardedFrames
  intro c kind f s hears good discarded named
  have row : exec c s = .next (applyVerdict (verdict s kind f) kind f (heard kind f s)) := by
    rw [← receive_eq hears good]
    rcases named with ⟨rfl, rfl⟩ | ⟨rfl, rfl⟩ | ⟨rfl, rfl⟩ | ⟨rfl, unknown⟩
    · exact announceReceived_eq f s
    · exact queryReceived_eq f s
    · exact withdrawReceived_eq f s
    · exact malformedFrame_eq unknown
  refine ⟨_, row, ?_⟩
  cases v : verdict s kind f with
  | accepted => exact absurd v discarded
  | malformed | untrusted | rate =>
    exact ⟨rfl, rfl, rfl, rfl, rfl, rfl, fun _ => rfl, (fun h => by cases h), (fun h => by cases h),
      fun _ => ⟨rfl, rfl, rfl⟩, rfl, ⟨⟨rfl, rfl, rfl, rfl, rfl⟩, rfl, rfl, rfl, rfl⟩, rfl, rfl⟩
  | sequence =>
    obtain ⟨k, number⟩ := slot_of_sequence v
    rw [applyVerdict_sequence number]
    have table := countWindow_peers k (heard kind f s)
    refine ⟨rfl, rfl, rfl, rfl, rfl, rfl, fun h => absurd rfl h, fun _ j number' => ?_, (fun h => by cases h),
      fun _ => ⟨rfl, rfl, rfl⟩, rfl, ⟨⟨rfl, rfl, rfl, rfl, rfl⟩, rfl, rfl, rfl, rfl⟩, rfl, rfl⟩
    obtain rfl : k = j := Fin.ext (by omega)
    exact congrArg PeerTable.windows table
  | ownSource =>
    have row : applyVerdict .ownSource kind f (heard kind f s) = setDuplicate 2 kind.toNat (countUntrusted (heard kind f s)) := rfl
    rw [row]
    cases duplicate : s.bus.duplicate with
    | true =>
      rw [setDuplicate_set (s := countUntrusted (heard kind f s)) duplicate]
      exact ⟨rfl, rfl, rfl, rfl, rfl, rfl, fun _ => rfl, (fun h => by cases h),
        fun _ => ⟨duplicate, fun new => by cases new⟩, fun _ => ⟨rfl, rfl, duplicate⟩, rfl,
        ⟨⟨rfl, rfl, rfl, rfl, rfl⟩, rfl, rfl, rfl, rfl⟩, rfl, rfl⟩
    | false =>
      rw [setDuplicate_new (s := countUntrusted (heard kind f s)) duplicate]
      refine ⟨rfl, rfl, rfl, rfl, rfl, rfl, fun _ => rfl, (fun h => by cases h),
        fun _ => ⟨rfl, fun _ => ⟨rfl, fun room => ?_⟩⟩, (fun h => by simp at h), rfl,
        ⟨⟨rfl, rfl, rfl, rfl, rfl⟩, rfl, rfl, rfl, rfl⟩, rfl, rfl⟩
      rw [logEvent_log, EventLog.append_eq, if_pos (by exact room)]
      simp only [BitVec.ofNat_toNat, BitVec.setWidth_eq]
      rfl

/-- Settles O36. -/
theorem entryGoesStale : Obligations.EntryGoesStale := by
  unfold Obligations.EntryGoesStale
  intro k e f g s on
  refine ⟨fun found fresh old law => ?_, fun found waits => ?_, fun absent => ⟨entryStale_of_none absent, entryRemoval_of_none absent⟩,
    fun hears good number accepted => ?_⟩
  · have due : e.due = true := by
      rw [PeerEntry.due_iff, entrySeconds, if_neg (by simp [fresh])]
      exact old
    have row : exec (.entryStale k) s = .next (goStale k e s) := by
      rw [entryStale_of_some found, if_pos (by simp [on, fresh, due])]
    refine ⟨_, row, ?_⟩
    beta_reduce
    rw [goStale_eq]
    have put := staleState_put k e s
    have record := staleState_log k e s
    have queried := staleState_announcer k e s
    obtain ⟨-, grown, announcer, bus, -, peers, -⟩ := changed_kept s k (staleState k e s)
    have change := put.changed
    generalize staleState k e s = w at put record queried announcer bus peers change grown ⊢
    generalize settleEvent s false false (recomputeBound (address k) w) = t at announcer bus peers change grown
    obtain ⟨part, log, warm, monitors, port, -, -, unbound⟩ := id change
    have table := peers.trans put.peers
    refine ⟨table, grown.first record, ?_, fun i peer bound => ?_, unbound, part, log, ?_, warm, monitors, port,
      fun number => verdict_ne_sequence number ?_⟩
    · rw [announcer.1, queried]
    · obtain ⟨raw, effective, path, hop, barred⟩ := change.unfit on law rfl peer bound
      refine ⟨raw, effective, path, hop, fun used => ?_⟩
      obtain ⟨state, reasons⟩ := barred used
      exact ⟨state, by rw [reasons]; rfl⟩
    · rw [SameBus, put.bus] at bus
      exact bus
    · rw [table, State.withEntry_get, if_pos rfl]
      exact sequenceAllows_announce rfl g
  · by_cases fresh : e.state = .fresh
    · refine entryStale_waits found (.inr (due_eq_false ?_))
      rw [entrySeconds, if_neg (by simp [fresh])]
      exact waits.resolve_left (not_not.mpr fresh)
    · exact entryStale_waits found (.inl fresh)
  · obtain ⟨a, read⟩ := announced_of_accepted accepted
    refine ⟨_, announceReceived_accepted hears good number accepted read, ?_⟩
    obtain ⟨-, -, -, -, -, peers, -⟩ := changed_kept (countWindow k (heard kindAnnounce f s)) k
      ((countWindow k (heard kindAnnounce f s)).withEntry k (some (announcedEntry f a)))
    generalize settleEvent (countWindow k (heard kindAnnounce f s)) false false _ = t at peers
    have entry : t.peers.entries[k] = some (announcedEntry f a) := by rw [peers, State.withEntry_get, if_pos rfl]
    obtain ⟨-, -, interval, -⟩ := readAnnounce_valid read
    have early : (announcedEntry f a).due = false := PeerEntry.due_restarted interval rfl
    exact ⟨entryStale_waits entry (.inr early), entryRemoval_waits entry (.inl rfl)⟩

/-- Settles O37. -/
theorem entryIsRemoved : Obligations.EntryIsRemoved := by
  unfold Obligations.EntryIsRemoved
  intro k e f g s on
  refine ⟨fun found notFresh law old => ?_, fun found waits => entryRemoval_waits found (waits.imp_right due_eq_false),
    fun hears good number accepted interval => ?_, ?_⟩
  · have due : e.due = true := (PeerEntry.due_iff e).mpr old
    have row : exec (.entryRemoval k) s = .next (removeEntry k e s) := by
      rw [entryRemoval_of_some found, if_pos (by simp [on, notFresh, due])]
    refine ⟨_, row, ?_⟩
    beta_reduce
    rw [removeEntry_eq]
    have put : EntryPut s k none (logEvent .peerGone (address k) e.state.code (s.withEntry k none)) :=
      .of_record (.inr (.inr rfl)) rfl
    have record : (logEvent .peerGone (address k) e.state.code (s.withEntry k none)).log =
        s.log.append .peerGone (k.val + 1) e.state.code := rfl
    have kept : (logEvent .peerGone (address k) e.state.code (s.withEntry k none)).announcer = s.announcer := rfl
    obtain ⟨-, grown, announcer, bus, -, peers, -⟩ :=
      changed_kept s k (logEvent .peerGone (address k) e.state.code (s.withEntry k none))
    have change := put.changed
    generalize logEvent .peerGone (address k) e.state.code (s.withEntry k none) = w at put record announcer bus peers change grown kept ⊢
    generalize settleEvent s false false (recomputeBound (address k) w) = t at announcer bus peers change grown
    obtain ⟨part, log, warm, monitors, port, -, -, unbound⟩ := id change
    have table := peers.trans put.peers
    have entry : t.peers.entries[k] = none := by rw [table, State.withEntry_get, if_pos rfl]
    refine ⟨table, grown.first record, fun i peer bound => ?_, unbound, part, log, ?_, ?_, warm, monitors, port,
      fun number => ⟨verdict_ne_sequence number ?_, fun accepted => ?_⟩⟩
    · obtain ⟨raw, effective, path, hop, barred⟩ := change.unfit on law rfl peer bound
      refine ⟨raw, effective, path, hop, fun used => ?_⟩
      obtain ⟨state, reasons⟩ := barred used
      refine ⟨state, ?_⟩
      rw [reasons]
      exact ⟨rfl, rfl, rfl⟩
    · rw [SameAnnouncer, kept] at announcer
      exact announcer
    · rw [SameBus, put.bus] at bus
      exact bus
    · rw [entry]
      exact sequenceAllows_announce rfl g
    · obtain ⟨e', some⟩ := entry_of_accepted_withdraw number accepted
      rw [entry] at some
      cases some
  · obtain ⟨e', found⟩ := entry_of_accepted_withdraw number accepted
    refine ⟨_, withdrawReceived_accepted hears good number accepted found, ?_⟩
    have put := withdrawnState_put k f e' (countWindow k (heard kindWithdraw f s))
    obtain ⟨-, -, -, -, -, peers, -⟩ := changed_kept (countWindow k (heard kindWithdraw f s)) k
      (withdrawnState k f e' (countWindow k (heard kindWithdraw f s)))
    have table := peers.trans put.peers
    generalize settleEvent (countWindow k (heard kindWithdraw f s)) false false _ = t at table
    have entry : t.peers.entries[k] = some { e' with state := .withdrawn, lastSeq := f.seq, ageCycles := 0 } := by
      rw [table, State.withEntry_get, if_pos rfl]
    have early := PeerEntry.due_restarted (e := { e' with state := .withdrawn, lastSeq := f.seq, ageCycles := 0 })
      (interval e' found) rfl
    exact ⟨entryRemoval_waits entry (.inr early), entryStale_waits entry (.inl (by simp))⟩
  · show Host.Outcome.next _ = _
    rw [if_pos on]
    rfl

end


section
/-! PROOF. O38 to O41: the transmission start, the ends of an attempt, the rest, and the start bit of another station
that meets them. -/

namespace Sys2Proof.Machine

section

variable {s : State} {c : LineChar} {content : Content} {restart : Bool} {q : Byte} {d : Nat} {pins : Pins}

/-! ### The transmission start (R123, R141, R146) -/

theorem threshold_eq (s : State) :
    threshold s = if s.bus.rest = true then 26400 else (4 + s.loader.ownAddress) * 880 := rfl

theorem transmissionStart_waits (waits : mayStart s = false) : exec .transmissionStart s = .next s := by
  show Host.Outcome.next _ = _
  rw [waits, Bool.and_false]
  rfl

theorem transmissionStart_eq (on : running s = true) (may : mayStart s = true) :
    exec .transmissionStart s = .next (startTransmission s) := by
  show Host.Outcome.next _ = _
  rw [on, may]
  rfl

/-- A frame handed goes on the line. -/
theorem startTransmission_frame {a : Announcer} (built : buildFrame s = a) (frame : a.frame ≠ none) :
    startTransmission s = { s with
      announcer := a, bus := { s.bus with tx := .sending, rx := .hunt, idle := some 0, driven := 0, rest := false } } := by
  subst built
  exact if_pos (Option.isSome_iff_ne_none.mpr frame)

/-- With no frame handed the want decides (R122). -/
theorem startTransmission_none {a : Announcer} (built : buildFrame s = a) (frame : a.frame = none) :
    startTransmission s = { s with
      announcer := a, bus := { s.bus with tx := wantedTx (wantsFrame a) s.bus.tx, rest := false } } := by
  subst built
  refine (if_neg (by simp [frame])).trans ?_
  rw [syncWant_eq]
  rfl

theorem buildFrame_withdrawing (mode : s.announcer.mode = .withdrawing) :
    buildFrame s = { s.announcer with frame := some (.withdraw s.announcer.seq) } := by
  simp only [buildFrame, mode]

theorem buildFrame_announce (mode : s.announcer.mode = .announcing) (due : announceDue s = true) :
    buildFrame s = { s.announcer with
      frame := some (.announce (currentContent s) s.announcer.restart s.announcer.seq) } := by
  simp only [buildFrame, mode, due, if_true]

theorem buildFrame_queries (mode : s.announcer.mode = .announcing) (notDue : announceDue s = false) :
    buildFrame s = { s.announcer with
      eventFlag := s.announcer.eventFlag && !announceReady s.announcer, queries := pruneQueries s
      frame := queryFrame s (pruneQueries s) } := by
  simp only [buildFrame, mode, notDue, Bool.false_eq_true, if_false]

theorem announceDue_iff (s : State) : announceDue s = true ↔ s.announcer.spacingTimer = none ∧
    (s.announcer.periodicFlag = true ∨ s.announcer.queryFlag = true ∨
      s.announcer.eventFlag = true ∧ s.announcer.last ≠ some (currentContent s)) := by
  simp only [announceDue, announceReady, Bool.and_eq_true, Bool.or_eq_true, Option.isNone_iff_eq_none, decide_eq_true_eq]
  tauto

/-- Where no ANNOUNCE is handed, a set event flag stays only while the spacing timer runs. -/
theorem eventFlag_kept (s : State) :
    (s.announcer.eventFlag && !announceReady s.announcer) =
      (s.announcer.eventFlag && s.announcer.spacingTimer.isSome) := by
  cases event : s.announcer.eventFlag with
  | false => rfl
  | true => cases spacing : s.announcer.spacingTimer <;> simp [announceReady, event, spacing]

theorem wantsFrame_pruned {a : Announcer} (mode : a.mode = .announcing) (notReady : announceReady a = false)
    (queries : a.queries = []) : wantsFrame a = false := by
  simp [wantsFrame, mode, notReady, queries]

/-! ### The end of an attempt (R120, R124, R127) -/

/-- What the end of an attempt makes of the Announcer, the log and the counts and flags of the bus. -/
structure Ending where
  announcer : Announcer
  log : EventLog
  tx : Transmitter
  rest : Bool
  clashRun : Nat
  duplicate : Bool
  clashes : Nat
  sent : Nat

/-- The attempt ends: the receiver is in HUNT, which a start bit of that moment finds as any other does, and the idle
count is 0. -/
def State.ended (s : State) (e : Ending) : State :=
  { s with
    announcer := e.announcer, log := e.log
    bus := { s.bus with
      rx := receiverFreed s, idle := some 0, tx := e.tx, rest := e.rest, clashRun := e.clashRun, duplicate := e.duplicate
      clashes := e.clashes, sent := e.sent } }

/-- The end of a frame sent in full, with `a` the Announcer after it. -/
def completing (a : Announcer) (s : State) : Ending where
  announcer := a
  log := s.log
  tx := wantedTx (wantsFrame a) .idle
  rest := true
  clashRun := 0
  duplicate := s.bus.duplicate
  clashes := s.bus.clashes
  sent := min 65535 (s.bus.sent + 1)

theorem busCompletion_eq (a : Announcer) (s : State) : busCompletion (s.withAnnouncer a) = s.ended (completing a s) := by
  rw [busCompletion, syncWant_eq]
  rfl

theorem announceCompletion_eq (on : running s = true) (sending : s.bus.tx = .sending)
    (frame : s.announcer.frame = some (.announce content restart q)) :
    exec .announceCompletion s = .next (s.ended (completing (announceDone content s).announcer s)) := by
  show Host.Outcome.next _ = _
  rw [frame]
  dsimp only
  rw [if_pos (by simp [on, sending]), announceDone, busCompletion_eq]
  rfl

theorem queryCompletion_eq (on : running s = true) (sending : s.bus.tx = .sending)
    (frame : s.announcer.frame = some (.query d q)) :
    exec .queryCompletion s = .next (s.ended (completing (queryDone d s).announcer s)) := by
  show Host.Outcome.next _ = _
  rw [frame]
  dsimp only
  rw [if_pos (by simp [on, sending]), queryDone, busCompletion_eq]
  rfl

/-- The end of an attempt that clashed: the eighth in a row sets DUPLICATE (R125, R128). -/
def clashing (s : State) : Ending where
  announcer := { s.announcer with frame := none }
  log := if 7 ≤ s.bus.clashRun ∧ s.bus.duplicate = false then s.log.append .duplicate 1 8 else s.log
  tx := if 7 ≤ s.bus.clashRun ∧ s.bus.duplicate = false then .silent
    else wantedTx (wantsFrame { s.announcer with frame := none }) .idle
  rest := false
  clashRun := s.bus.clashRun + 1
  duplicate := s.bus.duplicate || decide (7 ≤ s.bus.clashRun)
  clashes := min 65535 (s.bus.clashes + 1)
  sent := s.bus.sent

theorem clashDuplicate_eq (s : State) : clashDuplicate (clashEnd s) = s.ended (clashing s) := by
  by_cases run : 7 ≤ s.bus.clashRun
  · rw [clashDuplicate_of_run run]
    cases duplicate : s.bus.duplicate with
    | true =>
      rw [setDuplicate_set (clashEnd_duplicate.trans duplicate), clashEnd_eq, State.ended, clashing,
        if_neg (by simp [duplicate]), if_neg (by simp [duplicate])]
      simp only [duplicate, Bool.true_or]
      rfl
    | false =>
      rw [setDuplicate_new (clashEnd_duplicate.trans duplicate), clashEnd_eq, State.ended, clashing,
        if_pos ⟨run, duplicate⟩, if_pos ⟨run, duplicate⟩]
      simp only [run, decide_true, Bool.or_true]
      rfl
  · rw [clashDuplicate_of_less (Nat.lt_of_not_le run), clashEnd_eq, State.ended, clashing, if_neg (fun h => run h.1),
      if_neg (fun h => run h.1)]
    simp only [run, decide_false, Bool.or_false]
    rfl

theorem clash_announcing (on : running s = true) (sending : s.bus.tx = .sending) (mode : s.announcer.mode = .announcing)
    (pins : Pins) : exec (.clash pins) s = .next (s.ended (clashing s)) := by
  have stays : resetAfterClash s (s.ended (clashing s)) = false := by simp [resetAfterClash, mode]
  show Host.Outcome.next _ = _
  rw [if_pos (by simp [on, sending]), clashNow, clashDuplicate_eq, stays]
  rfl

/-! ### The receiver that the end leaves (R117, R120) -/

theorem headerTaken_eq (s : State) (c : LineChar) : headerTaken s c = HuntTakes s.loader.ownAddress c := by
  unfold headerTaken afterHeader forUs
  by_cases good : c.mark = true ∧ c.stopGood = true
  · obtain ⟨mark, stop⟩ := good
    simp [HuntTakes, mark, stop]
  · rw [if_neg (by simpa using good), HuntTakes, if_neg fun h => good ⟨h.1, h.2.1⟩]

theorem receiverFreed_hunt (clear : ∀ c : LineChar, s.bus.line ≠ .character 880 c) : receiverFreed s = .hunt := by
  rcases receiverFreed_cases s with ⟨c, line, -⟩ | ⟨-, hunt⟩
  · exact absurd line (clear c)
  · exact hunt

theorem receiverFreed_taken (line : s.bus.line = .character 880 c) : receiverFreed s = HuntTakes s.loader.ownAddress c := by
  simp only [receiverFreed, line]
  exact (if_pos rfl).trans (headerTaken_eq s c)

/-! ### A start bit at the moment of the end (R127) -/

/-- The character of another station on the line, as it begins. -/
def State.withForeign (s : State) (rx : Receiver) (c : LineChar) : State :=
  s.withBus { s.bus with rx := rx, line := .character 880 c, idle := some 0 }

theorem dropFrame_of_not_assembling (free : assembling s.bus = false) : dropFrame .idleGap s = s := by
  rcases dropFrame_cases .idleGap s with ⟨-, abandons, -⟩ | ⟨-, same⟩
  · rw [abandons_assembling abandons] at free
    cases free
  · exact same

theorem dropFrame_of_sending (sending : s.bus.tx = .sending) (cause : AbandonCause) : dropFrame cause s = s := by
  rcases dropFrame_cases cause s with ⟨listens, -⟩ | ⟨-, same⟩
  · simp [listening, sending] at listens
  · exact same

theorem restKept_of_not_over (notOver : restOver s.bus = false) : restKept s.bus = s.bus.rest := by
  rw [restKept, notOver]
  exact Bool.and_true _

theorem restKept_sending (sending : s.bus.tx = .sending) : restKept s.bus = s.bus.rest :=
  restKept_of_not_over (by simp [restOver, sending])

theorem restKept_of_idle_zero (idle : s.bus.idle = some 0) : restKept s.bus = s.bus.rest := by
  refine restKept_of_not_over ?_
  rw [Bool.eq_false_iff, Ne, restOver_iff]
  rintro ⟨-, -, -, n, some, long⟩
  rw [idle] at some
  obtain rfl := Option.some_inj.mp some
  exact absurd long (by decide)

/-- The guard of FOREIGN_START_BIT (R114). -/
def startBitTaken (c : LineChar) (s : State) : Bool := running s && c.start && awaitsStart s.bus.line

theorem foreignStartBit_eq (c : LineChar) (s : State) : exec (.foreignStartBit c) s =
    .next (if startBitTaken c s then foreignChar c (dropFrame .idleGap s) else s) := rfl

/-- While the own frame is sent, the receiver takes no character (R120). -/
theorem foreignStartBit_sending (sending : s.bus.tx = .sending) (c : LineChar) : exec (.foreignStartBit c) s =
    .next (if startBitTaken c s then s.withForeign s.bus.rx c else s) := by
  rw [foreignStartBit_eq, dropFrame_of_sending sending, foreignChar, restKept_sending sending, if_pos sending]
  rfl

/-- A start bit that finds the receiver in HUNT, with the idle count at 0. -/
theorem foreignStartBit_hunt (free : s.bus.tx ≠ .sending) (hunt : s.bus.rx = .hunt) (idle : s.bus.idle = some 0)
    (c : LineChar) : exec (.foreignStartBit c) s =
      .next (if startBitTaken c s then s.withForeign (headerTaken s c) c else s) := by
  rw [foreignStartBit_eq, dropFrame_of_not_assembling (by simp [assembling, hunt]), foreignChar,
    restKept_of_idle_zero idle, if_neg free, takeChar, hunt]
  rfl

/-- Ending the attempt and the start bit of another station at that moment need no order. -/
theorem ended_commute {e : State → Ending} {i : Instr} (sending : s.bus.tx = .sending)
    (clear : ∀ c : LineChar, s.bus.line ≠ .character 880 c) (free : (e s).tx ≠ .sending)
    (ends : ∀ u : State, u = s ∨ u = s.withForeign s.bus.rx c → exec i u = .next (u.ended (e u)))
    (same : e (s.withForeign s.bus.rx c) = e s) : Commute i (.foreignStartBit c) s := by
  have hunt := receiverFreed_hunt clear
  have after := foreignStartBit_hunt (s := s.ended (e s)) free hunt rfl c
  have before := foreignStartBit_sending sending c
  have guard : startBitTaken c (s.ended (e s)) = startBitTaken c s := rfl
  rw [guard] at after
  refine ⟨_, _, _, ends s (.inl rfl), after, before, ?_⟩
  split
  · rw [ends _ (.inr rfl), same]
    have taken : receiverFreed (s.withForeign s.bus.rx c) = headerTaken s c := by
      rw [receiverFreed_taken (c := c) rfl, headerTaken_eq]
      rfl
    rw [State.ended, taken]
    rfl
  · exact ends s (.inl rfl)

theorem restEnd_over (on : running s = true) (ranOut : restOver s.bus = true) :
    exec .restEnd s = .next { s with bus := { s.bus with rest := false } } := by
  show Host.Outcome.next _ = _
  rw [on, ranOut]
  rfl

theorem restEnd_waits (waits : restOver s.bus = false) : exec .restEnd s = .next s := by
  show Host.Outcome.next _ = _
  rw [waits, Bool.and_false]
  rfl

theorem wantedTx_idle (wants : Bool) : wantedTx wants .idle = if wants = true then .deferring else .idle := rfl

theorem wantedTx_ne_sending (wants : Bool) : wantedTx wants .idle ≠ .sending := by cases wants <;> decide

end
end Sys2Proof.Machine

open Sys2Proof Sys2Proof.Machine

/-- Settles O38. -/
theorem transmissionStartBuilds : Obligations.TransmissionStartBuilds := by
  unfold Obligations.TransmissionStartBuilds
  intro d rest n s on deferring idle
  refine ⟨fun waits => transmissionStart_waits ?_, fun quiet free long => ?_⟩
  · rw [Bool.eq_false_iff, Ne, mayStart_iff, threshold_eq]
    rintro ⟨-, free, quiet, m, some, long⟩
    obtain rfl : m = n := Option.some_inj.mp (some.symm.trans idle)
    rcases waits with line | collects | short
    · exact line quiet
    · rw [(assembling_iff s.bus).mpr collects] at free
      cases free
    · omega
  · have may : mayStart s = true := by
      refine (mayStart_iff s).mpr ⟨deferring, ?_, quiet, n, idle, long⟩
      rw [Bool.eq_false_iff, Ne, assembling_iff]
      rintro ⟨chars, collects⟩
      exact free chars collects
    rw [transmissionStart_eq on may]
    refine ⟨fun mode => ?_, fun mode => ⟨fun spacing reason => ?_, fun waits => ?_⟩⟩
    · rw [startTransmission_frame (buildFrame_withdrawing mode) (by simp)]
    · rw [startTransmission_frame (buildFrame_announce mode ((announceDue_iff s).mpr ⟨spacing, reason⟩)) (by simp)]
    · have notDue : announceDue s = false := by
        rw [Bool.eq_false_iff, Ne, announceDue_iff]
        rintro ⟨stopped, reason⟩
        rcases waits with runs | ⟨periodic, query, event⟩
        · exact runs stopped
        · rcases reason with h | h | ⟨flag, differs⟩
          · simp [h] at periodic
          · simp [h] at query
          · rcases event with h | h
            · simp [h] at flag
            · exact differs h
      have built := buildFrame_queries mode notDue
      rw [eventFlag_kept s] at built
      refine ⟨fun oldest => ?_, fun none => ?_⟩
      · have pruned : pruneQueries s = d :: rest := oldest
        rw [pruned] at built
        rw [startTransmission_frame built (by simp [queryFrame])]
        rfl
      · have pruned : pruneQueries s = [] := none
        rw [pruned] at built
        have noWant : wantsFrame { s.announcer with
            eventFlag := s.announcer.eventFlag && s.announcer.spacingTimer.isSome, queries := []
            frame := queryFrame s [] } = false := by
          refine wantsFrame_pruned mode ?_ rfl
          rcases waits with runs | ⟨periodic, query, -⟩
          · simp [announceReady, Option.isSome_iff_ne_none, runs]
          · simp only [announceReady, periodic, query, Bool.false_or, Bool.or_false]
            cases s.announcer.spacingTimer <;> simp
        rw [startTransmission_none built rfl, noWant, deferring]
        rfl

/-- Settles O39. -/
theorem announceCompletes : Obligations.AnnounceCompletes := by
  unfold Obligations.AnnounceCompletes
  intro content restart q c s on sending frame
  refine ⟨⟨_, announceCompletion_eq on sending frame, rfl, rfl, ?_, receiverFreed_hunt, receiverFreed_taken,
    ⟨⟨rfl, rfl, rfl, rfl, rfl⟩, rfl, rfl, rfl, rfl⟩, rfl, rfl, rfl⟩, fun clear => ?_⟩
  · have wants : wantsFrame (announceDone content s).announcer = true ↔
        s.announcer.mode = .withdrawing ∨ s.announcer.mode = .announcing ∧ s.announcer.queries ≠ [] := by
      cases mode : s.announcer.mode <;> simp [wantsFrame, announceDone, announceReady, mode]
    show wantedTx _ .idle = _
    rw [wantedTx_idle]
    exact if_congr wants rfl rfl
  · refine ended_commute (e := fun u => completing (announceDone content u).announcer u) sending clear
      (wantedTx_ne_sending _) (fun u is => ?_) rfl
    rcases is with rfl | rfl
    · exact announceCompletion_eq on sending frame
    · exact announceCompletion_eq (s := s.withForeign s.bus.rx c) on sending frame

/-- Settles O40. -/
theorem queryCompletesAndRests : Obligations.QueryCompletesAndRests := by
  unfold Obligations.QueryCompletesAndRests
  intro d q c s on
  refine ⟨fun sending frame => ⟨⟨_, queryCompletion_eq on sending frame, rfl, rfl, wantedTx_idle _, receiverFreed_hunt,
    receiverFreed_taken, ⟨⟨rfl, rfl, rfl, rfl, rfl⟩, rfl, rfl, rfl, rfl⟩, rfl, rfl, rfl⟩, fun clear => ?_⟩,
    fun rest n idle => ⟨fun free quiet long => ?_, fun waits => ?_⟩⟩
  · refine ended_commute (e := fun u => completing (queryDone d u).announcer u) sending clear
      (wantedTx_ne_sending _) (fun u is => ?_) rfl
    rcases is with rfl | rfl
    · exact queryCompletion_eq on sending frame
    · exact queryCompletion_eq (s := s.withForeign s.bus.rx c) on sending frame
  · exact restEnd_over on ((restOver_iff _).mpr ⟨rest, free, quiet, n, idle, long⟩)
  · have notOver : restOver s.bus = false := by
      rw [Bool.eq_false_iff, Ne, restOver_iff]
      rintro ⟨-, free, quiet, m, some, long⟩
      obtain rfl : m = n := Option.some_inj.mp (some.symm.trans idle)
      have long : 26400 ≤ m := long
      rcases waits with h | h | h
      · exact free h
      · exact h quiet
      · omega
    exact restEnd_waits notOver

/-- Settles O41. -/
theorem clashIsCounted : Obligations.ClashIsCounted := by
  unfold Obligations.ClashIsCounted
  intro pins c s on sending mode
  refine ⟨⟨_, clash_announcing on sending mode pins, rfl, rfl, receiverFreed_hunt, receiverFreed_taken, fun few => ?_,
    fun seven new => ?_, ⟨⟨rfl, rfl, rfl, rfl, rfl⟩, rfl, rfl, rfl, rfl⟩, rfl, rfl⟩, fun clear => ?_⟩
  · have less : ¬7 ≤ s.bus.clashRun := by omega
    refine ⟨?_, if_neg fun h => less h.1, (if_neg fun h => less h.1).trans ?_⟩
    · show (s.bus.duplicate || decide (7 ≤ s.bus.clashRun)) = s.bus.duplicate
      rw [decide_eq_false less, Bool.or_false]
    · exact wantedTx_idle _
  · have run : 7 ≤ s.bus.clashRun := by omega
    refine ⟨?_, if_pos ⟨run, new⟩, fun room => ?_⟩
    · show (s.bus.duplicate || decide (7 ≤ s.bus.clashRun)) = true
      rw [decide_eq_true run, Bool.or_true]
    · have log : (s.ended (clashing s)).log = s.log.append .duplicate 1 8 := if_pos ⟨run, new⟩
      rw [log, EventLog.append_eq, if_pos room]
      rfl
  · refine ended_commute (e := clashing) sending clear ?_ (fun u is => ?_) rfl
    · show (if _ then _ else _) ≠ _
      split
      · decide
      · exact wantedTx_ne_sending _
    · rcases is with rfl | rfl
      · exact clash_announcing on sending mode pins
      · exact clash_announcing (s := s.withForeign s.bus.rx c) on sending mode pins

end


section
/-! PROOF. O35: the receiver's own events, and the line and the idle count in a LOSC cycle. -/

namespace Sys2Proof.Machine

section

variable {s : State} {kind : Byte} {f : RxFrame} {k : Slot} {c : LineChar} {chars : List Byte} {n : Nat}

/-! ### Frames dropped (R118, R152) -/

theorem judgeSource_malformed (trusts : (cfg s).trust.getLsbD k.val = true) (unpaired : kindFits kind f = false) :
    judgeSource s kind f k = .malformed := by
  rw [judgeSource_trusted trusts]
  exact if_pos (by simp [unpaired])

theorem badFrame_eq (hears : hears s f = true) (bad : intact kind f = false) : exec (.badFrame kind f) s =
    .next (countBad (s.withBus (heardBus kind f s.bus))) := by
  obtain ⟨-, free, -⟩ := hears_iff.mp hears
  show Host.Outcome.next _ = _
  rw [hears, bad, frameHeard_eq free]
  rfl

/-! ### Abandoned frames (R119) -/

section
variable (on : running s = true) (free : s.bus.tx ≠ .sending)
include on free

theorem listening_of : listening s = true := by simp [listening, on, free]

theorem frameAbandoned_eq {cause : AbandonCause} (meets : abandons cause s.bus = true) :
    exec (.frameAbandoned cause) s = .next (countBad (abandon cause s)) := by
  show Host.Outcome.next _ = _
  rw [dropFrame, if_pos (by rw [listening_of on free, meets]; rfl)]

end

theorem frameAbandoned_waits {cause : AbandonCause} (waits : abandons cause s.bus = false) :
    exec (.frameAbandoned cause) s = .next s := by
  show Host.Outcome.next _ = _
  rw [dropFrame, if_neg (by simp [waits])]

theorem assembling_of (collects : s.bus.rx = .assemble chars) : assembling s.bus = true :=
  (assembling_iff _).mpr ⟨chars, collects⟩

theorem gapOver_of (collects : s.bus.rx = .assemble chars) (quiet : s.bus.line = .quiet) (idle : s.bus.idle = some n)
    (long : 1760 < n) : gapOver s.bus = true :=
  (gapOver_iff _).mpr ⟨assembling_of collects, quiet, n, idle, long⟩

theorem gapOver_eq_false (short : s.bus.line ≠ .quiet ∨ s.bus.idle = some n ∧ n ≤ 1760) : gapOver s.bus = false := by
  rw [Bool.eq_false_iff, Ne, gapOver_iff]
  rintro ⟨-, quiet, m, idle, long⟩
  have long : 1760 < m := long
  rcases short with h | ⟨h, short⟩
  · exact h quiet
  · obtain rfl : m = n := Option.some_inj.mp (idle.symm.trans h)
    omega

theorem dropFrame_waits (waits : gapOver s.bus = false) : dropFrame .idleGap s = s := by
  rcases dropFrame_cases .idleGap s with ⟨-, meets, -⟩ | ⟨-, same⟩
  · have meets : gapOver s.bus = true := meets
    simp [waits] at meets
  · exact same

theorem afterHeader_eq (s : State) (d : Byte) : afterHeader s d =
    if d.toNat = 0 ∨ d.toNat = s.loader.ownAddress then .assemble [d] else .hunt := by
  simp [afterHeader, forUs]

/-! ### Start bits (R114, R117, R118) -/

theorem startBit_taken (on : running s = true) (starts : c.start = true)
    (awaits : s.bus.line = .quiet ∨ s.bus.line = .heldActive none) : startBitTaken c s = true := by
  rcases awaits with h | h <;> simp [startBitTaken, on, starts, h, awaitsStart]

theorem startBit_ignored {left : Nat} {d : LineChar}
    (ignores : c.start = false ∨ s.bus.line = .character left d ∨ s.bus.line = .heldActive (some left)) :
    exec (.foreignStartBit c) s = .next s := by
  have notTaken : startBitTaken c s = false := by
    rcases ignores with h | h | h <;> simp [startBitTaken, h, awaitsStart]
  rw [foreignStartBit_eq, notTaken]
  rfl

/-- A start bit on a line with no gap to end a frame: the receiver takes its character. -/
theorem foreignStartBit_taken (free : s.bus.tx ≠ .sending) (taken : startBitTaken c s = true)
    (noGap : gapOver s.bus = false) : exec (.foreignStartBit c) s = .next { s with
      bus := { s.bus with rx := takeChar s c, line := .character 880 c, idle := some 0, rest := restAfter s.bus } } := by
  rw [foreignStartBit_eq, taken, if_pos rfl, dropFrame_waits noGap, foreignChar, if_neg free, restKept_restAfter _ free]
  rfl

/-- After a gap the start bit finds the frame abandoned. -/
theorem foreignStartBit_gap (on : running s = true) (free : s.bus.tx ≠ .sending) (taken : startBitTaken c s = true)
    (gap : gapOver s.bus = true) : exec (.foreignStartBit c) s = .next { s with
      bus := { s.bus with
        rx := HuntTakes s.loader.ownAddress c, line := .character 880 c, idle := some 0, rest := restAfter s.bus
        bad := min 65535 (s.bus.bad + 1) } } := by
  have dropped : dropFrame .idleGap s = countBad (abandon .idleGap s) := by
    rw [dropFrame, if_pos (by rw [listening_of on free]; exact gap)]
  have rest : restKept (countBad (abandon .idleGap s)).bus = restAfter s.bus :=
    restKept_restAfter (countBad (abandon .idleGap s)).bus free
  have header : takeChar (countBad (abandon .idleGap s)) c = HuntTakes s.loader.ownAddress c := headerTaken_eq s c
  rw [foreignStartBit_eq, taken, if_pos rfl, dropped, foreignChar, if_neg (by exact free), rest, header]
  rfl

theorem takeChar_hunt (hunt : s.bus.rx = .hunt) : takeChar s c = HuntTakes s.loader.ownAddress c := by
  rw [takeChar, hunt]
  exact headerTaken_eq s c

/-- A character within the full length of the frame is collected. -/
theorem takeChar_collects (collects : s.bus.rx = .assemble chars) (plain : c.mark = false) (stops : c.stopGood = true)
    (within : chars.length < 4 ∨ (chars.length = 4 ∧ c.data.toNat ≤ 12) ∨
      (5 ≤ chars.length ∧ chars.length < 6 + byteAt chars 4)) : takeChar s c = .assemble (chars ++ [c.data]) := by
  have notFull : frameFull chars = false := by
    unfold frameFull fullLength
    by_cases five : 5 ≤ chars.length
    · rw [if_pos five]
      rcases within with h | ⟨h, -⟩ | ⟨-, h⟩
      · omega
      · omega
      · exact decide_eq_false (Nat.not_le.mpr h)
    · rw [if_neg five]
  have goodLength : badLengthChar chars c.data = false := decide_eq_false (by omega)
  simp only [takeChar, collects, plain, stops, notFull, goodLength]
  rfl

/-! ### The line in a LOSC cycle (R114, R121) -/

theorem tick_bus (on : running s = true) : (tick s).bus = tickBus s := by
  obtain ⟨noHold, -⟩ := (running_iff s).mp on
  rw [tick, if_neg (by simp [noHold])]

theorem tickBus_idle_stands (line : s.bus.line ≠ .quiet) : (tickBus s).idle = s.bus.idle := if_neg fun h => line h.1

theorem tickBus_idle_grows (free : s.bus.tx ≠ .sending) (quiet : s.bus.line = .quiet) (idle : s.bus.idle = some n) :
    (tickBus s).idle = some (idleStep s n) := by
  have grows : (tickBus s).idle = s.bus.idle.map (idleStep s) := if_pos ⟨quiet, free⟩
  rw [grows, idle]
  rfl

/-- Up to 2 character times of idle line no point is reached at which the count waits. -/
theorem idleStep_of_short (short : n ≤ 1760) : idleStep s n = n + 1 := by
  have gap : stepTo (2 * charTime + 1) n = n + 1 := if_neg (by rw [charTime]; omega)
  have rest : stepTo restTime n = n + 1 := if_neg (by rw [restTime, charTime]; omega)
  have access : stepTo (threshold s) n = n + 1 := if_neg (by rw [threshold_eq]; split <;> omega)
  rw [idleStep, gap, rest, access]
  simp

end
end Sys2Proof.Machine

open Sys2Proof Sys2Proof.Machine

/-- Settles O35. -/
theorem receiverFrames : Obligations.ReceiverFrames := by
  unfold Obligations.ReceiverFrames
  intro kind f chars data c d held left n s on free
  refine ⟨fun hears good unknown ⟨k, number, trusts⟩ other => ?_, fun hears bad => ?_, fun collects => ?_, fun hunt => ?_,
    startBit_ignored, fun empty => ?_⟩
  · have malformed : verdict s kind f = .malformed := by
      rw [verdict_other number other, judgeSource_malformed trusts (kindFits_of_unknown unknown f)]
    rw [malformedFrame_eq unknown, receive_eq hears good, malformed]
    rfl
  · rw [badFrame_eq hears bad]
    rfl
  · have rest := restKept_restAfter s.bus free
    have meets := assembling_of collects
    refine ⟨?_, ?_, ?_, fun quiet idle long => ⟨?_, fun starts => ?_⟩, fun short => frameAbandoned_waits (gapOver_eq_false short),
      fun starts plain stops quiet idle short within => ?_⟩
    · rw [frameAbandoned_eq (cause := .newMark data) on free meets, abandon, lineFree, rest, afterHeader_eq]
      rfl
    · rw [frameAbandoned_eq (cause := .framingError held) on free meets, abandon, rest]
      rfl
    · rw [frameAbandoned_eq (cause := .badLength) on free meets, abandon, lineFree, rest]
      rfl
    · rw [frameAbandoned_eq (cause := .idleGap) on free (gapOver_of collects quiet idle long)]
      rfl
    · exact foreignStartBit_gap on free (startBit_taken on starts (.inl quiet)) (gapOver_of collects quiet idle long)
    · rw [foreignStartBit_taken free (startBit_taken on starts (.inl quiet)) (gapOver_eq_false (.inr ⟨idle, short⟩)),
        takeChar_collects collects plain stops within]
  · have notGap : gapOver s.bus = false := by simp [gapOver, assembling, hunt]
    refine ⟨fun starts awaits => ?_, frameAbandoned_waits notGap⟩
    rw [foreignStartBit_taken free (startBit_taken on starts awaits) notGap, takeChar_hunt hunt]
  · have cycle : step s = .next (tick s) := by rw [step, empty]
    refine ⟨_, cycle, ?_⟩
    rw [tick_bus on]
    refine ⟨tickBus_idle_stands, fun line => ?_, fun quiet idle short => ?_, fun line => ?_, fun line good => ?_,
      fun line bad fault => ?_, fun line => ?_, fun line => ?_, fun line => ?_, ?_⟩
    · simp [tickBus, tickLine, line]
    · rw [tickBus_idle_grows free quiet idle, idleStep_of_short short]
    · simp [tickBus, tickLine, line]
    · simp only [tickBus, tickLine, line, le_refl, if_true, lineAfter, heldLine]
      rcases good with h | h <;> simp [h]
    · simp [tickBus, tickLine, line, lineAfter, bad, heldLine, fault]
    · simp [tickBus, tickLine, line, heldLine]
    · simp [tickBus, tickLine, line, heldLine]
    · simp [tickBus, tickLine, line]
    · simp only [tickBus, free, if_false]

end


section
/-! PROOF. O3: every command is answered, keeps the queue, and works only in the part states that take it. -/

namespace Sys2Proof.Machine

section

variable {s t u m : State} {c : Instr}

/-- R38, R66, R111: every command is answered. -/
theorem exec_answered (c : Instr) (s : State) : ∃ t, exec c s = .next t := by
  cases c <;> exact ⟨_, rfl⟩

/-- A command whose event cannot occur changes nothing. -/
theorem next_of_not {p : Prop} [Decidable p] (not : ¬p) :
    (Host.Outcome.next (if p then u else s) : Host.Outcome State Fault Refusal) = .next s := by rw [if_neg not]

theorem not_running_of_hold (held : s.hold ≠ none) : running s = false := by
  cases hold : s.hold with
  | none => exact absurd hold held
  | some kind => simp [running, hold]

theorem port_closed_of_hold (held : s.hold ≠ none) : portOpen s = false := by
  cases hold : s.hold with
  | none => exact absurd hold held
  | some kind => simp [portOpen, hold]

/-! ### What no command touches (R174) -/

theorem startPart_only (held : Option Nat) (only : u = s.withLoader u.loader) :
    (startPart held u).pending = s.pending := by
  rw [startPart_pending, only]
  rfl

/-- No command touches the queue. -/
theorem Happens.queue (h : Happens c s t) : t.pending = s.pending := by
  cases h with
  | aside aside => exact aside.pending
  | cleared | released | sampled | locks => rfl
  | pops result => rw [result]; rfl
  | loading _ _ only _ => rw [only]
  | starts _ _ _ only _ result => rw [result, State.withPort_pending, startPart_only _ only]
  | event beside _ body result =>
    rw [result, State.withPort_pending, settleEvent_pending, body.units.pending, beside.pending]

/-- A part that is RUNNING before and after a command has the same image, own address and reset cause. -/
theorem Happens.configuration (h : Happens c s t) (on : running s = true) (on' : running t = true) :
    t.loader = s.loader ∧ t.cause = s.cause ∧ t.hold = s.hold := by
  cases h with
  | aside aside => exact ⟨aside.loader, aside.cause, aside.hold⟩
  | cleared kind => exact absurd on' (by simp [running, State.cleared])
  | released kind pins port => exact absurd on' (by simp [released_not_running])
  | loading off => exact absurd on (by simp [off])
  | starts _ _ off => exact absurd on (by simp [off])
  | sampled | locks => exact ⟨rfl, rfl, rfl⟩
  | pops result => rw [result]; exact ⟨rfl, rfl, rfl⟩
  | event beside _ body result =>
    obtain ⟨hold, cause, -, loader, -⟩ := body.units
    rw [result]
    exact ⟨by simp [loader, beside.loader], by simp [cause, beside.cause], by simp [hold, beside.hold]⟩

/-! ### The commands of the running units (R38, R66, R111, R130) -/

theorem hears_off (off : running s = false) (f : RxFrame) : hears s f = false := by simp [hears, listening, off]

theorem receive_off (off : running s = false) (kind : Byte) (f : RxFrame) : receive kind f s = s := by
  rw [receive, hears_off off]
  rfl

/-- While the part is not RUNNING the commands of the running units change nothing. -/
theorem exec_off (off : running s = false) (units : runningOnly c = true) : exec c s = .next s := by
  cases c with
  | announceReceived f | queryReceived f | withdrawReceived f => exact congrArg Host.Outcome.next (receive_off off ..)
  | malformedFrame kind f =>
    refine congrArg Host.Outcome.next ?_
    rw [receive_off off, ite_self]
  | badFrame kind f => exact next_of_not (by simp [hears_off off])
  | frameAbandoned cause => exact next_of_not (by simp [listening, off])
  | entryStale k | entryRemoval k =>
    refine congrArg Host.Outcome.next ?_
    split
    · exact if_neg (by simp [off])
    · rfl
  | announceCompletion | queryCompletion =>
    refine congrArg Host.Outcome.next ?_
    split
    case h_1 => exact if_neg (by simp [off])
    all_goals rfl
  | gateCompletion i edges => exact next_of_not (by simp [measuring, off])
  | holdOffExpiry | wtrExpiry | settleExpiry | valueExpiry | stepAgeReached | warmupEnd | rateWindowEnd
  | transmissionStart | restEnd | withdrawCompletion | clash | periodicTimerExpiry | spacingExpiry | withdrawWaitExpiry
  | foreignStartBit => exact next_of_not (by simp [off])
  | _ => exact absurd units Bool.false_ne_true

/-! ### Held resets (R165, R167, R178) -/

theorem attemptLasting_of_hold (held : s.hold ≠ none) (time : Nat) : attemptLasting time s = none :=
  if_neg fun h => held (Option.isNone_iff_eq_none.mp h.1)

/-- While a reset is held every command but a POWER reset and the release changes nothing. -/
theorem exec_held (held : s.hold ≠ none) (power : c ≠ .powerReset) (release : ∀ a m l, c ≠ .resetRelease a m l) :
    exec c s = .next s := by
  have closed := port_closed_of_hold held
  have isHeld : s.hold.isSome = true := Option.isSome_iff_ne_none.mpr held
  by_cases units : runningOnly c = true
  · exact exec_off (not_running_of_hold held) units
  cases c with
  | powerReset => exact absurd rfl power
  | resetRelease a m l => exact absurd rfl (release a m l)
  | pinReset | msPoint => exact congrArg Host.Outcome.next (if_pos isHeld)
  | eepromReadDone => exact next_of_not (by simp [attemptLasting_of_hold held])
  | eepromAttemptFailed failure stop =>
    refine congrArg Host.Outcome.next ?_
    rw [attemptLasting_of_hold held]
  | eepromRetry => exact next_of_not fun h => held (Option.isNone_iff_eq_none.mp h.1)
  | read | loadImage | start | force | unforce | lockout | release | popEvent | softReset | unknownCommand =>
    exact next_of_not (by simp [closed])
  | _ => exact absurd rfl units

end

end Sys2Proof.Machine

open Sys2Proof Sys2Proof.Machine

/-- Settles O3: the queue and the configuration by the effects a command can have, the rest by each command's guard. -/
theorem commandsKeepToTheirPart : Obligations.CommandsKeepToTheirPart := by
  intro c edge s
  obtain ⟨t, eq⟩ := exec_answered c s
  have happens := exec_happens eq
  refine ⟨⟨t, eq, happens.queue, happens.configuration⟩, exec_held, fun held => ?_, exec_off⟩
  have closed := port_closed_of_hold held
  exact ⟨by simp [portEdge, closed], by simp [sdoLevel, closed]⟩

end


section
/-! PROOF. The records of READ: each has the length of its table, and a capture holds the 587 bytes of a pass (R179). -/

namespace Sys2Proof.Machine

section

variable {s : State}

/-! ### The lengths of the records (R186) -/

theorem pathBytes_length (path : List Nat) : (pathBytes path).length = 8 := by simp [pathBytes]

theorem announcedBytes_length (last : Option Content) : (announcedBytes last).length = 11 := by
  cases last with
  | none => rfl
  | some c => simp [announcedBytes, be1, pathBytes_length]

theorem statusRecord_length (s : State) : (statusRecord s).length = 26 := by
  simp [statusRecord, be1, be4, be3, be2, signed2, announcedBytes_length]

theorem inputRecord_length (s : State) (i : Inp) : (inputRecord s i).length = 19 := by
  simp [inputRecord, be1, be2, signed2]

theorem peerRecord_length (s : State) (k : Slot) : (peerRecord s k).length = 17 := by
  unfold peerRecord
  split
  · simp [be1, pathBytes_length]
  · simp [be1]

theorem holdoverRecord_length (s : State) : (holdoverRecord s).length = 14 := by
  simp [holdoverRecord, be1, be2, be3, signed2]

theorem countersRecord_length (s : State) : (countersRecord s).length = 16 := by simp [countersRecord, be2]

theorem oldestEvent_length (l : EventLog) : (oldestEvent l).length = 7 := by
  unfold oldestEvent
  split
  · simp [eventBytes, be1, be4, be3, be2]
  · simp [emptyEvent]

theorem eventHeadRecord_length (s : State) : (eventHeadRecord s).length = 9 := by
  simp [eventHeadRecord, be1, oldestEvent_length]

theorem recordAt_input (s : State) (i : Inp) : recordAt s (i.val + 1) = inputRecord s i := by
  rw [recordAt, dif_pos ⟨by omega, by omega⟩]
  rfl

theorem recordAt_peer (s : State) (k : Slot) : recordAt s (k.val + 7) = peerRecord s k := by
  rw [recordAt, dif_neg (by omega), dif_pos ⟨by omega, by omega⟩]
  rfl

/-- Each record has the length that the table of R179 gives its address. -/
theorem recordAt_length (s : State) (a : Nat) : (recordAt s a).length = recordLength a := by
  by_cases input : 1 ≤ a ∧ a ≤ 6
  · rw [recordAt, recordLength, dif_pos input, if_neg (by omega), if_pos input.2, inputRecord_length]
  by_cases peer : 7 ≤ a ∧ a ≤ 30
  · rw [recordAt, recordLength, dif_neg input, dif_pos peer, if_neg (by omega : ¬a = 0), if_neg (by omega : ¬a ≤ 6),
      if_pos peer.2, peerRecord_length]
  by_cases zero : a = 0
  · rw [recordAt, recordLength, dif_neg input, dif_neg peer, if_pos zero, if_pos zero, statusRecord_length]
  rw [recordAt, recordLength, dif_neg input, dif_neg peer, if_neg zero, if_neg zero, if_neg (by omega : ¬a ≤ 6),
    if_neg (by omega : ¬a ≤ 30)]
  by_cases holdover : a = 31
  · rw [if_pos holdover, if_pos holdover, holdoverRecord_length]
  by_cases counters : a = 32
  · rw [if_neg holdover, if_neg holdover, if_pos counters, if_pos counters, countersRecord_length]
  · rw [if_neg holdover, if_neg holdover, if_neg counters, if_neg counters, eventHeadRecord_length]

/-! ### The capture (R179) -/

/-- The capture is the records in the order of their addresses. -/
theorem capture_eq (s : State) : capture s = (List.range 34).flatMap (recordAt s) := by
  have addresses : List.range 34 = [0] ++ (List.finRange 6).map (fun i => i.val + 1) ++
      (List.finRange 24).map (fun k => k.val + 7) ++ [31, 32, 33] := by decide
  simp only [addresses, List.flatMap_append, List.flatMap_map, recordAt_input, recordAt_peer]
  simp [capture, recordAt]

theorem capture_length (s : State) : (capture s).length = 587 := by
  rw [capture_eq, List.length_flatMap]
  simp only [recordAt_length]
  decide

/-! ### A READ frame in progress (R179) -/

theorem recordOffset_lt {a : Nat} (known : a ≤ 33) : recordOffset a < 587 := by
  have all : ∀ a : Fin 34, recordOffset a < 587 := by decide
  exact all ⟨a, by omega⟩

theorem readingAt_wrap {place : Nat} (wrap : place % 587 = 0) : readingAt place = .before 0 := if_pos wrap

theorem readingAt_within {place : Nat} (inside : place % 587 ≠ 0) : readingAt place = .within (place % 587) := if_neg inside

theorem readingLaw_of_within {p : Port} {place : Nat} (reading : p.reading = .within place) (inside : place < 587)
    (whole : p.snapshot.length = 587) : ReadingLaw p := by
  intro q mem
  rw [reading] at mem
  obtain rfl : place = q := Option.some.inj mem
  exact ⟨inside, fun _ => whole⟩

theorem readingLaw_of_before {p : Port} {place : Nat} (reading : p.reading = .before place) (inside : place < 587) :
    ReadingLaw p := by
  intro q mem
  rw [reading] at mem
  obtain rfl : place = q := Option.some.inj mem
  exact ⟨inside, fun h => by simp [reading] at h⟩

theorem readingLaw_of_none {p : Port} (none : readPlace p.reading = none) : ReadingLaw p := by
  intro q mem
  rw [none] at mem
  cases mem

/-- A READ frame that has shifted `count` bytes from `place` stands in a pass again, beside a whole capture. -/
theorem shiftRecords_law {first : List Byte} {place : Nat} (count : Nat) (whole : first.length = 587)
    (law : ReadingLaw s.port) : ReadingLaw (shiftRecords first place count s).port := by
  unfold shiftRecords
  split
  · exact law
  · by_cases wrap : (place + count) % 587 = 0
    · exact readingLaw_of_before (readingAt_wrap wrap) (by omega)
    · refine readingLaw_of_within (readingAt_within wrap) (Nat.mod_lt _ (by omega)) ?_
      dsimp only [State.withPort_port]
      split
      · exact whole
      · exact capture_length s

theorem readOn_law (count : Nat) (law : ReadingLaw s.port) : ReadingLaw (readOn count s).port := by
  unfold readOn
  split
  · exact law
  · rename_i blank
    exact readingLaw_of_none (congrArg readPlace blank)
  · exact shiftRecords_law count (capture_length s) law
  · rename_i place within
    exact shiftRecords_law count ((law place (by simp [within])).2 within) law

theorem openRead_law (a : Nat) (s : State) : ReadingLaw (openRead a s).port := by
  by_cases blank : 33 < a
  · exact readingLaw_of_none (congrArg readPlace (if_pos blank))
  · exact readingLaw_of_before (if_neg blank) (recordOffset_lt (by omega))

end

end Sys2Proof.Machine

end


section
/-! PROOF. What a command does to the Announcer and the Bus Interface, said once for all commands: an attempt begins or
ends, the spacing timer stops, the part resets or starts, or everything goes on, the want moving the transmitter (R122)
and DUPLICATE silencing it (R128). -/

namespace Sys2Proof.Machine

section

variable {s t u v m : State} {c : Instr} {must expired : Bool}

/-! ### Where the Announcer and the Bus Interface go on -/

/-- The counters of the bus and of the Peer Table, and the place of a READ frame, stand within their sizes (R133, R147,
R179). -/
abbrev Tallies (s : State) : Prop :=
  ReadingLaw s.port ∧
  (s.bus.intact ≤ 65535 ∧ s.bus.bad ≤ 65535 ∧ s.bus.clashes ≤ 65535 ∧ s.bus.sent ≤ 65535) ∧
  (s.peers.untrusted ≤ 65535 ∧ s.peers.rateDiscarded ≤ 65535 ∧ s.peers.seqDiscarded ≤ 65535)

/-- The transmitter stands, the want moves it, or DUPLICATE silences it while no frame is sent. -/
inductive TxMoved (s t : State) : Prop
  | stands (tx : t.bus.tx = s.bus.tx) (duplicate : t.bus.duplicate = s.bus.duplicate)
      (wants : wantsFrame t.announcer = wantsFrame s.announcer)
  | wanted (tx : t.bus.tx = wantedTx (wantsFrame t.announcer) s.bus.tx) (duplicate : t.bus.duplicate = s.bus.duplicate)
  | silenced (on : running s = true) (free : s.bus.tx ≠ .sending) (tx : t.bus.tx = .silent)
      (duplicate : t.bus.duplicate = true)

/-- R136: the event flag is set when the content changes to one that differs from the last transmitted, and else is as it
was. -/
def FlagRaised (s t : State) : Prop :=
  running s = true → s.announcer.mode ≠ .off → t.announcer.eventFlag = (s.announcer.eventFlag ||
    (decide (currentContent t ≠ currentContent s) && decide (s.announcer.last ≠ some (currentContent t))))

/-- The flag and what it follows are as they were. -/
abbrev FlagStands (s t : State) : Prop :=
  t.announcer.eventFlag = s.announcer.eventFlag ∧ currentContent t = currentContent s

/-- No attempt begins or ends and no reset or START takes place: the frame on the line, its time and the spacing stand. -/
structure Onward (s t : State) : Prop where
  part : running t = running s
  mode : t.announcer.mode = s.announcer.mode ∨ running s = true ∧ t.announcer.mode ≠ .off
  rx : t.bus.rx = s.bus.rx ∨ running s = true ∧ t.bus.rx ≠ .off
  idle : t.bus.idle = s.bus.idle ∨ running s = true ∧ t.bus.idle ≠ none
  frame : t.announcer.frame = s.announcer.frame
  last : t.announcer.last = s.announcer.last
  spacing : t.announcer.spacingTimer = s.announcer.spacingTimer
  driven : t.bus.driven = s.bus.driven
  tx : TxMoved s t
  tallies : Tallies s → Tallies t
  flag : FlagRaised s t

theorem wantedTx_off {wants : Bool} {tx : Transmitter} : wantedTx wants tx = .off ↔ tx = .off := by
  cases tx <;> cases wants <;> simp [wantedTx]

theorem wantedTx_sending {wants : Bool} {tx : Transmitter} : wantedTx wants tx = .sending ↔ tx = .sending := by
  cases tx <;> cases wants <;> simp [wantedTx]

theorem wantedTx_silent {wants : Bool} {tx : Transmitter} : wantedTx wants tx = .silent ↔ tx = .silent := by
  cases tx <;> cases wants <;> simp [wantedTx]

theorem wantedTx_twice (first last : Bool) (tx : Transmitter) : wantedTx last (wantedTx first tx) = wantedTx last tx := by
  cases tx <;> cases first <;> rfl

theorem TxMoved.sending (moved : TxMoved s t) : t.bus.tx = .sending ↔ s.bus.tx = .sending := by
  cases moved with
  | stands tx => rw [tx]
  | wanted tx => rw [tx, wantedTx_sending]
  | silenced _ free tx => simp [tx, free]

theorem TxMoved.trans (part : running t = running s) (first : TxMoved s t) (second : TxMoved t u) : TxMoved s u := by
  cases second with
  | silenced on free tx duplicate =>
    exact .silenced (part ▸ on) (fun h => free (first.sending.mpr h)) tx duplicate
  | stands tx duplicate wants =>
    cases first with
    | stands tx' duplicate' wants' => exact .stands (tx.trans tx') (duplicate.trans duplicate') (wants.trans wants')
    | wanted tx' duplicate' => exact .wanted (by rw [tx, tx', wants]) (duplicate.trans duplicate')
    | silenced on free tx' duplicate' => exact .silenced on free (tx.trans tx') (duplicate.trans duplicate')
  | wanted tx duplicate =>
    cases first with
    | stands tx' duplicate' => exact .wanted (by rw [tx, tx']) (duplicate.trans duplicate')
    | wanted tx' duplicate' => exact .wanted (by rw [tx, tx', wantedTx_twice]) (duplicate.trans duplicate')
    | silenced on free tx' duplicate' =>
      exact .silenced on free (by rw [tx, tx']; rfl) (duplicate.trans duplicate')

/-- Of two steps in turn one leaves the content and the event flag. -/
theorem Onward.trans (first : Onward s t) (second : Onward t u) (still : FlagStands s t ∨ FlagStands t u) :
    Onward s u where
  part := second.part.trans first.part
  mode := by
    rcases second.mode with same | ⟨on, off⟩
    · rw [same]; exact first.mode
    · exact .inr ⟨first.part ▸ on, off⟩
  rx := by
    rcases second.rx with same | ⟨on, off⟩
    · rw [same]; exact first.rx
    · exact .inr ⟨first.part ▸ on, off⟩
  idle := by
    rcases second.idle with same | ⟨on, off⟩
    · rw [same]; exact first.idle
    · exact .inr ⟨first.part ▸ on, off⟩
  frame := second.frame.trans first.frame
  last := second.last.trans first.last
  spacing := second.spacing.trans first.spacing
  driven := second.driven.trans first.driven
  tx := first.tx.trans first.part second.tx
  tallies law := second.tallies (first.tallies law)
  flag on live := by
    have live' : t.announcer.mode ≠ .off := by
      rcases first.mode with same | ⟨-, off⟩
      · rwa [same]
      · exact off
    have raised := first.flag on live
    have raised' := second.flag (first.part.trans on) live'
    rcases still with ⟨flag, content⟩ | ⟨flag, content⟩
    · rw [raised', flag, content, first.last]
    · rw [flag, content, raised]

theorem flagRaised_of_stands (still : FlagStands s t) : FlagRaised s t := by
  obtain ⟨flag, content⟩ := still
  intro _ _
  simp [flag, content]

/-- The Announcer as it was, and the bus but for the receiver, the line, the idle count, the rest and the counters. -/
theorem Onward.of_bus (part : running t = running s) (announcer : t.announcer = s.announcer)
    (content : currentContent t = currentContent s)
    (rx : t.bus.rx = s.bus.rx ∨ running s = true ∧ t.bus.rx ≠ .off)
    (idle : t.bus.idle = s.bus.idle ∨ running s = true ∧ t.bus.idle ≠ none) (tx : t.bus.tx = s.bus.tx)
    (duplicate : t.bus.duplicate = s.bus.duplicate) (driven : t.bus.driven = s.bus.driven)
    (tallies : Tallies s → Tallies t) : Onward s t where
  part := part
  mode := .inl (by rw [announcer])
  rx := rx
  idle := idle
  frame := by rw [announcer]
  last := by rw [announcer]
  spacing := by rw [announcer]
  driven := driven
  tx := .stands tx duplicate (by rw [announcer])
  tallies := tallies
  flag := flagRaised_of_stands ⟨by rw [announcer], content⟩

/-- The Announcer and the bus as they were. -/
theorem Onward.of_same (part : running t = running s) (announcer : t.announcer = s.announcer) (bus : t.bus = s.bus)
    (content : currentContent t = currentContent s) (tallies : Tallies s → Tallies t) : Onward s t :=
  .of_bus part announcer content (.inl (by rw [bus])) (.inl (by rw [bus])) (by rw [bus]) (by rw [bus]) (by rw [bus])
    tallies

theorem Onward.refl (s : State) : Onward s s := .of_same rfl rfl rfl rfl id

theorem answer_onward (args : Nat) (bytes : List Byte) (s : State) : Onward s (answer args bytes s) :=
  .of_same rfl rfl rfl rfl fun ⟨_, counts⟩ => ⟨readingLaw_of_none rfl, counts⟩

theorem answer_stands (args : Nat) (bytes : List Byte) (s : State) : FlagStands s (answer args bytes s) := ⟨rfl, rfl⟩

theorem Onward.answered (onward : Onward s t) (args : Nat) (bytes : List Byte) : Onward s (answer args bytes t) :=
  onward.trans (answer_onward ..) (.inr (answer_stands ..))

/-! ### The want and the end of an event (R122, R136) -/

/-- The want moves the transmitter on another Announcer with the same frame, spacing and content. -/
theorem syncWant_onward {a : Announcer} (mode : a.mode = s.announcer.mode ∨ running s = true ∧ a.mode ≠ .off)
    (frame : a.frame = s.announcer.frame) (last : a.last = s.announcer.last)
    (spacing : a.spacingTimer = s.announcer.spacingTimer) (flag : a.eventFlag = s.announcer.eventFlag) :
    Onward s (syncWant (s.withAnnouncer a)) := by
  rw [syncWant_eq]
  exact ⟨rfl, mode, .inl rfl, .inl rfl, frame, last, spacing, rfl, .wanted rfl rfl, id,
    flagRaised_of_stands ⟨flag, rfl⟩⟩

theorem currentContent_withAnnouncer (s : State) (a : Announcer) : currentContent (s.withAnnouncer a) = currentContent s :=
  rfl

theorem currentContent_withBus (s : State) (b : Bus) : currentContent (s.withBus b) = currentContent s := rfl

theorem raiseEvent_content (before s : State) : currentContent (raiseEvent before s) = currentContent s := by
  unfold raiseEvent
  split <;> rfl

theorem syncWant_content (s : State) : currentContent (syncWant s) = currentContent s := by rw [syncWant_eq]; rfl

/-- R136: the end of an event raises the flag on the content it leaves. -/
theorem raiseEvent_flag (mode : s.announcer.mode ≠ .off) : (raiseEvent t s).announcer.eventFlag =
    (s.announcer.eventFlag || (decide (currentContent s ≠ currentContent t) &&
      decide (s.announcer.last ≠ some (currentContent s)))) := by
  unfold raiseEvent
  by_cases changed : currentContent s = currentContent t
  · rw [if_neg fun h => h.2.1 changed.symm]
    simp [changed]
  by_cases sent : s.announcer.last = some (currentContent s)
  · rw [if_neg fun h => h.2.2 sent]
    simp [sent]
  · rw [if_pos ⟨mode, fun h => changed h.symm, sent⟩]
    simp [changed, sent]

/-- The end of an event that only the query list has moved of the Announcer's. -/
theorem settleEvent_onward (part : running m = running s) (bus : m.bus = s.bus)
    (announcer : m.announcer = { s.announcer with queries := m.announcer.queries })
    (tallies : Tallies s → Tallies m) : Onward s (settleEvent s must expired m) := by
  obtain ⟨⟨hold, -, -, loader, -⟩, -, ⟨same, -⟩, sameBus, -, peers, port⟩ := settleEvent_kept s must expired m
  have modes : (settleEvent s must expired m).announcer.mode = s.announcer.mode := by rw [same, announcer]
  have tx : (settleEvent s must expired m).bus.tx =
      wantedTx (wantsFrame (settleEvent s must expired m).announcer) s.bus.tx := by
    rw [← bus]
    simp only [settleEvent, syncWant_eq]
    simp
  have flag (live : s.announcer.mode ≠ .off) : (settleEvent s must expired m).announcer.eventFlag =
      (s.announcer.eventFlag || (decide (currentContent (settleEvent s must expired m) ≠ currentContent s) &&
        decide (s.announcer.last ≠ some (currentContent (settleEvent s must expired m))))) := by
    have kept : (selectorTurn s must expired (clearBarredForce m)).announcer = m.announcer := by simp
    simp only [settleEvent, syncWant_announcer, syncWant_content, raiseEvent_content]
    rw [raiseEvent_flag (by rw [kept, announcer]; exact live), kept, announcer]
  have bus' : (settleEvent s must expired m).bus = { s.bus with tx := (settleEvent s must expired m).bus.tx } := by
    rw [← bus]; exact sameBus
  generalize settleEvent s must expired m = t at *
  refine ⟨(running_congr hold loader).trans part, .inl modes, .inl (by rw [bus']), .inl (by rw [bus']),
    by rw [same, announcer], by rw [same, announcer], by rw [same, announcer], by rw [bus'],
    .wanted tx (by rw [bus']), fun law => ?_, fun _ => flag⟩
  obtain ⟨reading, bus'', counts⟩ := tallies law
  rw [bus] at bus''
  rw [Tallies, port, peers, bus']
  exact ⟨reading, bus'', counts⟩

theorem recomputeBound_onward {k : Slot} {e : Option PeerEntry} (put : EntryPut s k e t) :
    Onward s (settleEvent s must expired (recomputeBound (address k) t)) := by
  obtain ⟨hold, -, -, loader, bus, port, -⟩ := put.recomputed_units (address k)
  refine settleEvent_onward (running_congr hold loader) bus (by rw [recomputeBound_announcer]; exact put.announcer)
    fun law => ?_
  rw [Tallies, port, bus, recomputeBound_peers, put.peers]
  exact law

theorem Body.peers_counts (body : Body c s must expired m) : m.peers.untrusted = s.peers.untrusted ∧
    m.peers.rateDiscarded = s.peers.rateDiscarded ∧ m.peers.seqDiscarded = s.peers.seqDiscarded := by
  cases body with
  | announced _ _ _ put | withdrawn _ _ _ put | stale _ _ _ _ put | removed _ _ _ _ put =>
    rw [recomputeBound_peers, put.peers]
    exact ⟨rfl, rfl, rfl⟩
  | gate =>
    rw [takeOffset_eq]
    simp
  | value =>
    rw [clearHoldoverForce_eq]
    simp [expireValue]
  | age | force | unforce => exact ⟨rfl, rfl, rfl⟩
  | _ => simp [clearWarmup]

/-- Only the query list moves of the Announcer's before the end of an event. -/
theorem Body.announcer (body : Body c s must expired m) :
    m.announcer = { s.announcer with queries := m.announcer.queries } := by
  cases body with
  | announced _ _ _ put | withdrawn _ _ _ put | stale _ _ _ _ put | removed _ _ _ _ put =>
    rw [recomputeBound_announcer]
    exact put.announcer
  | gate =>
    rw [takeOffset_eq]
    simp
  | value =>
    rw [clearHoldoverForce_eq]
    simp [expireValue]
  | age | force | unforce => rfl
  | _ => simp [clearWarmup]

/-- An event of the running units goes on. -/
theorem Body.onward (body : Body c s must expired m) : Onward s (settleEvent s must expired m) := by
  obtain ⟨hold, -, -, loader, bus, port, -⟩ := body.units
  obtain ⟨untrusted, rate, sequence⟩ := body.peers_counts
  refine settleEvent_onward (running_congr hold loader) bus body.announcer fun law => ?_
  rw [Tallies, port, bus, untrusted, rate, sequence]
  exact law

/-! ### Reception (R118 to R121, R128, R149) -/

theorem countBad_onward (s : State) : Onward s (countBad s) :=
  .of_bus rfl rfl rfl (.inl rfl) (.inl rfl) rfl rfl rfl fun ⟨port, ⟨intact, _, clashes, sent⟩, peers⟩ =>
    ⟨port, ⟨intact, bump_le _, clashes, sent⟩, peers⟩

/-- A receiver that works, with the line and the rest as they may be. -/
theorem receiver_onward {rx : Receiver} {line : Line} {idle : Option Nat} {rest : Bool} (on : running s = true)
    (works : rx = s.bus.rx ∨ rx ≠ .off) (counts : idle = s.bus.idle ∨ idle ≠ none) :
    Onward s (s.withBus { s.bus with rx := rx, line := line, idle := idle, rest := rest }) :=
  .of_bus rfl rfl rfl (works.imp_right fun h => ⟨on, h⟩) (counts.imp_right fun h => ⟨on, h⟩) rfl rfl rfl id

theorem lineFree_onward {rx : Receiver} (on : running s = true) (works : rx ≠ .off) : Onward s (lineFree rx s) :=
  receiver_onward on (.inr works) (.inr (by simp))

theorem afterHeader_works (s : State) (d : Byte) : afterHeader s d ≠ .off := by
  rw [afterHeader]
  split <;> exact (nomatch ·)

theorem headerTaken_works (s : State) (ch : LineChar) : headerTaken s ch ≠ .off := by
  unfold headerTaken
  split
  · exact afterHeader_works s _
  · exact (nomatch ·)

theorem receiverFreed_works (s : State) : receiverFreed s ≠ .off := by
  unfold receiverFreed
  split
  · split
    · exact headerTaken_works s _
    · exact (nomatch ·)
  all_goals exact (nomatch ·)

theorem takeChar_works (s : State) (ch : LineChar) : takeChar s ch = s.bus.rx ∨ takeChar s ch ≠ .off := by
  unfold takeChar
  cases s.bus.rx with
  | off => exact .inl rfl
  | hunt => exact .inr (headerTaken_works s ch)
  | assemble chars =>
    refine .inr ?_
    dsimp only
    split <;> simp

theorem abandon_onward (on : running s = true) (cause : AbandonCause) : Onward s (abandon cause s) := by
  cases cause with
  | newMark dest => exact lineFree_onward on (afterHeader_works s dest)
  | idleGap => exact receiver_onward on (.inr (by simp)) (.inl rfl)
  | framingError held => exact receiver_onward on (.inr (by simp)) (.inr (by simp))
  | badLength => exact lineFree_onward on (by simp)

theorem abandon_stands (cause : AbandonCause) (s : State) : FlagStands s (abandon cause s) := by
  cases cause <;> exact ⟨rfl, rfl⟩

theorem dropFrame_onward (cause : AbandonCause) (s : State) : Onward s (dropFrame cause s) := by
  unfold dropFrame
  split
  · rename_i drops
    simp only [listening, Bool.and_eq_true] at drops
    exact (abandon_onward drops.1.1 cause).trans (countBad_onward _) (.inl (abandon_stands ..))
  · exact .refl s

theorem dropFrame_stands (cause : AbandonCause) (s : State) : FlagStands s (dropFrame cause s) := by
  unfold dropFrame
  split
  · exact abandon_stands cause s
  · exact ⟨rfl, rfl⟩

theorem foreignChar_onward (on : running s = true) (ch : LineChar) : Onward s (foreignChar ch s) := by
  refine receiver_onward on ?_ (.inr (by simp))
  split
  · exact .inl rfl
  · exact takeChar_works s ch

theorem frameHeard_onward (on : running s = true) (kind : Byte) (f : RxFrame) : Onward s (frameHeard kind f s) := by
  unfold frameHeard
  split
  · exact (countBad_onward s).trans (lineFree_onward on (by simp)) (.inl ⟨rfl, rfl⟩)
  · exact lineFree_onward on (by simp)

theorem heard_onward (on : running s = true) (kind : Byte) (f : RxFrame) : Onward s (heard kind f s) := by
  refine .of_bus rfl rfl rfl (.inr ⟨on, (nomatch ·)⟩) (.inr ⟨on, (nomatch ·)⟩) rfl rfl rfl ?_
  intro ⟨port, ⟨_, bad, clashes, sent⟩, peers⟩
  refine ⟨port, ⟨bump_le _, ?_, clashes, sent⟩, peers⟩
  show (if _ then min 65535 (s.bus.bad + 1) else s.bus.bad) ≤ 65535
  split
  · exact bump_le _
  · exact bad

theorem heard_stands (kind : Byte) (f : RxFrame) (s : State) : FlagStands s (heard kind f s) := ⟨rfl, rfl⟩

theorem countUntrusted_onward (s : State) : Onward s (countUntrusted s) :=
  .of_same rfl rfl rfl rfl fun ⟨port, bus, _, peers⟩ => ⟨port, bus, bump_le _, peers⟩

theorem countRate_onward (s : State) : Onward s (countRate s) :=
  .of_same rfl rfl rfl rfl fun ⟨port, bus, untrusted, _, sequence⟩ => ⟨port, bus, untrusted, bump_le _, sequence⟩

theorem countSequence_onward (s : State) : Onward s (countSequence s) :=
  .of_same rfl rfl rfl rfl fun ⟨port, bus, untrusted, rate, _⟩ => ⟨port, bus, untrusted, rate, bump_le _⟩

theorem countWindow_onward (k : Slot) (s : State) : Onward s (countWindow k s) := .of_same rfl rfl rfl rfl id

theorem withWindow_onward (k : Slot) (w : Option RateWindow) (s : State) : Onward s (s.withWindow k w) :=
  .of_same rfl rfl rfl rfl id

/-- DUPLICATE silences the transmitter while no frame is sent (R128). -/
theorem setDuplicate_onward (on : running s = true) (free : s.bus.tx ≠ .sending) (cause arg : Nat) :
    Onward s (setDuplicate cause arg s) := by
  unfold setDuplicate
  split
  · exact .refl s
  · exact ⟨rfl, .inl rfl, .inl rfl, .inl rfl, rfl, rfl, rfl, rfl, .silenced on free rfl rfl, id,
      flagRaised_of_stands ⟨rfl, rfl⟩⟩

theorem acceptQuery_onward (s : State) : Onward s (acceptQuery s) := syncWant_onward (.inl rfl) rfl rfl rfl rfl

theorem acceptAnnounce_onward (k : Slot) (f : RxFrame) (s : State) : Onward s (acceptAnnounce k f s) := by
  unfold acceptAnnounce
  split
  · exact recomputeBound_onward (announced_put ..)
  · exact .refl s

theorem acceptWithdraw_onward (k : Slot) (f : RxFrame) (s : State) : Onward s (acceptWithdraw k f s) := by
  cases found : s.peers.entries[k] with
  | none =>
    unfold acceptWithdraw
    rw [found]
    exact .refl s
  | some e =>
    rw [acceptWithdraw_eq found]
    exact recomputeBound_onward (withdrawnState_put ..)

theorem actOn_onward (kind : Byte) (f : RxFrame) (k : Slot) (s : State) : Onward s (actOn kind f k s) := by
  unfold actOn
  split
  · exact acceptAnnounce_onward ..
  · split
    · exact acceptQuery_onward s
    · exact acceptWithdraw_onward ..

theorem applyVerdict_onward (on : running s = true) (free : s.bus.tx ≠ .sending) (v : Verdict) (kind : Byte)
    (f : RxFrame) : Onward s (applyVerdict v kind f s) := by
  have passed (v : Verdict) (k : Slot) : Onward s (passRate v kind f k s) := by
    unfold passRate
    split
    · exact (countWindow_onward k s).trans (actOn_onward ..) (.inl ⟨rfl, rfl⟩)
    · exact (countWindow_onward k s).trans (countSequence_onward _) (.inl ⟨rfl, rfl⟩)
  cases v with
  | malformed => exact countBad_onward s
  | ownSource => exact (countUntrusted_onward s).trans (setDuplicate_onward (s := countUntrusted s) on free ..) (.inl ⟨rfl, rfl⟩)
  | untrusted => exact countUntrusted_onward s
  | rate => exact countRate_onward s
  | sequence | accepted =>
    dsimp only [applyVerdict]
    split
    · exact passed ..
    · exact .refl s

theorem receive_onward (kind : Byte) (f : RxFrame) (s : State) : Onward s (receive kind f s) := by
  by_cases hears' : hears s f = true ∧ intact kind f = true
  · obtain ⟨takes, good⟩ := hears'
    obtain ⟨on, free, -⟩ := hears_iff.mp takes
    have first := heard_onward on kind f
    rw [receive_eq takes good]
    exact first.trans (applyVerdict_onward (first.part.trans on) (fun h => free (first.tx.sending.mp h)) ..)
      (.inl (heard_stands ..))
  · rw [receive, if_neg (by simpa using hears')]
    exact .refl s

/-! ### Every command -/

/-- What a command does to the Announcer and the Bus Interface. -/
inductive BusEffect : Instr → State → State → Prop
  | onward {c : Instr} {s t : State} (onward : Onward s t) : BusEffect c s t
  | begins {s t : State} (on : running s = true) (deferring : s.bus.tx = .deferring) (frame : (buildFrame s).frame ≠ none)
      (result : t = { s with
        announcer := buildFrame s
        bus := { s.bus with tx := .sending, rx := .hunt, idle := some 0, driven := 0, rest := false } }) :
      BusEffect .transmissionStart s t
  | declines {s t : State} (on : running s = true) (deferring : s.bus.tx = .deferring) (nothing : (buildFrame s).frame = none)
      (result : t = { s with
        announcer := buildFrame s
        bus := { s.bus with tx := wantedTx (wantsFrame (buildFrame s)) s.bus.tx, rest := false } }) :
      BusEffect .transmissionStart s t
  | announced {s t : State} {content : Content} (on : running s = true) (sending : s.bus.tx = .sending)
      (result : t = s.ended (completing (announceDone content s).announcer s)) : BusEffect .announceCompletion s t
  | queried {s t : State} {d : Nat} (on : running s = true) (sending : s.bus.tx = .sending)
      (result : t = s.ended (completing (queryDone d s).announcer s)) : BusEffect .queryCompletion s t
  | clashed {s t : State} {pins : Pins} (on : running s = true) (sending : s.bus.tx = .sending)
      (result : t = s.ended (clashing s)) : BusEffect (.clash pins) s t
  | spaced {s t : State} (on : running s = true) (out : s.announcer.spacingTimer = some 0)
      (result : t = syncWant (s.withAnnouncer { s.announcer with spacingTimer := none })) : BusEffect .spacingExpiry s t
  | resets {c : Instr} {s t : State} (off : running t = false) (announcer : t.announcer = Announcer.init)
      (bus : t.bus = Bus.init) (peers : t.peers = PeerTable.init) (port : t.port.reading = .closed) : BusEffect c s t
  | starts {c : Instr} {s t : State} {held : Option Nat} (off : running s = false) (on : running t = true)
      (announcer : t.announcer = announcerAtStart)
      (bus : t.bus = { busAtStart held with tx := wantedTx (wantsFrame announcerAtStart) .idle })
      (peers : t.peers = PeerTable.init) (port : ReadingLaw s.port → ReadingLaw t.port) : BusEffect c s t

theorem BusEffect.refl (c : Instr) (s : State) : BusEffect c s s := .onward (.refl s)

/-- A command whose event occurs, or that does nothing. -/
theorem BusEffect.of_guarded {p : Prop} {_ : Decidable p}
    (h : (Host.Outcome.next (if p then u else s) : Host.Outcome State Fault Refusal) = .next t)
    (effect : p → BusEffect c s u) : BusEffect c s t := by
  obtain rfl := Host.Outcome.next.inj h
  split
  · rename_i hp
    exact effect hp
  · exact .refl c s

theorem released_effect (c : Instr) (s : State) (kind : ResetKind) (pins : Pins) {port : Port} (pending : List Instr)
    (closed : port.reading = .closed) : BusEffect c s (released kind pins port pending) :=
  .resets (released_not_running ..) rfl rfl rfl closed

theorem softResetNow_effect (c : Instr) (s : State) (pins : Pins) (t : State) : BusEffect c s (softResetNow pins t) :=
  released_effect c s .soft pins _ rfl

theorem cleared_effect (c : Instr) (s : State) (kind : ResetKind) (pins : Pins) (pending : List Instr) :
    BusEffect c s (State.cleared kind pins pending) := .resets (by simp [running, State.cleared]) rfl rfl rfl rfl

theorem BusEffect.of_body (body : Body c s must expired m) : BusEffect c s (settleEvent s must expired m) :=
  .onward body.onward

theorem BusEffect.of_answered (body : Body c s must expired m) (args : Nat) (bytes : List Byte) :
    BusEffect c s (answer args bytes (settleEvent s must expired m)) := .onward (body.onward.answered ..)

theorem BusEffect.answer (c : Instr) (args : Nat) (bytes : List Byte) (s : State) : BusEffect c s (answer args bytes s) :=
  .onward (answer_onward ..)

/-- The Image Loader's own changes, before START. -/
theorem BusEffect.of_loading (off : running s = false) (off' : running t = false)
    (only : t = { s with loader := t.loader, port := t.port }) (port : ReadingLaw s.port → ReadingLaw t.port) :
    BusEffect c s t := by
  refine .onward ?_
  have announcer : t.announcer = s.announcer := by rw [only]
  have bus : t.bus = s.bus := by rw [only]
  have peers : t.peers = s.peers := by rw [only]
  refine ⟨off'.trans off.symm, .inl (by rw [announcer]), .inl (by rw [bus]), .inl (by rw [bus]), by rw [announcer],
    by rw [announcer], by rw [announcer], by rw [bus], .stands (by rw [bus]) (by rw [bus]) (by rw [announcer]), ?_,
    fun on => absurd on (by simp [off])⟩
  rw [Tallies, Tallies, bus, peers]
  exact And.imp_left port

theorem startPart_peers (held : Option Nat) (s : State) : (startPart held s).peers = PeerTable.init := by
  rw [startPart_eq, startReady, warmupAtStart_eq]
  simp [logStarted, startUnits]

theorem startPart_bus (held : Option Nat) (s : State) : (startPart held s).bus =
    { busAtStart held with tx := wantedTx (wantsFrame announcerAtStart) .idle } := by
  rw [startPart_eq, syncWant_eq, startReady, warmupAtStart_eq]
  simp [logStarted, startUnits, busAtStart]

theorem startPart_effect (held : Option Nat) (open' : u.hold = none) (off : running s = false)
    (port : u.port = s.port) : BusEffect c s (startPart held u) :=
  .starts off (by simp [running, open']) (startPart_announcer ..) (startPart_bus ..) (startPart_peers ..)
    (by rw [startPart_port, port]; exact id)

theorem startPart_answered (held : Option Nat) (open' : s.hold = none) (off : running s = false) (args : Nat)
    (bytes : List Byte) : BusEffect c s (answer args bytes (startPart held s)) := by
  have on : running (startPart held s) = true := by simp [running, open']
  have announcer := startPart_announcer held s
  have bus := startPart_bus held s
  have peers := startPart_peers held s
  generalize startPart held s = t at *
  exact .starts off on announcer bus peers fun _ => readingLaw_of_none rfl

theorem settleEnd_onward (acquiring : s.follower.output = .acquiring) : Onward s (settleEnd s) := by
  refine .of_same rfl rfl rfl ?_ id
  rw [currentContent, currentContent, acquiring]
  rfl

theorem execPinReset_effect (h : execPinReset s = .next t) : BusEffect .pinReset s t := by
  obtain rfl := Host.Outcome.next.inj h
  split
  · exact .refl ..
  · exact cleared_effect ..

theorem execResetRelease_effect {addrStrap : BitVec 5} {controller : Bool} {los : BitVec 6}
    (h : execResetRelease addrStrap controller los s = .next t) :
    BusEffect (.resetRelease addrStrap controller los) s t := by
  obtain rfl := Host.Outcome.next.inj h
  split
  · exact released_effect _ _ _ _ _ rfl
  · exact .refl ..

theorem execMsPoint_effect {i : Inp} {high edge : Bool} (h : execMsPoint i high edge s = .next t) :
    BusEffect (.msPoint i high edge) s t := by
  have sampled : Onward s (s.withPins (setLosPin s.pins i high)) := .of_same rfl rfl rfl rfl id
  have judged (m : Monitor) : BusEffect (.msPoint i high edge) s
      ((s.withPins (setLosPin s.pins i high)).withMonitor i m) := .onward (.of_same rfl rfl rfl rfl id)
  obtain rfl := Host.Outcome.next.inj h
  split
  · exact .refl ..
  dsimp only
  split
  case isFalse => exact judged _
  case isTrue on =>
    have monitor : judgeSignal (detect s.monitors[i] high edge) (inputCfg s i).losMode = pointMonitor s i high edge :=
      (if_pos on).symm
    rw [monitor, detect_signal]
    unfold reportSignal
    split
    case isTrue arises =>
      simp only [Bool.and_eq_true, Bool.not_eq_true'] at arises
      exact .onward (sampled.trans (Body.onward (s := s.withPins (setLosPin s.pins i high))
        (.arises on arises.1 arises.2)) (.inl ⟨rfl, rfl⟩))
    case isFalse =>
      split
      case isTrue clears =>
        simp only [Bool.and_eq_true, Bool.not_eq_true'] at clears
        exact .onward (sampled.trans (Body.onward (s := s.withPins (setLosPin s.pins i high))
          (.clears on clears.1 clears.2)) (.inl ⟨rfl, rfl⟩))
      case isFalse => exact judged _

theorem execEepromReadDone_effect {image : List Byte} {held : Option Nat}
    (h : execEepromReadDone image s held = .next t) : BusEffect (.eepromReadDone image held) s t := by
  refine .of_guarded h fun ⟨lasting, _⟩ => ?_
  obtain ⟨n, lasting⟩ := Option.isSome_iff_exists.mp lasting
  obtain ⟨noHold, part, -⟩ := (attemptLasting_eq_some _ _ _).mp lasting
  have off : running s = false := running_eq_false_of_part (by simp [part])
  unfold imageRead
  split
  · exact .of_loading off (running_eq_false_of_part (by simp [cfgFaultWith])) rfl id
  · exact startPart_effect held noHold off rfl

theorem execEepromAttemptFailed_effect {failure : AttemptFailure} {stop : Bool}
    (h : execEepromAttemptFailed s failure stop = .next t) : BusEffect (.eepromAttemptFailed failure stop) s t := by
  obtain rfl := Host.Outcome.next.inj h
  split
  · rename_i n lasting
    obtain ⟨noHold, part, -⟩ := (attemptLasting_eq_some _ _ _).mp lasting
    have off : running s = false := running_eq_false_of_part (by simp [part])
    unfold attemptEnd
    split
    · exact .of_loading off (running_eq_false_of_part (by simp [cfgFaultWith])) rfl id
    · exact .of_loading off (running_eq_false_of_part (by simp [transferred, part])) rfl id
  · exact .refl ..

theorem execEepromRetry_effect (h : execEepromRetry s = .next t) : BusEffect .eepromRetry s t := by
  refine .of_guarded h fun ⟨_, part⟩ => ?_
  have off : running s = false := running_eq_false_of_part (by simp [part])
  split
  · exact .of_loading off (running_eq_false_of_part (by simp [part])) rfl id
  all_goals exact .refl ..

theorem execLoadImage_effect {image : List Byte} (h : execLoadImage image s = .next t) :
    BusEffect (.loadImage image) s t := by
  refine .of_guarded h fun _ => ?_
  split
  · exact .answer ..
  · unfold loadResult
    split
    · rename_i takes
      have part := takesImage_part takes
      have off : running s = false := running_eq_false_of_part part
      split
      · exact .of_loading off (running_eq_false_of_part (by simpa using part)) rfl fun _ => readingLaw_of_none rfl
      · exact .of_loading off (running_eq_false_of_part (by simp)) rfl fun _ => readingLaw_of_none rfl
    · exact .answer ..

theorem execStart_effect {held : Option Nat} (h : execStart s held = .next t) : BusEffect (.start held) s t := by
  refine .of_guarded h fun open' => ?_
  have noHold : s.hold = none := (portOpen_iff s).mp open'
  by_cases can : startable s = true
  · simp only [if_pos can]
    obtain ⟨part, holds⟩ := (startable_iff s).mp can
    exact startPart_answered held noHold (running_eq_false_of_part (by simp [part])) ..
  · simp only [if_neg can]
    exact .answer ..

theorem execLockout_effect {n : Byte} (h : execLockout n s = .next t) : BusEffect (.lockout n) s t := by
  refine .of_guarded h fun _ => ?_
  split
  · rename_i i names
    split
    · rename_i on
      unfold lockInput
      split
      · exact .answer ..
      · rename_i absent
        exact .of_answered (.lockout names on (by simpa using absent)) ..
    · exact .answer ..
  · exact .answer ..

theorem execRelease_effect {n : Byte} (h : execRelease n s = .next t) : BusEffect (.release n) s t := by
  refine .of_guarded h fun _ => ?_
  split
  · rename_i i names
    split
    · rename_i on
      unfold releaseInput
      split
      · rename_i present
        exact .of_answered (.release names on present) ..
      · exact .answer ..
    · exact .answer ..
  · exact .answer ..

theorem execForce_effect {n : Byte} (h : execForce n s = .next t) : BusEffect (.force n) s t := by
  refine .of_guarded h fun _ => ?_
  split
  · rename_i f names
    split
    · rename_i can
      simp only [Bool.and_eq_true] at can
      unfold setForce
      split
      · exact .answer ..
      · rename_i other
        exact .of_answered (.force names can.1 can.2 other) ..
    · exact .answer ..
  · exact .answer ..

theorem execUnforce_effect (h : execUnforce s = .next t) : BusEffect .unforce s t := by
  refine .of_guarded h fun _ => ?_
  by_cases on : running s = true
  · simp only [if_pos on]
    unfold setForce
    split
    · exact .answer ..
    · rename_i other
      exact .of_answered (.unforce on other) ..
  · simp only [if_neg on]
    exact .answer ..

theorem execEntryStale_effect {k : Slot} (h : execEntryStale k s = .next t) : BusEffect (.entryStale k) s t := by
  obtain rfl := Host.Outcome.next.inj h
  split
  · rename_i e found
    split
    · rw [goStale_eq]
      exact .onward (recomputeBound_onward (staleState_put ..))
    · exact .refl ..
  · exact .refl ..

theorem execEntryRemoval_effect {k : Slot} (h : execEntryRemoval k s = .next t) :
    BusEffect (.entryRemoval k) s t := by
  obtain rfl := Host.Outcome.next.inj h
  split
  · rename_i e found
    split
    · exact .onward (recomputeBound_onward (.of_record (.inr (.inr rfl)) rfl))
    · exact .refl ..
  · exact .refl ..

theorem execForeignStartBit_effect {ch : LineChar} (h : execForeignStartBit ch s = .next t) :
    BusEffect (.foreignStartBit ch) s t := by
  refine .of_guarded h fun starts => ?_
  simp only [Bool.and_eq_true] at starts
  have first := dropFrame_onward .idleGap s
  exact .onward (first.trans (foreignChar_onward (first.part.trans starts.1.1) ch) (.inl (dropFrame_stands ..)))

theorem execBadFrame_effect {kind : Byte} {f : RxFrame} (h : execBadFrame kind f s = .next t) :
    BusEffect (.badFrame kind f) s t := by
  refine .of_guarded h fun hears => ?_
  simp only [Bool.and_eq_true] at hears
  obtain ⟨on, free, -⟩ := hears_iff.mp hears.1
  exact .onward ((frameHeard_onward on ..).trans (countBad_onward _) (.inr ⟨rfl, rfl⟩))

theorem execMalformedFrame_effect {kind : Byte} {f : RxFrame} (h : execMalformedFrame kind f s = .next t) :
    BusEffect (.malformedFrame kind f) s t := by
  obtain rfl := Host.Outcome.next.inj h
  split
  · exact .refl ..
  · exact .onward (receive_onward ..)

theorem execTransmissionStart_effect (h : execTransmissionStart s = .next t) : BusEffect .transmissionStart s t := by
  refine .of_guarded h fun may => ?_
  simp only [Bool.and_eq_true, mayStart, decide_eq_true_eq] at may
  obtain ⟨on, ⟨deferring, -⟩, -⟩ := may
  by_cases frame : (buildFrame s).frame = none
  · exact .declines on deferring frame (startTransmission_none rfl frame)
  · exact .begins on deferring frame (startTransmission_frame rfl frame)

theorem execAnnounceCompletion_effect (h : execAnnounceCompletion s = .next t) : BusEffect .announceCompletion s t := by
  obtain rfl := Host.Outcome.next.inj h
  split
  · split
    · rename_i sends
      simp only [Bool.and_eq_true, decide_eq_true_eq] at sends
      exact .announced sends.1 sends.2 (busCompletion_eq ..)
    · exact .refl ..
  all_goals exact .refl ..

theorem execQueryCompletion_effect (h : execQueryCompletion s = .next t) : BusEffect .queryCompletion s t := by
  obtain rfl := Host.Outcome.next.inj h
  split
  · split
    · rename_i sends
      simp only [Bool.and_eq_true, decide_eq_true_eq] at sends
      exact .queried sends.1 sends.2 (busCompletion_eq ..)
    · exact .refl ..
  all_goals exact .refl ..

theorem execClash_effect {pins : Pins} (h : execClash s pins = .next t) : BusEffect (.clash pins) s t := by
  refine .of_guarded h fun sends => ?_
  simp only [Bool.and_eq_true, decide_eq_true_eq] at sends
  unfold clashNow
  rw [clashDuplicate_eq]
  dsimp only
  split
  · exact softResetNow_effect ..
  · exact .clashed sends.1 sends.2 rfl

theorem beginWithdraw_onward (on : running s = true) : Onward s (beginWithdraw s) :=
  syncWant_onward (.inr ⟨on, (nomatch ·)⟩) rfl rfl rfl rfl

theorem execSoftReset_effect {pins : Pins} (h : execSoftReset s pins = .next t) : BusEffect (.softReset pins) s t := by
  refine .of_guarded h fun _ => ?_
  unfold softResetTaken
  split
  · exact .answer ..
  · split
    · rename_i live
      simp only [Bool.and_eq_true] at live
      exact .onward ((answer_onward ..).trans (beginWithdraw_onward live.1) (.inl ⟨rfl, rfl⟩))
    · exact softResetNow_effect ..

theorem execRead_effect {place : ReadFrom} {count : Nat} (h : execRead place count s = .next t) :
    BusEffect (.read place count) s t := by
  have reads (w : State) : Onward w (readOn count w) := by
    obtain ⟨port, eq⟩ := readOn_withPort count w
    have law := readOn_law (s := w) count
    rw [eq] at law ⊢
    exact .of_same rfl rfl rfl rfl fun ⟨reading, counts⟩ => ⟨law reading, counts⟩
  refine .of_guarded h fun _ => ?_
  split
  · rename_i a
    have opens : Onward s (openRead a.toNat s) :=
      .of_same rfl rfl rfl rfl fun ⟨_, counts⟩ => ⟨openRead_law a.toNat s, counts⟩
    exact .onward (opens.trans (reads _) (.inl ⟨rfl, rfl⟩))
  · exact .onward (reads s)

theorem execWithdrawWaitExpiry_effect {pins : Pins} (h : execWithdrawWaitExpiry s pins = .next t) :
    BusEffect (.withdrawWaitExpiry pins) s t := by
  refine .of_guarded h fun _ => ?_
  unfold withdrawWaitEnd
  split
  · exact .onward ⟨rfl, .inl rfl, .inl rfl, .inl rfl, rfl, rfl, rfl, rfl, .stands rfl rfl rfl, id,
      flagRaised_of_stands ⟨rfl, rfl⟩⟩
  · exact softResetNow_effect ..

/-- What every command does to the Announcer and the Bus Interface. -/
theorem exec_effect (h : exec c s = .next t) : BusEffect c s t := by
  cases c with
  | powerReset => obtain rfl := Host.Outcome.next.inj h; exact cleared_effect ..
  | pinReset => exact execPinReset_effect h
  | resetRelease => exact execResetRelease_effect h
  | msPoint => exact execMsPoint_effect h
  | gateCompletion =>
    refine .of_guarded h fun may => ?_
    simp only [Bool.and_eq_true] at may
    exact .of_body (.gate may.1 may.2 rfl)
  | holdOffExpiry =>
    refine .of_guarded h fun guard => ?_
    simp only [Bool.and_eq_true, decide_eq_true_eq] at guard
    exact .of_body (.holdOff guard.1.1 guard.1.2)
  | wtrExpiry =>
    refine .of_guarded h fun guard => ?_
    simp only [Bool.and_eq_true, decide_eq_true_eq] at guard
    exact .of_body (.wtr guard.1.1 guard.1.2 guard.2)
  | settleExpiry =>
    refine .of_guarded h fun guard => ?_
    simp only [Bool.and_eq_true, decide_eq_true_eq] at guard
    exact .onward (settleEnd_onward guard.1.2)
  | valueExpiry =>
    refine .of_guarded h fun guard => ?_
    simp only [Bool.and_eq_true] at guard
    exact .of_body (.value guard.1 guard.2)
  | stepAgeReached =>
    refine .of_guarded h fun guard => ?_
    simp only [Bool.and_eq_true] at guard
    exact .of_body (.age guard.1.1 guard.1.2 guard.2)
  | warmupEnd =>
    refine .of_guarded h fun guard => ?_
    simp only [Bool.and_eq_true] at guard
    exact .of_body (.warmup guard.1 guard.2)
  | announceReceived | queryReceived | withdrawReceived =>
    obtain rfl := Host.Outcome.next.inj h
    exact .onward (receive_onward ..)
  | badFrame => exact execBadFrame_effect h
  | frameAbandoned =>
    obtain rfl := Host.Outcome.next.inj h
    exact .onward (dropFrame_onward ..)
  | entryStale => exact execEntryStale_effect h
  | entryRemoval => exact execEntryRemoval_effect h
  | rateWindowEnd => exact .of_guarded h fun _ => .onward (withWindow_onward ..)
  | transmissionStart => exact execTransmissionStart_effect h
  | restEnd => exact .of_guarded h fun _ => .onward (.of_bus rfl rfl rfl (.inl rfl) (.inl rfl) rfl rfl rfl id)
  | announceCompletion => exact execAnnounceCompletion_effect h
  | queryCompletion => exact execQueryCompletion_effect h
  | withdrawCompletion pins => exact .of_guarded h fun _ => softResetNow_effect ..
  | clash => exact execClash_effect h
  | periodicTimerExpiry =>
    exact .of_guarded h fun _ => .onward (syncWant_onward (.inl rfl) rfl rfl rfl rfl)
  | spacingExpiry =>
    refine .of_guarded h fun guard => ?_
    simp only [Bool.and_eq_true, ranOut_iff] at guard
    exact .spaced guard.1 guard.2 rfl
  | withdrawWaitExpiry => exact execWithdrawWaitExpiry_effect h
  | eepromReadDone => exact execEepromReadDone_effect h
  | eepromAttemptFailed => exact execEepromAttemptFailed_effect h
  | eepromRetry => exact execEepromRetry_effect h
  | read => exact execRead_effect h
  | loadImage => exact execLoadImage_effect h
  | start => exact execStart_effect h
  | force => exact execForce_effect h
  | unforce => exact execUnforce_effect h
  | lockout => exact execLockout_effect h
  | release => exact execRelease_effect h
  | popEvent =>
    exact .of_guarded h fun _ => .onward (.of_same rfl rfl rfl rfl fun ⟨_, counts⟩ => ⟨readingLaw_of_none rfl, counts⟩)
  | softReset => exact execSoftReset_effect h
  | unknownCommand => exact .of_guarded h fun _ => .answer ..
  | foreignStartBit => exact execForeignStartBit_effect h
  | malformedFrame => exact execMalformedFrame_effect h

end

end Sys2Proof.Machine

end


section
/-! PROOF. O53: the bus units work exactly while RUNNING and follow the want. O42: the Announcer's two timers. -/

namespace Sys2Proof.Machine

section

variable {s t u : State} {c : Instr}

/-! ### The laws of the bus, by what a command does (R117, R121, R122, R130, R134) -/

/-- The laws stand where no unit goes off, the frame stands and the transmitter moves with the want. -/
theorem busLaw_of_moved (law : BusLaw s) (part : running t = running s)
    (mode' : t.announcer.mode = s.announcer.mode ∨ running s = true ∧ t.announcer.mode ≠ .off)
    (rx' : t.bus.rx = s.bus.rx ∨ running s = true ∧ t.bus.rx ≠ .off)
    (idle' : t.bus.idle = s.bus.idle ∨ running s = true ∧ t.bus.idle ≠ none)
    (frame : t.announcer.frame = s.announcer.frame) (moved : TxMoved s t) : BusLaw t := by
  obtain ⟨mode, tx, rx, idle, sending, stops, defers⟩ := law
  refine ⟨?_, ?_, ?_, ?_, ?_, ?_, ?_⟩
  · rw [part]
    rcases mode' with same | ⟨on, off⟩
    · rwa [same]
    · exact ⟨fun _ => off, fun _ => on⟩
  · rw [part]
    cases moved with
    | stands same => rwa [same]
    | wanted same => rw [same, ne_eq, wantedTx_off]; exact tx
    | silenced on _ silent => simp [silent, on]
  · rw [part]
    rcases rx' with same | ⟨on, off⟩
    · rwa [same]
    · exact ⟨fun _ => off, fun _ => on⟩
  · rw [part]
    rcases idle' with same | ⟨on, off⟩
    · rwa [same]
    · exact ⟨fun _ => off, fun _ => on⟩
  · rw [moved.sending, frame]
    exact sending
  · intro idle'
    cases moved with
    | stands same _ wants => rw [wants]; exact stops (same ▸ idle')
    | wanted same =>
      revert same
      rw [idle']
      cases s.bus.tx <;> simp [wantedTx]
    | silenced _ _ silent => simp [silent] at idle'
  · intro deferring'
    cases moved with
    | stands same _ wants => rw [wants]; exact defers (same ▸ deferring')
    | wanted same =>
      revert same
      rw [deferring']
      cases s.bus.tx <;> simp [wantedTx]
    | silenced _ _ silent => simp [silent] at deferring'

theorem Onward.busLaw (onward : Onward s t) (law : BusLaw s) : BusLaw t :=
  busLaw_of_moved law onward.part onward.mode onward.rx onward.idle onward.frame onward.tx

/-- The laws hold where no frame is sent, the units work and the want has placed the transmitter. -/
theorem busLaw_of_rest (on : running t = true) (mode : t.announcer.mode ≠ .off) (rx : t.bus.rx ≠ .off)
    (idle : t.bus.idle ≠ none) (frame : t.announcer.frame = none)
    (tx : t.bus.tx = wantedTx (wantsFrame t.announcer) .idle ∨ t.bus.tx = .silent) : BusLaw t := by
  refine ⟨by simp [on, mode], ?_, by simp [on, rx], by simp [on, idle], ?_, ?_, ?_⟩
  · rcases tx with tx | tx <;> simp [on, tx, wantedTx_off]
  · rcases tx with tx | tx <;> simp [tx, frame, wantedTx_sending]
  · rcases tx with tx | tx <;> simp [tx, wantedTx_idle]
  · rcases tx with tx | tx <;> simp [tx, wantedTx_idle]

theorem buildFrame_kept (s : State) : (buildFrame s).mode = s.announcer.mode ∧
    (buildFrame s).spacingTimer = s.announcer.spacingTimer := by
  unfold buildFrame
  dsimp only
  split
  · exact ⟨rfl, rfl⟩
  · exact ⟨rfl, rfl⟩
  · split <;> exact ⟨rfl, rfl⟩

/-- An ANNOUNCE is handed with the spacing timer stopped (R134). -/
theorem buildFrame_spaced {content : Content} {restart : Bool} {q : Byte}
    (frame : (buildFrame s).frame = some (.announce content restart q)) : s.announcer.spacingTimer = none := by
  cases mode : s.announcer.mode with
  | off => simp [buildFrame, mode] at frame
  | withdrawing => simp [buildFrame_withdrawing mode] at frame
  | announcing =>
    by_cases due : announceDue s = true
    · exact ((announceDue_iff s).mp due).1
    · rw [buildFrame_queries mode (by simpa using due)] at frame
      unfold queryFrame at frame
      split at frame <;> simp at frame

theorem BusEffect.busLaw (effect : BusEffect c s t) (law : BusLaw s) : BusLaw t := by
  have live (on : running s = true) : s.announcer.mode ≠ .off := law.1.mp on
  cases effect with
  | onward onward => exact onward.busLaw law
  | begins on _ frame result =>
    have mode : (buildFrame s).mode ≠ .off := by rw [(buildFrame_kept s).1]; exact live on
    have on' : running t = true := by rw [result]; exact on
    subst result
    simp [BusLaw, on', mode, frame]
  | declines on deferring nothing result =>
    have mode : (buildFrame s).mode ≠ .off := by rw [(buildFrame_kept s).1]; exact live on
    subst result
    refine busLaw_of_rest on mode (law.2.2.1.mp on) (law.2.2.2.1.mp on) nothing (.inl ?_)
    rw [deferring]
    rfl
  | announced on _ result | queried on _ result =>
    subst result
    exact busLaw_of_rest on (live on) (receiverFreed_works s) (nomatch ·) rfl (.inl rfl)
  | clashed on _ result =>
    subst result
    refine busLaw_of_rest on (live on) (receiverFreed_works s) (nomatch ·) rfl ?_
    show (clashing s).tx = _ ∨ (clashing s).tx = _
    unfold clashing
    dsimp only
    split
    · exact .inr rfl
    · exact .inl rfl
  | spaced on _ result =>
    subst result
    rw [syncWant_eq]
    exact busLaw_of_moved law rfl (.inl rfl) (.inl rfl) (.inl rfl) rfl (.wanted rfl rfl)
  | resets off announcer bus =>
    simp [BusLaw, off, announcer, bus, Announcer.init, Bus.init]
  | starts off on announcer bus =>
    refine busLaw_of_rest on ?_ ?_ ?_ ?_ (.inl ?_) <;> simp [announcer, bus, announcerAtStart, busAtStart, Announcer.init]

/-! ### One LOSC cycle -/

theorem tickAnnouncer_wants (a : Announcer) : wantsFrame (tickAnnouncer a) = wantsFrame a := by
  simp [wantsFrame, announceReady, tickAnnouncer]

theorem tick_busLaw (law : BusLaw s) : BusLaw (tick s) := by
  by_cases held : s.hold.isSome = true
  · rwa [tick_of_hold held]
  have announcer : (tick s).announcer = tickAnnouncer s.announcer := by rw [tick, if_neg held]
  have bus : (tick s).bus = tickBus s := by rw [tick, if_neg held]
  have wants : wantsFrame (tick s).announcer = wantsFrame s.announcer := by rw [announcer, tickAnnouncer_wants]
  refine busLaw_of_moved law (tick_running s) (.inl (by rw [announcer]; rfl)) (.inl (by rw [bus]; rfl)) ?_
    (by rw [announcer]; rfl) (.stands (by rw [bus]; rfl) (by rw [bus]; rfl) wants)
  have counts := law.2.2.2.1
  rw [bus, tickBus]
  dsimp only
  split
  · cases idle : s.bus.idle with
    | none => exact .inl rfl
    | some n => exact .inr ⟨counts.mpr (by simp [idle]), by simp⟩
  · exact .inl rfl

/-! ### The timers that run out (R137, R139) -/

theorem ranOut_of_left {timer : Option Nat} {left : Nat} (runs : timer = none ∨ timer = some (left + 1)) :
    ranOut timer = false := by
  rcases runs with h | h <;> simp [ranOut, h]

/-- The transmitter defers when a frame is now wanted. -/
theorem wantedTx_defers {tx : Transmitter} (idle : tx = .idle) {wants : Bool} (wanted : wants = true) :
    wantedTx wants tx = .deferring := by
  rw [idle, wanted]
  rfl

/-- What keeps any two ANNOUNCE frames 250 ms apart (R139, R140). -/
theorem BusEffect.spacing {left : Nat} (effect : BusEffect c s t) (on : running s = true) (on' : running t = true) :
    (s.announcer.spacingTimer = some left →
      t.announcer.spacingTimer = some left ∨
        c = .announceCompletion ∧ t.announcer.spacingTimer = some (5000000 - s.bus.driven) ∨
        c = .spacingExpiry ∧ left = 0) ∧
    (s.bus.tx = .sending → t.bus.tx = .sending → t.bus.driven = s.bus.driven) ∧
    (s.bus.tx ≠ .sending → t.bus.tx = .sending → t.bus.driven = 0 ∧
      ∀ (content : Content) (restart : Bool) (q : Byte), t.announcer.frame = some (.announce content restart q) →
        s.announcer.spacingTimer = none ∧ t.announcer.spacingTimer = none) := by
  cases effect with
  | onward onward =>
    refine ⟨fun runs => .inl (onward.spacing.trans runs), fun _ _ => onward.driven, fun free sends => ?_⟩
    exact absurd (onward.tx.sending.mp sends) free
  | begins _ deferring _ result =>
    have kept := (buildFrame_kept s).2
    subst result
    refine ⟨fun runs => .inl (kept.trans runs), fun sends => by simp [deferring] at sends, fun _ _ => ⟨rfl, ?_⟩⟩
    intro content restart q frame
    have spaced := buildFrame_spaced frame
    exact ⟨spaced, kept.trans spaced⟩
  | declines _ deferring _ result =>
    have kept := (buildFrame_kept s).2
    subst result
    refine ⟨fun runs => .inl (kept.trans runs), fun sends => by simp [deferring] at sends, fun free sends => ?_⟩
    exact absurd (wantedTx_sending.mp sends) free
  | announced _ sending result =>
    subst result
    refine ⟨fun _ => .inr (.inl ⟨rfl, rfl⟩), fun _ sends => ?_, fun free => absurd sending free⟩
    exact absurd sends (wantedTx_ne_sending _)
  | queried _ sending result =>
    subst result
    exact ⟨fun runs => .inl runs, fun _ sends => absurd sends (wantedTx_ne_sending _), fun free => absurd sending free⟩
  | clashed _ sending result =>
    subst result
    refine ⟨fun runs => .inl runs, fun _ sends => absurd sends ?_, fun free => absurd sending free⟩
    show (clashing s).tx ≠ _
    unfold clashing
    dsimp only
    split
    · exact (nomatch ·)
    · exact wantedTx_ne_sending _
  | spaced _ out result =>
    subst result
    rw [syncWant_eq]
    refine ⟨fun runs => .inr (.inr ⟨rfl, ?_⟩), fun _ _ => rfl, fun free sends => absurd (wantedTx_sending.mp sends) free⟩
    exact Option.some.inj (runs.symm.trans out)
  | resets off => exact absurd on' (by simp [off])
  | starts off => exact absurd on (by simp [off])

end

end Sys2Proof.Machine

open Sys2Proof Sys2Proof.Machine

/-- Settles O53, by what each command and a LOSC cycle do to the Announcer and the Bus Interface. -/
theorem busFollowsThePart : Obligations.BusFollowsThePart := by
  intro s t law h
  rcases step_cases h with rfl | ⟨c, rest, -, -, h⟩
  · exact tick_busLaw law
  · exact (exec_effect h).busLaw law

/-- Settles O42: each expiry by its equation, the spacing by what each command does. -/
theorem announcerTimersExpire : Obligations.AnnouncerTimersExpire := by
  intro left command s on
  refine ⟨fun runs => next_of_not (by simp [ranOut_of_left runs]), fun out => ?_,
    fun runs => next_of_not (by simp [ranOut_of_left runs]), fun out => ?_, ?_⟩
  · refine ⟨_, congrArg Host.Outcome.next (if_pos (by simp [on, ranOut, out])), ?_⟩
    rw [syncWant_eq]
    refine ⟨rfl, rfl, fun idle mode spacing => wantedTx_defers idle ?_, ⟨⟨rfl, rfl, rfl, rfl, rfl⟩, rfl, rfl, rfl, rfl⟩,
      rfl, rfl, rfl⟩
    simp [wantsFrame, mode, announceReady, spacing]
  · refine ⟨_, congrArg Host.Outcome.next (if_pos (by simp [on, ranOut, out])), ?_⟩
    rw [syncWant_eq]
    refine ⟨rfl, rfl, fun idle mode flags => wantedTx_defers idle ?_, ⟨⟨rfl, rfl, rfl, rfl, rfl⟩, rfl, rfl, rfl, rfl⟩,
      rfl, rfl, rfl⟩
    rcases flags with h | h | h <;> simp [wantsFrame, mode, announceReady, h]
  · obtain ⟨t, h⟩ := exec_answered command s
    exact ⟨t, h, (exec_effect h).spacing on⟩

end


section
/-! PROOF. O24: what the log holds changes nothing of what a command does beside it, and a command appends the same
records to every log (R182). -/

namespace Sys2Proof.Machine

/-- At `s`, the operation `f` does not read the log and appends the same records, `n` at most, to whatever it holds. -/
def BlindAt (n : Nat) (f : State → State) (s : State) : Prop :=
  ∃ es : List LogEntry, es.length ≤ n ∧ ∀ l : EventLog, f (s.withLog l) = (f s).withLog (l.appendAll es)

/-- The operation does not read the log. -/
def Blind (n : Nat) (f : State → State) : Prop := ∀ s : State, BlindAt n f s

section

variable {s t u b : State} {f g : State → State} {n m : Nat} {i : Inp} {l : EventLog}

/-! ### How blindness composes -/

theorem BlindAt.weaken (le : n ≤ m) (blind : BlindAt n f s) : BlindAt m f s := by
  obtain ⟨es, few, eq⟩ := blind
  exact ⟨es, few.trans le, eq⟩

theorem Blind.weaken (le : n ≤ m) (blind : Blind n f) : Blind m f := fun s => (blind s).weaken le

/-- An operation that appends nothing. -/
theorem blind_of_still (still : ∀ (s : State) (l : EventLog), f (s.withLog l) = (f s).withLog l) : Blind 0 f :=
  fun s => ⟨[], Nat.le_refl 0, fun l => still s l⟩

theorem blind_id : Blind 0 id := blind_of_still fun _ _ => rfl

/-- One operation after another, with an operand read from the state before both. -/
theorem Blind.after {α : Type} {h : α → State → State} {a : State → α} (first : Blind n g)
    (second : ∀ x : α, Blind m (h x)) (operand : ∀ (s : State) (l : EventLog), a (s.withLog l) = a s) :
    Blind (n + m) (fun s => h (a s) (g s)) := by
  intro s
  obtain ⟨es, few, eq⟩ := first s
  obtain ⟨es', few', eq'⟩ := second (a s) (g s)
  refine ⟨es ++ es', by rw [List.length_append]; omega, fun l => ?_⟩
  dsimp only
  rw [operand, eq, eq', EventLog.appendAll_append]

theorem Blind.comp (first : Blind n g) (second : Blind m f) : Blind (n + m) (fun s => f (g s)) :=
  first.after (fun _ : Unit => second) (a := fun _ => ()) (fun _ _ => rfl)

/-- An operation under a condition that does not read the log. -/
theorem Blind.ite {p : State → Prop} [∀ s, Decidable (p s)] (yes : Blind n f) (no : Blind n g)
    (same : ∀ (s : State) (l : EventLog), p (s.withLog l) ↔ p s) : Blind n (fun s => if p s then f s else g s) := by
  intro s
  by_cases holds : p s
  · obtain ⟨es, few, eq⟩ := yes s
    refine ⟨es, few, fun l => ?_⟩
    dsimp only
    rw [if_pos holds, if_pos ((same s l).mpr holds), eq]
  · obtain ⟨es, few, eq⟩ := no s
    refine ⟨es, few, fun l => ?_⟩
    dsimp only
    rw [if_neg holds, if_neg (fun h => holds ((same s l).mp h)), eq]

/-- An operation that takes place or not. -/
theorem Blind.guard {p : State → Prop} [∀ s, Decidable (p s)] (yes : Blind n f)
    (same : ∀ (s : State) (l : EventLog), p (s.withLog l) ↔ p s) : Blind n (fun s => if p s then f s else s) :=
  yes.ite (blind_id.weaken (Nat.zero_le n)) same

theorem Blind.foldl {α : Type} {f : α → State → State} (each : ∀ x, Blind n (f x)) (xs : List α) :
    Blind (xs.length * n) (fun s => xs.foldl (fun t x => f x t) s) := by
  induction xs with
  | nil => exact blind_id.weaken (Nat.zero_le _)
  | cons x xs ih =>
    refine ((each x).comp ih).weaken (Nat.le_of_eq ?_)
    rw [List.length_cons, Nat.succ_mul, Nat.add_comm]

theorem BlindAt.congr (here : g s = f s) (there : ∀ l : EventLog, g (s.withLog l) = f (s.withLog l))
    (blind : BlindAt n f s) : BlindAt n g s := by
  obtain ⟨es, few, eq⟩ := blind
  exact ⟨es, few, fun l => by rw [there, eq, here]⟩

/-! ### The operations of the state -/

theorem logEvent_blind (kind : EventKind) (a b : Nat) : Blind 1 (logEvent kind a b) :=
  fun _ => ⟨[(kind, a, b)], Nat.le_refl 1, fun _ => rfl⟩

theorem syncWant_blind : Blind 0 syncWant := blind_of_still fun s l => by rw [syncWant_eq, syncWant_eq]; rfl

theorem raiseEvent_blind (before : State) : Blind 0 (raiseEvent before) :=
  (blind_of_still fun _ _ => rfl).guard fun _ _ => Iff.rfl

theorem computeValue_blind (a : Option Inp) : Blind 0 (computeValue a) := by
  cases a with
  | none => exact blind_id
  | some i => exact (blind_of_still fun _ _ => rfl).guard fun _ _ => Iff.rfl

theorem enterBridging_blind (i : Inp) : Blind 0 (enterBridging i) := by
  refine blind_of_still fun s l => ?_
  obtain ⟨es, none, eq⟩ := computeValue_blind (some i) s
  obtain rfl := List.length_eq_zero_iff.mp (Nat.le_zero.mp none)
  unfold enterBridging
  rw [eq]
  rfl

theorem leaveBridging_blind : Blind 0 leaveBridging :=
  (blind_of_still fun _ _ => rfl).ite (blind_of_still fun _ _ => rfl) fun _ _ => Iff.rfl

theorem followMove_blind (i : Inp) (r r' : InputRec) : Blind 0 (followMove i r r') := by
  refine (enterBridging_blind i).ite (leaveBridging_blind.ite (Blind.guard (blind_of_still fun _ _ => rfl) ?_) ?_) ?_
  all_goals exact fun _ _ => Iff.rfl

theorem logNotice_blind (i : Inp) (r : InputRec) (notice : Notice) : Blind 1 (logNotice i r notice) := by
  cases notice with
  | nothing => exact blind_id.weaken (Nat.zero_le 1)
  | barred => exact logEvent_blind .inputBarred (inputNumber i) r.reasons.bits
  | ready w => exact logEvent_blind .inputReady (inputNumber i) w.code

theorem withRecord_blind (i : Inp) (r : InputRec) : Blind 0 (fun s => s.withRecord i r) := blind_of_still fun _ _ => rfl

theorem applyMove_blind (i : Inp) (move : InputRec × Notice) : Blind 1 (applyMove i move) :=
  ((withRecord_blind i move.1).comp (logNotice_blind i move.1 move.2)).after
    (fun r => followMove_blind i r move.1) (fun _ _ => rfl)

theorem qualify_blind (i : Inp) (x : Reasons) : Blind 1 (qualify i x) :=
  (blind_id.after (fun move => applyMove_blind i move) (fun _ _ => rfl)).weaken (Nat.le_refl 1)

theorem recompute_blind (i : Inp) : Blind 1 (recompute i) := by
  have put : Blind 0 fun s => s.withRecord i (regraded s i) := blind_of_still fun _ _ => rfl
  rw [show recompute i = fun s => qualify i (regradedReasons s i) (s.withRecord i (regraded s i)) from
    funext (recompute_eq i)]
  exact put.after (qualify_blind i) (fun _ _ => rfl)

theorem recomputeBound_blind (a : Nat) : Blind 6 (recomputeBound a) := by
  have each (p : Inp → Bool) (i : Inp) : Blind 1 fun s => if p i = true then recompute i s else s :=
    (recompute_blind i).guard fun _ _ => Iff.rfl
  have all (p : Inp → Bool) : Blind ((List.finRange 6).length * 1) fun s =>
      (List.finRange 6).foldl (fun t i => if p i = true then recompute i t else t) s :=
    Blind.foldl (each p) (List.finRange 6)
  rw [funext (recomputeBound_eq a)]
  exact (blind_id.after (a := fun s => boundTo s a) all (fun _ _ => rfl)).weaken (by simp)

theorem giveUpActive_blind : Blind 0 giveUpActive := by
  refine blind_of_still fun s l => ?_
  show (match s.selector.active with
    | some a => ((s.withLog l).withRecord a s.records[a].giveUp).withActive none
    | none => s.withLog l) = _
  unfold giveUpActive
  cases s.selector.active <;> rfl

theorem takeInput_blind (leaver : Option Inp) (i : Inp) : Blind 0 (takeInput leaver i) := by
  have freed := (computeValue_blind leaver).comp giveUpActive_blind
  have take : Blind 0 fun s : State => (s.withRecord i s.records[i].take).withActive (some i) :=
    blind_of_still fun _ _ => rfl
  have out : Blind 0 fun s : State => s.withFollower (outputFor s i) := blind_of_still fun _ _ => rfl
  exact (freed.comp take).comp out

theorem takeOwn_blind (leaver : Option Inp) (o : Output) : Blind 0 (takeOwn leaver o) := by
  have freed := (computeValue_blind leaver).comp giveUpActive_blind
  have out : Blind 0 fun s : State => s.withFollower { s.follower with
      output := o, settle := none, bridging := none, history := [] } := blind_of_still fun _ _ => rfl
  exact freed.comp out

theorem carryOut_blind (leaver : Option Inp) (d : Source) : Blind 0 (carryOut leaver d) := by
  cases d with
  | input i => exact blind_id.ite (takeInput_blind leaver i) fun _ _ => Iff.rfl
  | holdover => exact blind_id.ite (takeOwn_blind leaver .holdover) fun _ _ => Iff.rfl
  | freeRun => exact blind_id.ite (takeOwn_blind leaver .freeRun) fun _ _ => Iff.rfl

theorem decision_withLog (s : State) (l : EventLog) (barred : Bool) : decision (s.withLog l) barred = decision s barred :=
  rfl

theorem decideAgain_blind (first : Source × Cause) (before : State) : Blind 0 (decideAgain first before) := by
  have again : Blind 0 fun s : State => carryOut s.selector.active (decision s false).1 s :=
    blind_id.after (h := fun x : Option Inp × Source => carryOut x.1 x.2)
      (a := fun s => (s.selector.active, (decision s false).1)) (fun x => carryOut_blind x.1 x.2) (fun _ _ => rfl)
  exact again.guard fun _ _ => Iff.rfl

/-! ### The end of an event -/

theorem Blind.still (blind : Blind 0 f) (s : State) (l : EventLog) : f (s.withLog l) = (f s).withLog l := by
  obtain ⟨es, none, eq⟩ := blind s
  obtain rfl := List.length_eq_zero_iff.mp (Nat.le_zero.mp none)
  exact eq l

theorem evaluate_blind (leaver : Option Inp) : Blind 0 fun s => (evaluate leaver s).1 := by
  refine blind_of_still fun s l => ?_
  show decideAgain (decision s _) s (carryOut leaver (decision s _).1 (s.withLog l)) = _
  rw [Blind.still (carryOut_blind _ _), Blind.still (decideAgain_blind _ _)]
  rfl

theorem clearBarredForce_blind : Blind 1 clearBarredForce := by
  intro s
  cases force : s.selector.force with
  | input f =>
    refine BlindAt.congr (f := fun s => if s.records[f].state = .barred then
      logEvent .forceCleared (inputNumber f) 1 (s.withForce .none) else s) ?_ (fun l => ?_) ?_
    · simp only [clearBarredForce, force]
    · simp only [clearBarredForce, State.withLog_selector, force]
    · have clears : Blind 1 fun s => logEvent .forceCleared (inputNumber f) 1 (s.withForce .none) :=
        (blind_of_still (f := fun s => s.withForce .none) fun _ _ => rfl).comp (logEvent_blind _ _ _)
      exact clears.guard (fun _ _ => Iff.rfl) s
  | none | holdover =>
    refine BlindAt.congr (f := id) ?_ (fun l => ?_) (blind_id.weaken (Nat.zero_le 1) s)
    · simp only [clearBarredForce, force, id]
    · simp only [clearBarredForce, State.withLog_selector, force, id]

theorem logSwitch_blind (before : State) (cause : Cause) : Blind 1 (logSwitch before cause) := by
  have logs : Blind 1 fun s : State =>
      logEvent .switched (16 * (sourceOf before).code + (sourceOf s).code) cause.code s :=
    blind_id.after (h := fun n => logEvent .switched n cause.code) (fun _ => logEvent_blind _ _ _) (fun _ _ => rfl)
  exact (blind_id.weaken (Nat.zero_le 1)).ite logs fun _ _ => Iff.rfl

theorem selectorTurn_blind (before : State) (must expired : Bool) : Blind 1 (selectorTurn before must expired) := by
  have turn : Blind 1 fun s => logSwitch before (if expired = true then .expired else (evaluate before.selector.active s).2)
      (evaluate before.selector.active s).1 :=
    (evaluate_blind _).after (h := logSwitch before) (logSwitch_blind before) (fun _ _ => rfl)
  exact turn.guard fun _ _ => Iff.rfl

theorem settleEvent_blind (before : State) (must expired : Bool) : Blind 2 (settleEvent before must expired) :=
  ((clearBarredForce_blind.comp (selectorTurn_blind before must expired)).comp (raiseEvent_blind before)).comp
    syncWant_blind

theorem settleEvent_before (before : State) (l : EventLog) (must expired : Bool) :
    settleEvent (before.withLog l) must expired = settleEvent before must expired := rfl

/-- An event whose body does not read the log does not read it. -/
theorem Blind.settled {must expired : State → Bool} (body : Blind n g)
    (same : ∀ (s : State) (l : EventLog), must (s.withLog l) = must s ∧ expired (s.withLog l) = expired s) :
    Blind (n + 2) (fun s => settleEvent s (must s) (expired s) (g s)) := by
  intro s
  obtain ⟨es, few, eq⟩ := body s
  obtain ⟨es', few', eq'⟩ := settleEvent_blind s (must s) (expired s) (g s)
  refine ⟨es ++ es', by rw [List.length_append]; omega, fun l => ?_⟩
  obtain ⟨sameMust, sameExpired⟩ := same s l
  dsimp only
  rw [sameMust, sameExpired, settleEvent_before, eq, eq', EventLog.appendAll_append]

/-- An event that evaluates only when something it reads has changed. -/
theorem Blind.event (body : Blind n g) : Blind (n + 2) (fun s => settleEvent s false false (g s)) :=
  body.settled (must := fun _ => false) (expired := fun _ => false) fun _ _ => ⟨rfl, rfl⟩

theorem Blind.answered (blind : Blind n f) (args : Nat) {bytes : State → List Byte}
    (same : ∀ (s : State) (l : EventLog), bytes (s.withLog l) = bytes s) : Blind n (fun s => answer args (bytes s) (f s)) :=
  blind.after (h := answer args) (fun _ => blind_of_still fun _ _ => rfl) same

/-! ### The events of the inputs and of the Output Follower -/

/-- The Qualifier moves input `i` on a reason set that does not come from the log, after other changes. -/
theorem Blind.qualified (blind : Blind n f) (i : Inp) {x : State → Reasons}
    (same : ∀ (s : State) (l : EventLog), x (s.withLog l) = x s) : Blind (n + 1) (fun s => qualify i (x s) (f s)) :=
  blind.after (h := qualify i) (qualify_blind i) same

theorem withMonitor_blind (i : Inp) {m : State → Monitor} (same : ∀ (s : State) (l : EventLog), m (s.withLog l) = m s) :
    Blind 0 (fun s => s.withMonitor i (m s)) :=
  blind_id.after (h := fun m s => s.withMonitor i m) (fun _ => blind_of_still fun _ _ => rfl) same

theorem reportSignal_blind (i : Inp) (before : Bool) (m : Monitor) : Blind 3 (reportSignal i before m) := by
  have arises : Blind 3 fun s => settleEvent s false false
      (qualify i (withSignal s.records[i].reasons true) (s.withMonitor i (abandonGate m))) :=
    ((withMonitor_blind i (m := fun _ => abandonGate m) fun _ _ => rfl).qualified i fun _ _ => rfl).event
  have clears : Blind 3 fun s => settleEvent s false false
      (qualify i (withSignal s.records[i].reasons false) (s.withMonitor i (beginGate m))) :=
    ((withMonitor_blind i (m := fun _ => beginGate m) fun _ _ => rfl).qualified i fun _ _ => rfl).event
  have stays : Blind 3 fun s : State => s.withMonitor i m :=
    (withMonitor_blind i (m := fun _ => m) fun _ _ => rfl).weaken (Nat.zero_le 3)
  exact arises.ite (clears.ite stays fun _ _ => Iff.rfl) fun _ _ => Iff.rfl

theorem msPoint_blind (i : Inp) (high edge : Bool) : Blind 3 (fun s =>
    if s.hold.isSome then s
    else
      if measuring s i then reportSignal i (detect s.monitors[i] high edge).signal
        (judgeSignal (detect s.monitors[i] high edge) (inputCfg s i).losMode) (s.withPins (setLosPin s.pins i high))
      else (s.withPins (setLosPin s.pins i high)).withMonitor i (detect s.monitors[i] high edge)) := by
  have pinned : Blind 0 fun s : State => s.withPins (setLosPin s.pins i high) := blind_of_still fun _ _ => rfl
  have judged : Blind 3 fun s => reportSignal i (detect s.monitors[i] high edge).signal
      (judgeSignal (detect s.monitors[i] high edge) (inputCfg s i).losMode) (s.withPins (setLosPin s.pins i high)) :=
    pinned.after (h := fun x : Bool × Monitor => reportSignal i x.1 x.2)
      (a := fun s => ((detect s.monitors[i] high edge).signal,
        judgeSignal (detect s.monitors[i] high edge) (inputCfg s i).losMode))
      (fun x => reportSignal_blind i x.1 x.2) (fun _ _ => rfl)
  have sampled : Blind 3 fun s : State =>
      (s.withPins (setLosPin s.pins i high)).withMonitor i (detect s.monitors[i] high edge) :=
    (blind_of_still fun _ _ => rfl).weaken (Nat.zero_le 3)
  exact (blind_id.weaken (Nat.zero_le 3)).ite (judged.ite sampled fun _ _ => Iff.rfl) fun _ _ => Iff.rfl

theorem takeOffset_blind (i : Inp) (m : Monitor) : Blind 0 (takeOffset i m) :=
  (blind_of_still fun _ _ => rfl).guard fun _ _ => Iff.rfl

theorem completion_blind (i : Inp) (edges : Nat) : Blind 3 (completion i edges) := by
  have measures : Blind 0 fun s : State => takeOffset i
      (completeGate s i s.monitors[i] (gateCount s.monitors[i].gate edges))
      (s.withMonitor i (completeGate s i s.monitors[i] (gateCount s.monitors[i].gate edges))) :=
    (withMonitor_blind i fun _ _ => rfl).after (h := takeOffset i) (takeOffset_blind i) (fun _ _ => rfl)
  exact (measures.qualified i fun _ _ => rfl).event

theorem holdOffEnd_blind (i : Inp) : Blind 3 (holdOffEnd i) :=
  (blind_id.after (h := applyMove i) (applyMove_blind i) fun _ _ => rfl).event

theorem wtrEnd_blind (i : Inp) : Blind 3 (wtrEnd i) :=
  (blind_id.after (h := applyMove i) (applyMove_blind i) fun _ _ => rfl).event

theorem lockInput_blind (i : Inp) : Blind 3 (lockInput i) :=
  (blind_id.weaken (Nat.zero_le 3)).ite (blind_id.qualified i fun _ _ => rfl).event fun _ _ => Iff.rfl

theorem releaseInput_blind (i : Inp) : Blind 3 (releaseInput i) :=
  (blind_id.qualified i fun _ _ => rfl).event.guard fun _ _ => Iff.rfl

theorem setForce_blind (f : Force) : Blind 2 (setForce f) :=
  (blind_id.weaken (Nat.zero_le 2)).ite (blind_of_still (f := fun s => s.withForce f) fun _ _ => rfl).event
    fun _ _ => Iff.rfl

theorem settleEnd_blind : Blind 1 settleEnd := by
  have locked : Blind 0 fun s : State => s.withFollower { s.follower with output := .locked, settle := none } :=
    blind_of_still fun _ _ => rfl
  exact locked.after (h := fun a : Nat × Nat => logEvent .outputLocked a.1 a.2) (a := lockedArgs)
    (fun a => logEvent_blind _ a.1 a.2) (fun _ _ => rfl)

theorem expireValue_blind : Blind 1 expireValue := by
  have cleared : Blind 0 fun s : State => s.withFollower { s.follower with
      value := HoldValue.invalid
      output := if s.follower.output = .holdover then .freeRun else s.follower.output } := blind_of_still fun _ _ => rfl
  exact cleared.after (h := fun a : Nat × Nat => logEvent .holdoverExpired a.1 a.2)
    (a := fun s => (s.follower.value.base, s.follower.output.code)) (fun a => logEvent_blind _ a.1 a.2) (fun _ _ => rfl)

theorem clearHoldoverForce_blind : Blind 1 clearHoldoverForce :=
  ((blind_of_still (f := fun s => s.withForce .none) fun _ _ => rfl).comp (logEvent_blind _ _ _)).guard
    fun _ _ => Iff.rfl

theorem valueEnd_blind : Blind 4 valueEnd :=
  (expireValue_blind.comp clearHoldoverForce_blind).settled fun _ _ => ⟨rfl, rfl⟩

theorem clearWarmup_blind : Blind 1 clearWarmup := by
  have cleared : Blind 0 fun s : State => s.withFollower { s.follower with
      warm := false, warmCount := max s.follower.warmCount (cfg s).warmup } := blind_of_still fun _ _ => rfl
  exact cleared.after (h := fun a : Nat × Nat => logEvent .warmupDone a.1 a.2)
    (a := fun s => ((cfg s).warmup / 256, (cfg s).warmup % 256)) (fun a => logEvent_blind _ a.1 a.2) (fun _ _ => rfl)

theorem warmupFinish_blind : Blind 3 warmupFinish :=
  clearWarmup_blind.settled (must := fun _ => true) (expired := fun _ => false) fun _ _ => ⟨rfl, rfl⟩

/-! ### Reception and the Peer Table -/

theorem countBad_blind : Blind 0 countBad := blind_of_still fun _ _ => rfl
theorem countUntrusted_blind : Blind 0 countUntrusted := blind_of_still fun _ _ => rfl
theorem countRate_blind : Blind 0 countRate := blind_of_still fun _ _ => rfl
theorem countSequence_blind : Blind 0 countSequence := blind_of_still fun _ _ => rfl
theorem countWindow_blind (k : Slot) : Blind 0 (countWindow k) := blind_of_still fun _ _ => rfl

theorem abandon_blind (cause : AbandonCause) : Blind 0 (abandon cause) := by
  cases cause <;> exact blind_of_still fun _ _ => rfl

theorem dropFrame_blind (cause : AbandonCause) : Blind 0 (dropFrame cause) :=
  ((abandon_blind cause).comp countBad_blind).guard fun _ _ => Iff.rfl

theorem foreignChar_blind (ch : LineChar) : Blind 0 (foreignChar ch) := blind_of_still fun _ _ => rfl

theorem frameHeard_blind (kind : Byte) (f : RxFrame) : Blind 0 (frameHeard kind f) :=
  (countBad_blind.guard (p := fun s => displaces (headBytes kind f ++ [f.check]) s.bus = true) fun _ _ => Iff.rfl).comp
    (f := lineFree .hunt) (blind_of_still fun _ _ => rfl)

theorem setDuplicate_blind (cause arg : Nat) : Blind 1 (setDuplicate cause arg) := by
  have silenced : Blind 0 fun s : State => s.withBus { s.bus with duplicate := true, tx := .silent } :=
    blind_of_still fun _ _ => rfl
  exact (blind_id.weaken (Nat.zero_le 1)).ite (silenced.comp (logEvent_blind _ _ _)) fun _ _ => Iff.rfl

/-- An entry put in the table, recorded by `record`, and handed on. -/
theorem changeEntry_blind (k : Slot) (e : Option PeerEntry) {record : State → State} (recorded : Blind 1 record) :
    Blind 9 (changeEntry k e record) :=
  (((blind_of_still (f := fun s => s.withEntry k e) fun _ _ => rfl).comp recorded).comp (recomputeBound_blind _)).event

theorem acceptAnnounce_blind (k : Slot) (f : RxFrame) : Blind 9 (acceptAnnounce k f) := by
  intro s
  unfold acceptAnnounce
  cases readAnnounce f.source.toNat f.payload with
  | some a => exact changeEntry_blind k _ (blind_id.weaken (Nat.zero_le 1)) s
  | none => exact blind_id.weaken (Nat.zero_le 9) s

theorem acceptQuery_blind : Blind 0 acceptQuery :=
  (blind_of_still (f := fun s => s.withAnnouncer { s.announcer with queryFlag := true }) fun _ _ => rfl).comp syncWant_blind

theorem withdrawnRecord_blind (k : Slot) (e : PeerEntry) : Blind 1 (withdrawnRecord k e) :=
  (blind_id.weaken (Nat.zero_le 1)).ite (logEvent_blind _ _ _) fun _ _ => Iff.rfl

theorem acceptWithdraw_blind (k : Slot) (f : RxFrame) : Blind 9 (acceptWithdraw k f) := by
  intro s
  cases found : s.peers.entries[k] with
  | some e =>
    refine BlindAt.congr (f := changeEntry k (some { e with state := .withdrawn, lastSeq := f.seq, ageCycles := 0 })
      (withdrawnRecord k e)) ?_ (fun l => ?_) (changeEntry_blind k _ (withdrawnRecord_blind k e) s)
    · simp only [acceptWithdraw, found]
      rfl
    · simp only [acceptWithdraw, State.withLog_peers, found]
      rfl
  | none =>
    refine BlindAt.congr (f := id) ?_ (fun l => ?_) (blind_id.weaken (Nat.zero_le 9) s)
    · simp only [acceptWithdraw, found, id]
    · simp only [acceptWithdraw, State.withLog_peers, found, id]

theorem actOn_blind (kind : Byte) (f : RxFrame) (k : Slot) : Blind 9 (actOn kind f k) :=
  (acceptAnnounce_blind k f).ite
    ((acceptQuery_blind.weaken (Nat.zero_le 9)).ite (acceptWithdraw_blind k f) fun _ _ => Iff.rfl) fun _ _ => Iff.rfl

theorem passRate_blind (v : Verdict) (kind : Byte) (f : RxFrame) (k : Slot) : Blind 9 (passRate v kind f k) :=
  ((countWindow_blind k).comp (actOn_blind kind f k)).ite
    (((countWindow_blind k).comp countSequence_blind).weaken (Nat.zero_le 9)) fun _ _ => Iff.rfl

theorem applyVerdict_blind (v : Verdict) (kind : Byte) (f : RxFrame) : Blind 9 (applyVerdict v kind f) := by
  cases v with
  | malformed => exact countBad_blind.weaken (Nat.zero_le 9)
  | ownSource => exact (countUntrusted_blind.comp (setDuplicate_blind 2 kind.toNat)).weaken (by decide)
  | untrusted => exact countUntrusted_blind.weaken (Nat.zero_le 9)
  | rate => exact countRate_blind.weaken (Nat.zero_le 9)
  | sequence | accepted =>
    intro s
    unfold applyVerdict
    cases slotOf f.source.toNat with
    | some k => exact passRate_blind _ kind f k s
    | none => exact blind_id.weaken (Nat.zero_le 9) s

theorem handOver_blind (kind : Byte) (f : RxFrame) : Blind 9 (handOver kind f) := by
  have counted : Blind 0 fun s => (frameHeard kind f s).withBus
      { (frameHeard kind f s).bus with intact := bump (frameHeard kind f s).bus.intact } :=
    (frameHeard_blind kind f).comp (f := fun s => s.withBus { s.bus with intact := bump s.bus.intact })
      (blind_of_still fun _ _ => rfl)
  have judged : Blind 9 fun s => applyVerdict (verdict s kind f) kind f s :=
    blind_id.after (h := fun v => applyVerdict v kind f) (fun v => applyVerdict_blind v kind f) (fun _ _ => rfl)
  exact counted.comp judged

theorem receive_blind (kind : Byte) (f : RxFrame) : Blind 9 (receive kind f) :=
  (handOver_blind kind f).guard fun _ _ => Iff.rfl

theorem queryLost_blind (a : Nat) : Blind 0 (queryLost a) :=
  (blind_of_still (f := fun s => s.withAnnouncer { s.announcer with queries := joinQueries s.announcer.queries a })
    fun _ _ => rfl).guard fun _ _ => Iff.rfl

theorem goStale_blind (k : Slot) (e : PeerEntry) : Blind 9 (goStale k e) := by
  have record : Blind 1 fun t => queryLost (address k) (logEvent .peerLost (address k) (classCode e.cls) t) :=
    (logEvent_blind .peerLost (address k) (classCode e.cls)).comp (queryLost_blind (address k))
  unfold goStale
  exact changeEntry_blind k _ record

theorem removeEntry_blind (k : Slot) (e : PeerEntry) : Blind 9 (removeEntry k e) := by
  unfold removeEntry
  exact changeEntry_blind k none (logEvent_blind .peerGone (address k) e.state.code)

/-! ### Transmission -/

theorem startTransmission_blind : Blind 0 startTransmission := by
  have built : Blind 0 fun s : State => s.withAnnouncer (buildFrame s) := blind_of_still fun _ _ => rfl
  have sends : Blind 0 fun s : State => s.withBus { s.bus with
      tx := .sending, rx := .hunt, idle := some 0, driven := 0, rest := false } := blind_of_still fun _ _ => rfl
  have waits : Blind 0 fun s : State => syncWant (s.withBus { s.bus with rest := false }) :=
    (blind_of_still (f := fun s : State => s.withBus { s.bus with rest := false }) fun _ _ => rfl).comp syncWant_blind
  exact built.comp (sends.ite waits (p := fun s => s.announcer.frame.isSome = true) fun _ _ => Iff.rfl)

theorem busCompletion_blind : Blind 0 busCompletion :=
  (blind_of_still (f := fun s => s.withBus { s.bus with
    tx := .idle, rx := receiverFreed s, idle := some 0, rest := true, clashRun := 0, sent := bump s.bus.sent })
    fun _ _ => rfl).comp syncWant_blind

theorem announceDone_blind (content : Content) : Blind 0 (announceDone content) := blind_of_still fun _ _ => rfl

theorem queryDone_blind (d : Nat) : Blind 0 (queryDone d) := blind_of_still fun _ _ => rfl

theorem clashEnd_blind : Blind 0 clashEnd :=
  (blind_of_still (f := fun s => (s.withAnnouncer { s.announcer with frame := none }).withBus { s.bus with
    tx := .idle, rx := receiverFreed s, idle := some 0, rest := false, clashRun := s.bus.clashRun + 1,
    clashes := bump s.bus.clashes }) fun _ _ => rfl).comp syncWant_blind

theorem clashDuplicate_blind : Blind 1 clashDuplicate := (setDuplicate_blind 1 8).guard fun _ _ => Iff.rfl

theorem beginWithdraw_blind : Blind 0 beginWithdraw :=
  (blind_of_still (f := fun s => s.withAnnouncer { s.announcer with
    mode := .withdrawing, withdrawWait := some withdrawTime, waitOver := false }) fun _ _ => rfl).comp syncWant_blind

/-! ### START -/

theorem startInput_blind (i : Inp) : Blind 1 (startInput i) :=
  (blind_id.qualified i fun _ _ => rfl).guard fun _ _ => Iff.rfl

theorem startInputs_blind : Blind 6 startInputs := by
  have all : Blind ((List.finRange 6).length * 1) fun s => (List.finRange 6).foldl (fun t i => startInput i t) s :=
    Blind.foldl startInput_blind (List.finRange 6)
  rw [show startInputs = fun s => (List.finRange 6).foldl (fun t i => startInput i t) s from rfl]
  exact all.weaken (by simp)

theorem warmupAtStart_blind : Blind 1 warmupAtStart := clearWarmup_blind.guard fun _ _ => Iff.rfl

theorem logStarted_blind : Blind 1 logStarted :=
  blind_id.after (h := fun a : Nat × Nat => logEvent .started a.1 a.2)
    (a := fun s => (s.loader.viaPort.toNat, s.loader.clampCount)) (fun a => logEvent_blind _ a.1 a.2) (fun _ _ => rfl)

theorem startPart_blind (held : Option Nat) : Blind 8 (startPart held) :=
  (((((blind_of_still (f := startUnits held) fun _ _ => rfl).comp logStarted_blind).comp startInputs_blind).comp
    warmupAtStart_blind).comp (evaluate_blind none)).comp syncWant_blind

theorem holdImage_blind (viaPort : Bool) (image : Image) (clamped : Nat) : Blind 0 (holdImage viaPort image clamped) :=
  blind_of_still fun _ _ => rfl

theorem imageRead_blind (image : List Byte) (held : Option Nat) : Blind 8 (imageRead image held) := by
  intro s
  cases read : validateImage s.loader.ownAddress image with
  | error cause =>
    refine BlindAt.congr (f := cfgFaultWith cause) ?_ (fun l => ?_)
      ((blind_of_still fun _ _ => rfl : Blind 0 (cfgFaultWith cause)).weaken (Nat.zero_le 8) s)
    · simp only [imageRead, read]
    · simp only [imageRead, State.withLog_loader, read]
  | ok image =>
    refine BlindAt.congr (f := fun s => startPart held (holdImage false image.1 image.2 s)) ?_ (fun l => ?_)
      ((holdImage_blind false image.1 image.2).comp (startPart_blind held) s)
    · simp only [imageRead, read]
    · simp only [imageRead, State.withLog_loader, read]

/-! ### Every command -/

/-- The state that a command leads to. -/
def result (c : Instr) (s : State) : State :=
  match exec c s with
  | .next t => t
  | _ => s

theorem exec_result (c : Instr) (s : State) : exec c s = .next (result c s) := by
  cases c <;> rfl

/-- At `s` the command does not read the log, or it resets the part, which empties it (R182). -/
def LogBlind (c : Instr) (s : State) : Prop :=
  BlindAt 9 (result c) s ∨ (result c s).log = EventLog.init ∧ running (result c s) = false

theorem logBlind_of_blind {c : Instr} (blind : Blind n (result c)) (le : n ≤ 9) (s : State) : LogBlind c s :=
  .inl (blind.weaken le s)

theorem logBlind_of_reset {c : Instr} {kind : ResetKind} {pins : Pins} {port : Port} {pending : List Instr}
    (reset : result c s = released kind pins port pending) : LogBlind c s :=
  .inr ⟨by rw [reset]; rfl, by rw [reset]; exact released_not_running ..⟩

theorem logBlind_of_cleared {c : Instr} {kind : ResetKind} {pins : Pins} {pending : List Instr}
    (reset : result c s = State.cleared kind pins pending) : LogBlind c s :=
  .inr ⟨by rw [reset]; rfl, by rw [reset]; simp [running, State.cleared]⟩

/-- A command that does nothing at `s`, whatever the log. -/
theorem logBlind_of_idle {c : Instr} (idle : ∀ l : EventLog, result c (s.withLog l) = s.withLog l)
    (idle' : result c s = s) : LogBlind c s := .inl ⟨[], Nat.zero_le 9, fun l => by rw [idle, idle']; rfl⟩

theorem pinReset_blind (s : State) : LogBlind .pinReset s := by
  by_cases held : s.hold.isSome = true
  · exact logBlind_of_idle (fun l => if_pos held) (if_pos held)
  · exact logBlind_of_cleared (kind := .pin) (pins := s.pins) (pending := s.pending) (if_neg held)

theorem resetRelease_blind (a : BitVec 5) (m : Bool) (los : BitVec 6) (s : State) : LogBlind (.resetRelease a m los) s := by
  cases held : s.hold with
  | none =>
    refine logBlind_of_idle (fun l => ?_) ?_
    · simp only [result, exec, execResetRelease, State.withLog_hold, held]
    · simp only [result, exec, execResetRelease, held]
  | some kind =>
    refine logBlind_of_reset (kind := kind) (pins := ⟨a, m, los⟩) (port := Port.init) (pending := s.pending) ?_
    simp only [result, exec, execResetRelease, held]

theorem entryStale_blind (k : Slot) (s : State) : LogBlind (.entryStale k) s := by
  cases found : s.peers.entries[k] with
  | none =>
    refine logBlind_of_idle (fun l => ?_) ?_
    · simp only [result, exec, execEntryStale, State.withLog_peers, found]
    · simp only [result, exec, execEntryStale, found]
  | some e =>
    refine .inl (BlindAt.congr (f := fun s =>
      if running s && decide (e.state = .fresh) && e.due then goStale k e s else s) ?_ (fun l => ?_)
      ((goStale_blind k e).guard (fun _ _ => Iff.rfl) s))
    · simp only [result, exec, execEntryStale, found]
    · simp only [result, exec, execEntryStale, State.withLog_peers, found]

theorem entryRemoval_blind (k : Slot) (s : State) : LogBlind (.entryRemoval k) s := by
  cases found : s.peers.entries[k] with
  | none =>
    refine logBlind_of_idle (fun l => ?_) ?_
    · simp only [result, exec, execEntryRemoval, State.withLog_peers, found]
    · simp only [result, exec, execEntryRemoval, found]
  | some e =>
    refine .inl (BlindAt.congr (f := fun s =>
      if running s && decide (e.state ≠ .fresh) && e.due then removeEntry k e s else s) ?_ (fun l => ?_)
      ((removeEntry_blind k e).guard (fun _ _ => Iff.rfl) s))
    · simp only [result, exec, execEntryRemoval, found]
    · simp only [result, exec, execEntryRemoval, State.withLog_peers, found]

theorem announceCompletion_blind (s : State) : LogBlind .announceCompletion s := by
  have done (content : Content) : Blind 0 fun s =>
      if running s && decide (s.bus.tx = .sending) then busCompletion (announceDone content s) else s :=
    ((announceDone_blind content).comp busCompletion_blind).guard fun _ _ => Iff.rfl
  cases frame : s.announcer.frame with
  | some f =>
    cases f with
    | announce content restart q =>
      refine .inl (BlindAt.congr ?_ (fun l => ?_) ((done content).weaken (Nat.zero_le 9) s))
      · simp only [result, exec, execAnnounceCompletion, frame]
      · simp only [result, exec, execAnnounceCompletion, State.withLog_announcer, frame]
    | query d q | withdraw q =>
      refine logBlind_of_idle (fun l => ?_) ?_
      · simp only [result, exec, execAnnounceCompletion, State.withLog_announcer, frame]
      · simp only [result, exec, execAnnounceCompletion, frame]
  | none =>
    refine logBlind_of_idle (fun l => ?_) ?_
    · simp only [result, exec, execAnnounceCompletion, State.withLog_announcer, frame]
    · simp only [result, exec, execAnnounceCompletion, frame]

theorem queryCompletion_blind (s : State) : LogBlind .queryCompletion s := by
  have done (d : Nat) : Blind 0 fun s =>
      if running s && decide (s.bus.tx = .sending) then busCompletion (queryDone d s) else s :=
    ((queryDone_blind d).comp busCompletion_blind).guard fun _ _ => Iff.rfl
  cases frame : s.announcer.frame with
  | some f =>
    cases f with
    | query d q =>
      refine .inl (BlindAt.congr ?_ (fun l => ?_) ((done d).weaken (Nat.zero_le 9) s))
      · simp only [result, exec, execQueryCompletion, frame]
      · simp only [result, exec, execQueryCompletion, State.withLog_announcer, frame]
    | announce content restart q | withdraw q =>
      refine logBlind_of_idle (fun l => ?_) ?_
      · simp only [result, exec, execQueryCompletion, State.withLog_announcer, frame]
      · simp only [result, exec, execQueryCompletion, frame]
  | none =>
    refine logBlind_of_idle (fun l => ?_) ?_
    · simp only [result, exec, execQueryCompletion, State.withLog_announcer, frame]
    · simp only [result, exec, execQueryCompletion, frame]

theorem withdrawCompletion_blind (pins : Pins) (s : State) : LogBlind (.withdrawCompletion pins) s := by
  by_cases sends : (running s && sendingWithdraw s) = true
  · exact logBlind_of_reset (if_pos sends)
  · exact logBlind_of_idle (fun l => if_neg sends) (if_neg sends)

theorem clash_blind (pins : Pins) (s : State) : LogBlind (.clash pins) s := by
  by_cases sends : (running s && decide (s.bus.tx = .sending)) = true
  · have here : result (.clash pins) s = clashNow pins s := if_pos sends
    have there (l : EventLog) : result (.clash pins) (s.withLog l) = clashNow pins (s.withLog l) := if_pos sends
    obtain ⟨es, few, eq⟩ := clashEnd_blind.comp clashDuplicate_blind s
    by_cases resets : resetAfterClash s (clashDuplicate (clashEnd s)) = true
    · exact logBlind_of_reset (here.trans (if_pos resets))
    · refine .inl ⟨es, few.trans (by decide), fun l => ?_⟩
      have stays : clashNow pins s = clashDuplicate (clashEnd s) := if_neg resets
      rw [there, here, stays, ← eq l]
      refine if_neg ?_
      have same := eq l
      dsimp only at same
      rw [same]
      exact resets
  · exact logBlind_of_idle (fun l => if_neg sends) (if_neg sends)

theorem withdrawWaitExpiry_blind (pins : Pins) (s : State) : LogBlind (.withdrawWaitExpiry pins) s := by
  by_cases ends : (running s && decide (s.announcer.mode = .withdrawing) && s.announcer.withdrawWait.isSome) = true
  · have here : result (.withdrawWaitExpiry pins) s = withdrawWaitEnd pins s := if_pos ends
    have there (l : EventLog) : result (.withdrawWaitExpiry pins) (s.withLog l) = withdrawWaitEnd pins (s.withLog l) :=
      if_pos ends
    by_cases sends : sendingWithdraw s = true
    · refine .inl ⟨[], Nat.zero_le 9, fun l => ?_⟩
      have waits : withdrawWaitEnd pins s = _ := if_pos sends
      rw [there, here, waits]
      exact if_pos sends
    · exact logBlind_of_reset (here.trans (if_neg sends))
  · exact logBlind_of_idle (fun l => if_neg ends) (if_neg ends)

theorem answer_blind (args : Nat) (bytes : List Byte) : Blind 0 (answer args bytes) := blind_of_still fun _ _ => rfl

theorem softReset_blind (pins : Pins) (s : State) : LogBlind (.softReset pins) s := by
  by_cases open' : portOpen s = true
  · have here : result (.softReset pins) s = softResetTaken pins (answer 0 [resDone] s) := if_pos open'
    have there (l : EventLog) : result (.softReset pins) (s.withLog l) =
        softResetTaken pins (answer 0 [resDone] (s.withLog l)) := if_pos open'
    by_cases pending : (running s && decide (s.announcer.mode = .withdrawing)) = true
    · refine .inl ((answer_blind 0 [resDone]).weaken (Nat.zero_le 9) s |>.congr ?_ fun l => ?_)
      · exact here.trans (if_pos pending)
      · exact (there l).trans (if_pos pending)
    · by_cases live : (running s && !s.bus.duplicate) = true
      · refine .inl (((answer_blind 0 [resDone]).comp beginWithdraw_blind).weaken (Nat.zero_le 9) s |>.congr ?_ fun l => ?_)
        · exact here.trans ((if_neg pending).trans (if_pos live))
        · exact (there l).trans ((if_neg pending).trans (if_pos live))
      · exact logBlind_of_reset (here.trans ((if_neg pending).trans (if_neg live)))
  · exact logBlind_of_idle (fun l => if_neg open') (if_neg open')

theorem attemptEnd_blind (n : Nat) : Blind 0 (attemptEnd n) :=
  Blind.ite (p := fun _ => 3 ≤ n) (f := cfgFaultWith .eepromAbsent)
    (g := fun s => s.withLoader { s.loader with eeprom := .waiting n eepromWait })
    (blind_of_still fun _ _ => rfl) (blind_of_still fun _ _ => rfl) fun _ _ => Iff.rfl

theorem eepromAttemptFailed_blind (failure : AttemptFailure) (stop : Bool) (s : State) :
    LogBlind (.eepromAttemptFailed failure stop) s := by
  have ends (n : Nat) : Blind 0 fun s => attemptEnd n (transferred (failedTransfer failure stop) s) :=
    (blind_of_still (f := transferred (failedTransfer failure stop)) fun _ _ => rfl).comp (attemptEnd_blind n)
  have same (l : EventLog) : attemptLasting (failureTime failure) (s.withLog l) = attemptLasting (failureTime failure) s :=
    rfl
  cases lasting : attemptLasting (failureTime failure) s with
  | some n =>
    refine .inl (BlindAt.congr ?_ (fun l => ?_) ((ends n).weaken (Nat.zero_le 9) s))
    · simp only [result, exec, execEepromAttemptFailed, lasting]
    · simp only [result, exec, execEepromAttemptFailed, same, lasting]
  | none =>
    refine logBlind_of_idle (fun l => ?_) ?_
    · simp only [result, exec, execEepromAttemptFailed, same, lasting]
    · simp only [result, exec, execEepromAttemptFailed, lasting]

theorem eepromRetry_blind (s : State) : LogBlind .eepromRetry s := by
  refine logBlind_of_blind (n := 0) (Blind.guard (fun s => ?_) fun _ _ => Iff.rfl) (by decide) s
  cases phase : s.loader.eeprom with
  | waiting n left =>
    refine BlindAt.congr (f := fun s : State =>
      s.withLoader { s.loader with eeprom := .attempt (n + 1) 0, transfer := [] }) ?_ (fun l => ?_)
      (blind_of_still (fun _ _ => rfl) s)
    · simp only [phase]
    · simp only [State.withLog_loader, phase]
  | idle | attempt n elapsed =>
    refine BlindAt.congr (f := id) ?_ (fun l => ?_) (blind_id s)
    · simp only [phase, id]
    · simp only [State.withLog_loader, phase, id]

theorem loadResult_withLog (image : List Byte) (s : State) (l : EventLog) :
    loadResult image (s.withLog l) = ((loadResult image s).1, (loadResult image s).2.withLog l) := by
  unfold loadResult
  by_cases takes : takesImage s.loader = true
  · rw [if_pos takes, if_pos (by exact takes), State.withLog_loader]
    cases validateImage s.loader.ownAddress (image.take 110) <;> rfl
  · rw [if_neg takes, if_neg (by exact takes)]

theorem loadImage_blind (image : List Byte) (s : State) : LogBlind (.loadImage image) s := by
  have loads : Blind 0 fun s => answer 110 [(loadResult image s).1] (loadResult image s).2 :=
    Blind.answered (blind_of_still fun s l => by rw [loadResult_withLog]) 110 fun s l => by rw [loadResult_withLog]
  have short : Blind 0 fun s => if image.length < 110 then answer image.length [] s
      else answer 110 [(loadResult image s).1] (loadResult image s).2 :=
    (answer_blind image.length []).ite loads (p := fun _ => image.length < 110) fun _ _ => Iff.rfl
  exact logBlind_of_blind (short.guard fun _ _ => Iff.rfl) (by decide) s

theorem result_blind {c : Instr} (notPop : c ≠ .popEvent) (notRead : ∀ place n, c ≠ .read place n) (s : State) :
    LogBlind c s := by
  cases c with
  | powerReset => exact logBlind_of_cleared (kind := .power) (pins := s.pins) (pending := s.pending) rfl
  | pinReset => exact pinReset_blind s
  | resetRelease a m l => exact resetRelease_blind a m l s
  | msPoint i high edge => exact logBlind_of_blind (msPoint_blind i high edge) (by decide) s
  | gateCompletion i edges => exact logBlind_of_blind ((completion_blind i edges).guard fun _ _ => Iff.rfl) (by decide) s
  | holdOffExpiry i => exact logBlind_of_blind ((holdOffEnd_blind i).guard fun _ _ => Iff.rfl) (by decide) s
  | wtrExpiry i => exact logBlind_of_blind ((wtrEnd_blind i).guard fun _ _ => Iff.rfl) (by decide) s
  | settleExpiry => exact logBlind_of_blind (settleEnd_blind.guard fun _ _ => Iff.rfl) (by decide) s
  | valueExpiry => exact logBlind_of_blind (valueEnd_blind.guard fun _ _ => Iff.rfl) (by decide) s
  | stepAgeReached =>
    have aged : Blind 2 fun s => stepAge (s.follower.value.ageCycles + 1) s :=
      blind_id.after (h := stepAge) (fun age => (blind_of_still fun _ _ => rfl).event) (fun _ _ => rfl)
    exact logBlind_of_blind (aged.guard fun _ _ => Iff.rfl) (by decide) s
  | warmupEnd => exact logBlind_of_blind (warmupFinish_blind.guard fun _ _ => Iff.rfl) (by decide) s
  | announceReceived f => exact logBlind_of_blind (receive_blind kindAnnounce f) (by decide) s
  | queryReceived f => exact logBlind_of_blind (receive_blind kindQuery f) (by decide) s
  | withdrawReceived f => exact logBlind_of_blind (receive_blind kindWithdraw f) (by decide) s
  | badFrame kind f =>
    exact logBlind_of_blind (((frameHeard_blind kind f).comp countBad_blind).guard fun _ _ => Iff.rfl) (by decide) s
  | frameAbandoned cause => exact logBlind_of_blind (dropFrame_blind cause) (by decide) s
  | entryStale k => exact entryStale_blind k s
  | entryRemoval k => exact entryRemoval_blind k s
  | rateWindowEnd k =>
    exact logBlind_of_blind ((blind_of_still (f := fun s => s.withWindow k none) fun _ _ => rfl).guard
      fun _ _ => Iff.rfl) (by decide) s
  | transmissionStart => exact logBlind_of_blind (startTransmission_blind.guard fun _ _ => Iff.rfl) (by decide) s
  | restEnd =>
    exact logBlind_of_blind ((blind_of_still (f := fun s => s.withBus { s.bus with rest := false }) fun _ _ => rfl).guard
      fun _ _ => Iff.rfl) (by decide) s
  | announceCompletion => exact announceCompletion_blind s
  | queryCompletion => exact queryCompletion_blind s
  | withdrawCompletion pins => exact withdrawCompletion_blind pins s
  | clash pins => exact clash_blind pins s
  | periodicTimerExpiry =>
    exact logBlind_of_blind (((blind_of_still (f := fun s => s.withAnnouncer { s.announcer with
      periodicTimer := none, periodicFlag := true }) fun _ _ => rfl).comp syncWant_blind).guard
      fun _ _ => Iff.rfl) (by decide) s
  | spacingExpiry =>
    exact logBlind_of_blind (((blind_of_still (f := fun s => s.withAnnouncer { s.announcer with
      spacingTimer := none }) fun _ _ => rfl).comp syncWant_blind).guard fun _ _ => Iff.rfl) (by decide) s
  | withdrawWaitExpiry pins => exact withdrawWaitExpiry_blind pins s
  | eepromReadDone image held =>
    have reads : Blind 8 fun s => imageRead image held (transferred (wholeRead image) s) :=
      (blind_of_still (f := transferred (wholeRead image)) fun _ _ => rfl).comp (imageRead_blind image held)
    exact logBlind_of_blind (reads.guard fun _ _ => Iff.rfl) (by decide) s
  | eepromAttemptFailed failure stop => exact eepromAttemptFailed_blind failure stop s
  | eepromRetry => exact eepromRetry_blind s
  | read place n => exact absurd rfl (notRead place n)
  | loadImage image => exact loadImage_blind image s
  | start held =>
    have starts : Blind 8 fun s => if startable s = true then startPart held s else s :=
      (startPart_blind held).guard fun _ _ => Iff.rfl
    exact logBlind_of_blind ((starts.answered 0 fun _ _ => rfl).guard fun _ _ => Iff.rfl) (by decide) s
  | force n =>
    have sets : Blind 2 fun s => match forceTarget n with
        | some f => if running s && forceable s f then setForce f s else s
        | none => s := by
      cases forceTarget n with
      | some f => exact (setForce_blind f).guard fun _ _ => Iff.rfl
      | none => exact blind_id.weaken (Nat.zero_le 2)
    exact logBlind_of_blind ((sets.answered 1 fun _ _ => rfl).guard fun _ _ => Iff.rfl) (by decide) s
  | unforce =>
    have sets : Blind 2 fun s => if running s = true then setForce .none s else s :=
      (setForce_blind .none).guard fun _ _ => Iff.rfl
    exact logBlind_of_blind ((sets.answered 0 fun _ _ => rfl).guard fun _ _ => Iff.rfl) (by decide) s
  | lockout n =>
    have locks : Blind 3 fun s => match inputOf n with
        | some i => if measuring s i then lockInput i s else s
        | none => s := by
      cases inputOf n with
      | some i => exact (lockInput_blind i).guard fun _ _ => Iff.rfl
      | none => exact blind_id.weaken (Nat.zero_le 3)
    exact logBlind_of_blind ((locks.answered 1 fun _ _ => rfl).guard fun _ _ => Iff.rfl) (by decide) s
  | release n =>
    have frees : Blind 3 fun s => match inputOf n with
        | some i => if measuring s i then releaseInput i s else s
        | none => s := by
      cases inputOf n with
      | some i => exact (releaseInput_blind i).guard fun _ _ => Iff.rfl
      | none => exact blind_id.weaken (Nat.zero_le 3)
    exact logBlind_of_blind ((frees.answered 1 fun _ _ => rfl).guard fun _ _ => Iff.rfl) (by decide) s
  | popEvent => exact absurd rfl notPop
  | softReset pins => exact softReset_blind pins s
  | unknownCommand code => exact logBlind_of_blind ((answer_blind 0 [resInvalid]).guard fun _ _ => Iff.rfl) (by decide) s
  | foreignStartBit ch =>
    exact logBlind_of_blind (((dropFrame_blind .idleGap).comp (foreignChar_blind ch)).guard fun _ _ => Iff.rfl)
      (by decide) s
  | malformedFrame kind f =>
    exact logBlind_of_blind (((blind_id.weaken (Nat.zero_le 9)).ite (receive_blind kind f)) fun _ _ => Iff.rfl)
      (by decide) s

/-! ### What fits of what is appended (R182) -/

theorem EventLog.appendAll_phase (l : EventLog) (es : List LogEntry) : (l.appendAll es).phase = l.phase := by
  induction es generalizing l with
  | nil => rfl
  | cons e es ih =>
    rw [EventLog.appendAll_cons, ih, EventLog.append_eq]
    split <;> rfl

/-- OVERFLOW is set when a record is discarded. -/
theorem EventLog.appendAll_overflow (room : l.records.length ≤ 32) (es : List LogEntry) :
    (l.appendAll es).overflow = (l.overflow || decide (32 < l.records.length + es.length)) := by
  induction es generalizing l with
  | nil => simp [show ¬32 < l.records.length by omega]
  | cons e es ih =>
    rw [EventLog.appendAll_cons, EventLog.append_eq]
    split
    · rename_i fits
      rw [ih (by simpa using fits)]
      simp [Nat.add_assoc, Nat.add_comm 1]
    · rename_i full
      have past : 32 < l.records.length + (es.length + 1) := by omega
      rw [ih (by exact room)]
      simp [past]

theorem EventLog.eq_of_parts {a b : EventLog} (records : a.records = b.records) (overflow : a.overflow = b.overflow)
    (uptime : a.uptime = b.uptime) (phase : a.phase = b.phase) : a = b := by
  cases a
  cases b
  simp_all

/-- What is appended to an empty log, and fits there, is appended to another as far as it fits. -/
theorem EventLog.appendAll_emptied (room : l.records.length ≤ 32) {es : List LogEntry} (few : es.length ≤ 32) :
    l.appendAll es = { ({ l with records := [], overflow := false } : EventLog).appendAll es with
      records := (l.records ++ (({ l with records := [], overflow := false } : EventLog).appendAll es).records).take 32
      overflow := l.overflow || decide (32 < l.records.length +
        (({ l with records := [], overflow := false } : EventLog).appendAll es).records.length) } := by
  have records : (({ l with records := [], overflow := false } : EventLog).appendAll es).records =
      es.map (LogEntry.record l.uptime) := by
    rw [EventLog.appendAll_fits (by simpa using few), List.nil_append]
  refine EventLog.eq_of_parts ?_ ?_ ?_ ?_
  · dsimp only
    rw [EventLog.appendAll_records, records, List.take_append, List.take_of_length_le room, List.map_take]
  · dsimp only
    rw [EventLog.appendAll_overflow room, records, List.length_map]
  · rw [EventLog.appendAll_uptime, EventLog.appendAll_uptime]
  · rw [EventLog.appendAll_phase, EventLog.appendAll_phase]

end

end Sys2Proof.Machine

open Sys2Proof Sys2Proof.Machine

/-- Settles O24: every operation but READ and POP EVENT commutes with another log, whatever the two hold. -/
theorem logTakesWhatFits : Obligations.LogTakesWhatFits := by
  intro c kind a b s
  refine ⟨fun room => if_pos room, fun full => if_neg (by omega), fun room notPop notRead => ?_⟩
  refine ⟨_, exec_result c s, fun on => ⟨_, exec_result c _, ?_⟩⟩
  rcases result_blind notPop notRead s with ⟨es, few, eq⟩ | ⟨-, off⟩
  · have here : result c s = (result c s).withLog (s.log.appendAll es) := eq s.log
    have emptied := eq { s.log with records := [], overflow := false }
    have there : result c { s with log := { s.log with records := [], overflow := false } } = _ := emptied
    rw [there, here, EventLog.appendAll_emptied room (few.trans (by decide))]
    rfl
  · exact absurd on (by simp [off])

end


section
/-! PROOF. O52: the log, the history, the counters and the windows stay within their sizes, and DUPLICATE and SILENT go
together. -/

namespace Sys2Proof.Machine

section

variable {s t u m : State} {c : Instr} {i : Inp} {must expired : Bool}

/-! ### The counters and DUPLICATE (R128, R129, R133) -/

theorem TxMoved.silentLaw (moved : TxMoved s t) (law : SilentLaw s) : SilentLaw t := by
  cases moved with
  | stands tx duplicate => rwa [SilentLaw, tx, duplicate]
  | wanted tx duplicate => rwa [SilentLaw, tx, duplicate, wantedTx_silent]
  | silenced _ _ tx duplicate => exact ⟨fun _ => tx, fun _ => duplicate⟩

theorem not_duplicate_of {tx : Transmitter} (law : SilentLaw s) (other : s.bus.tx = tx) (speaks : tx ≠ .silent) :
    s.bus.duplicate = false := by
  rw [← Bool.not_eq_true]
  exact fun set => speaks (other.symm.trans (law.mp set))

theorem BusEffect.silentLaw (effect : BusEffect c s t) (law : SilentLaw s) : SilentLaw t := by
  cases effect with
  | onward onward => exact onward.tx.silentLaw law
  | begins _ deferring _ result =>
    have quiet := not_duplicate_of law deferring (nomatch ·)
    subst result
    simp [SilentLaw, quiet]
  | declines _ deferring _ result =>
    subst result
    exact TxMoved.silentLaw (s := s) (.wanted rfl rfl) law
  | announced _ sending result | queried _ sending result =>
    have quiet := not_duplicate_of law sending (nomatch ·)
    subst result
    simp [SilentLaw, State.ended, completing, quiet, wantedTx_silent]
  | clashed _ sending result =>
    have quiet := not_duplicate_of law sending (nomatch ·)
    subst result
    by_cases eighth : 7 ≤ s.bus.clashRun <;>
      simp [SilentLaw, State.ended, clashing, quiet, eighth, wantedTx_silent]
  | spaced _ _ result =>
    subst result
    rw [syncWant_eq]
    exact TxMoved.silentLaw (s := s) (.wanted rfl rfl) law
  | resets _ _ bus => simp [SilentLaw, bus, Bus.init]
  | starts _ _ _ bus => simp [SilentLaw, bus, busAtStart, Bus.init, wantedTx_silent]

theorem completing_tallies (a : Announcer) (law : Tallies s) : Tallies (s.ended (completing a s)) := by
  obtain ⟨port, ⟨intact, bad, clashes, -⟩, peers⟩ := law
  exact ⟨port, ⟨intact, bad, clashes, bump_le _⟩, peers⟩

theorem BusEffect.tallies (effect : BusEffect c s t) (law : Tallies s) : Tallies t := by
  cases effect with
  | onward onward => exact onward.tallies law
  | begins _ _ _ result | declines _ _ _ result => subst result; exact law
  | announced _ _ result | queried _ _ result => subst result; exact completing_tallies _ law
  | clashed _ _ result =>
    obtain ⟨port, ⟨intact, bad, -, sent⟩, peers⟩ := law
    subst result
    exact ⟨port, ⟨intact, bad, bump_le _, sent⟩, peers⟩
  | spaced _ _ result => subst result; rw [syncWant_eq]; exact law
  | resets _ _ bus peers port =>
    refine ⟨readingLaw_of_none (by rw [port]), ?_⟩
    rw [bus, peers]
    decide
  | starts _ _ _ bus peers port =>
    refine ⟨port law.1, ?_⟩
    rw [bus, peers]
    exact ⟨⟨Nat.zero_le _, Nat.zero_le _, Nat.zero_le _, Nat.zero_le _⟩, Nat.zero_le _, Nat.zero_le _, Nat.zero_le _⟩

/-! ### The log (R182) -/

/-- The log holds 32 records at most, and its uptime stops at 4,294,967,295. -/
abbrev LogFits (l : EventLog) : Prop := l.records.length ≤ 32 ∧ l.uptime ≤ 4294967295

theorem appendAll_logFits {l : EventLog} (fits : LogFits l) (es : List LogEntry) : LogFits (l.appendAll es) := by
  obtain ⟨length, uptime⟩ := fits
  refine ⟨?_, by rwa [EventLog.appendAll_uptime]⟩
  rw [EventLog.appendAll_records, List.length_append, List.length_map, List.length_take]
  omega

theorem execRead_log {place : ReadFrom} {count : Nat} (h : exec (.read place count) s = .next t) : t.log = s.log := by
  have port (w : State) : (readOn count w).log = w.log := by
    obtain ⟨p, eq⟩ := readOn_withPort count w
    rw [eq]
    rfl
  obtain rfl := Host.Outcome.next.inj h
  split
  · split
    · exact port _
    · exact port s
  · rfl

theorem exec_logFits (h : exec c s = .next t) (fits : LogFits s.log) : LogFits t.log := by
  by_cases pop : c = .popEvent
  · subst pop
    obtain rfl := Host.Outcome.next.inj h
    split
    · obtain ⟨length, uptime⟩ := fits
      refine ⟨?_, uptime⟩
      show s.log.records.tail.length ≤ 32
      rw [List.length_tail]
      omega
    · exact fits
  by_cases read : ∃ place n, c = .read place n
  · obtain ⟨place, n, rfl⟩ := read
    rwa [execRead_log h]
  obtain rfl : result c s = t := Host.Outcome.next.inj ((exec_result c s).symm.trans h)
  rcases result_blind pop (fun place n is => read ⟨place, n, is⟩) s with ⟨es, -, eq⟩ | ⟨init, -⟩
  · have here : result c s = (result c s).withLog (s.log.appendAll es) := eq s.log
    rw [here]
    exact appendAll_logFits fits es
  · rw [init]
    decide

/-! ### The history and the monitors (R18, R20, R24, R26, R101) -/

/-- The window, its counts and the detectors' counts stay within their sizes. -/
abbrev MonitorFits (m : Monitor) : Prop :=
  m.window.length ≤ 8 ∧ (∀ n ∈ m.window, n ≤ 268435455) ∧ m.losCount ≤ 7 ∧ m.activityRun ≤ 7

theorem losSample_fits {m : Monitor} (fits : MonitorFits m) (high : Bool) : MonitorFits (losSample m high) := by
  obtain ⟨length, counts, los, run⟩ := fits
  unfold losSample
  split
  · exact ⟨length, counts, Nat.zero_le 7, run⟩
  · split
    · exact ⟨length, counts, Nat.zero_le 7, run⟩
    · exact ⟨length, counts, by dsimp only; omega, run⟩

theorem activitySample_fits {m : Monitor} (fits : MonitorFits m) (edge : Bool) : MonitorFits (activitySample m edge) := by
  obtain ⟨length, counts, los, run⟩ := fits
  unfold activitySample
  split
  · split
    · exact ⟨length, counts, los, run⟩
    · exact ⟨length, counts, los, Nat.zero_le 7⟩
  · split
    · split
      · exact ⟨length, counts, los, Nat.zero_le 7⟩
      · exact ⟨length, counts, los, by dsimp only; omega⟩
    · exact ⟨length, counts, los, Nat.zero_le 7⟩

theorem detect_fits {m : Monitor} (fits : MonitorFits m) (high edge : Bool) : MonitorFits (detect m high edge) :=
  activitySample_fits (losSample_fits fits high) edge

theorem pointMonitor_fits (fits : MonitorFits s.monitors[i]) (high edge : Bool) :
    MonitorFits (pointMonitor s i high edge) := by
  unfold pointMonitor
  split
  · exact detect_fits fits high edge
  · exact detect_fits fits high edge

/-- A completion joins a saturated count to the window, whose last 8 stay (R24, R26). -/
theorem completeGate_fits {m : Monitor} (fits : MonitorFits m) (s : State) (edges : Nat) :
    MonitorFits (completeGate s i m (gateCount m.gate edges)) := by
  obtain ⟨length, counts, los, run⟩ := fits
  rw [completeGate_eq]
  refine ⟨?_, fun n mem => ?_, los, run⟩
  · dsimp only [joinWindow]
    rw [List.length_drop, List.length_append, List.length_singleton]
    omega
  · rcases List.mem_append.mp (List.mem_of_mem_drop mem) with old | new
    · exact counts n old
    · rw [List.mem_singleton.mp new]
      exact Nat.min_le_left ..

theorem emptied_fits {m : Monitor} (fits : MonitorFits m) (gate : Gate) :
    MonitorFits { m with gate := gate, window := [] } := ⟨Nat.zero_le 8, fun _ mem => absurd mem List.not_mem_nil, fits.2.2⟩

theorem monitorAtStart_fits {m : Monitor} (fits : MonitorFits m) (cfg : InputCfg) :
    MonitorFits (monitorAtStart m cfg) := by
  unfold monitorAtStart
  dsimp only
  split
  · exact emptied_fits fits Gate.stopped
  · split
    · exact emptied_fits fits Gate.stopped
    · exact emptied_fits fits Gate.begun

theorem takeOffset_history (fits : s.follower.history.length ≤ 16) (i : Inp) (m' : Monitor) :
    (takeOffset i m' s).follower.history.length ≤ 16 := by
  rw [takeOffset_follower]
  split
  · rw [joinHistory_length _ fits]
    exact Nat.min_le_left ..
  · exact fits

theorem ValueStep.history_fits (step : ValueStep s t) (fits : s.follower.history.length ≤ 16) :
    t.follower.history.length ≤ 16 := by
  rcases step.history with h | h <;> rw [h]
  · exact fits
  · exact Nat.zero_le 16

theorem Body.history_fits (body : Body c s must expired m) (fits : s.follower.history.length ≤ 16) :
    m.follower.history.length ≤ 16 := by
  rcases body.valueStep with step | ⟨i, edges, -, step⟩ | ⟨history, -⟩
  · exact step.history_fits fits
  · exact step.history_fits (takeOffset_history fits ..)
  · rwa [history]

theorem Body.monitors_fit (body : Body c s must expired m) (fits : ∀ i : Inp, MonitorFits s.monitors[i]) :
    ∀ i : Inp, MonitorFits m.monitors[i] := by
  cases body with
  | arises =>
    simp only [qualify_monitors]
    exact withMonitor_forall (P := fun _ m => MonitorFits m) (emptied_fits (pointMonitor_fits (fits _) ..) _) fits
  | clears =>
    simp only [qualify_monitors]
    exact withMonitor_forall (P := fun _ m => MonitorFits m) (pointMonitor_fits (fits _) ..) fits
  | gate on may done =>
    rw [takeOffset_eq]
    simp only [qualify_monitors, State.withFollower_monitors, done]
    exact withMonitor_forall (P := fun _ m => MonitorFits m) (completeGate_fits (fits _) ..) fits
  | announced _ _ _ put | withdrawn _ _ _ put | stale _ _ _ _ put | removed _ _ _ _ put =>
    simpa only [recomputeBound_monitors, put.monitors] using fits
  | value =>
    rw [clearHoldoverForce_eq]
    simpa only [State.withLog_monitors, State.withSelector_monitors, expireValue, logEvent_monitors,
      State.withFollower_monitors] using fits
  | holdOff | wtr => simpa only [applyMove_monitors] using fits
  | lockout | release => simpa only [qualify_monitors] using fits
  | warmup => simpa only [clearWarmup_eq, State.withLog_monitors, State.withFollower_monitors] using fits
  | age | force | unforce => exact fits

theorem init_fits (b : Bool) : MonitorFits (Monitor.init b) := by cases b <;> decide

/-- The history and the monitors after every command. -/
theorem Happens.fits (happens : Happens c s t) (history : s.follower.history.length ≤ 16)
    (fits : ∀ i : Inp, MonitorFits s.monitors[i]) :
    t.follower.history.length ≤ 16 ∧ ∀ i : Inp, MonitorFits t.monitors[i] := by
  cases happens with
  | aside aside => rw [aside.follower, aside.monitors]; exact ⟨history, fits⟩
  | cleared => exact ⟨Nat.zero_le 16, fun i => by rw [cleared_monitor]; exact init_fits _⟩
  | released kind pins port =>
    refine ⟨Nat.zero_le 16, fun i => ?_⟩
    have monitor : (Machine.released kind pins port s.pending).monitors[i] = Monitor.init (losPin pins i) := by
      simp [Machine.released]
    rw [monitor]
    exact init_fits _
  | loading _ _ only => rw [only]; exact ⟨history, fits⟩
  | starts held _ _ only _ result =>
    rw [result, State.withPort_follower, State.withPort_monitors, (startPart_history_value held _).1]
    refine ⟨Nat.zero_le 16, fun i => ?_⟩
    rw [startPart_monitors, only]
    exact monitorAtStart_fits (fits i) _
  | pops result => rw [result]; exact ⟨history, fits⟩
  | sampled => exact ⟨history, withMonitor_forall (P := fun _ m => MonitorFits m) (pointMonitor_fits (fits _) ..) fits⟩
  | locks => exact ⟨history, fits⟩
  | event beside _ body result =>
    rw [← beside.follower] at history
    rw [← beside.monitors] at fits
    rw [result, State.withPort_follower, State.withPort_monitors, settleEvent_monitors]
    exact ⟨(settleEvent_valueStep ..).history_fits (body.history_fits history), body.monitors_fit fits⟩

/-! ### All sizes at once -/

theorem bounded_iff (s : State) : Bounded s ↔
    Tallies s ∧ LogFits s.log ∧ s.follower.history.length ≤ 16 ∧ ∀ i : Inp, MonitorFits s.monitors[i] := by
  constructor
  · rintro ⟨port, records, uptime, history, bus, peers, monitors⟩
    exact ⟨⟨port, bus, peers⟩, ⟨records, uptime⟩, history, monitors⟩
  · rintro ⟨⟨port, bus, peers⟩, ⟨records, uptime⟩, history, monitors⟩
    exact ⟨port, records, uptime, history, bus, peers, monitors⟩

theorem exec_bounded (h : exec c s = .next t) (bounded : Bounded s) : Bounded t := by
  obtain ⟨tallies, log, history, monitors⟩ := (bounded_iff s).mp bounded
  exact (bounded_iff t).mpr ⟨(exec_effect h).tallies tallies, exec_logFits h log, (exec_happens h).fits history monitors⟩

theorem tick_bounded (bounded : Bounded s) : Bounded (tick s) := by
  by_cases held : s.hold.isSome = true
  · rwa [tick_of_hold held]
  have off : s.hold.isSome = false := by simpa using held
  obtain ⟨⟨port, bus, peers⟩, ⟨records, uptime⟩, history, monitors⟩ := (bounded_iff s).mp bounded
  have log : (tick s).log = tickLog s.log := by rw [tick, if_neg held]
  have buses : (tick s).bus = tickBus s := by rw [tick, if_neg held]
  refine (bounded_iff _).mpr ⟨⟨?_, ?_, ?_⟩, ?_, ?_, fun i => ?_⟩
  · rw [tick, if_neg held]
    exact port
  · rw [buses]
    exact bus
  · rw [tick_peers off]
    exact peers
  · rw [log]
    unfold tickLog
    split
    · exact ⟨records, Nat.min_le_left ..⟩
    · exact ⟨records, uptime⟩
  · rw [tick_follower off]
    exact history
  · rw [tick_monitors off]
    exact monitors i

theorem tick_silentLaw (law : SilentLaw s) : SilentLaw (tick s) := by
  by_cases held : s.hold.isSome = true
  · rwa [tick_of_hold held]
  · have bus : (tick s).bus = tickBus s := by rw [tick, if_neg held]
    rw [SilentLaw, bus]
    exact law

end

end Sys2Proof.Machine

open Sys2Proof Sys2Proof.Machine

/-- Settles O52: the counters and DUPLICATE by what a command does to the bus, the log by what it appends, the history
and the windows by what it does to the inputs. -/
theorem sizesStand : Obligations.SizesStand := by
  intro s t bounded silent h
  rcases step_cases h with rfl | ⟨c, rest, -, -, h⟩
  · exact ⟨tick_bounded bounded, tick_silentLaw silent⟩
  · exact ⟨exec_bounded h bounded, (exec_effect h).silentLaw silent⟩

end

section
/-! PROOF. The check character is the remainder of the frame's polynomial (O43): the CRC register is read as a polynomial
of degree below 8, one bit of the division multiplies it by x, and a byte adds itself before it is shifted through. -/

namespace Sys2Proof

open Polynomial

/-! ### A byte as a polynomial -/

/-- The coefficient that a bit stands for. -/
def bitCoefficient (bit : Bool) : ZMod 2 := if bit then 1 else 0

@[simp] theorem bitCoefficient_true : bitCoefficient true = 1 := rfl

@[simp] theorem bitCoefficient_false : bitCoefficient false = 0 := rfl

/-- One more bit at the end of a polynomial's bits. -/
noncomputable def pushBit (p : Polynomial (ZMod 2)) (bit : Bool) : Polynomial (ZMod 2) :=
  p * X + C (bitCoefficient bit)

/-- The polynomial of a byte, coefficient by coefficient. -/
noncomputable def bytePolynomial (b : Byte) : Polynomial (ZMod 2) :=
  ∑ k : Fin 8, C (bitCoefficient (b.getLsbD k)) * X ^ (k : ℕ)

theorem bytePolynomial_coeff (b : Byte) (k : Fin 8) : (bytePolynomial b).coeff k = bitCoefficient (b.getLsbD k) := by
  fin_cases k <;> simp [bytePolynomial, Fin.sum_univ_eight, coeff_X]

theorem bytePolynomial_degree (b : Byte) : (bytePolynomial b).degree < 8 :=
  degree_sum_fin_lt fun k => bitCoefficient (b.getLsbD k)

theorem bytePolynomial_eq_zero_iff (b : Byte) : bytePolynomial b = 0 ↔ b = 0 := by
  constructor
  · intro zero
    refine BitVec.eq_of_getLsbD_eq fun k below => ?_
    have coefficient := bytePolynomial_coeff b ⟨k, below⟩
    rw [zero] at coefficient
    by_contra set
    simp [bitCoefficient] at coefficient set
    simp [coefficient] at set
  · rintro rfl
    simp [bytePolynomial, bitCoefficient]

/-- XOR of registers is the sum of their polynomials. -/
theorem bytePolynomial_xor (a b : Byte) : bytePolynomial (a ^^^ b) = bytePolynomial a + bytePolynomial b := by
  have coefficient : ∀ x y : Bool, bitCoefficient (x ^^ y) = bitCoefficient x + bitCoefficient y := by decide
  simp only [bytePolynomial, ← Finset.sum_add_distrib, BitVec.getLsbD_xor, coefficient, map_add, add_mul]

/-- A register shifted by one place is its polynomial times x, without the coefficient of x⁸. -/
theorem bytePolynomial_shift (b : Byte) :
    bytePolynomial (b <<< 1) = bytePolynomial b * X + C (bitCoefficient b.msb) * X ^ 8 := by
  have double : C (bitCoefficient b.msb) * X ^ 8 + C (bitCoefficient b.msb) * X ^ 8 = (0 : Polynomial (ZMod 2)) :=
    CharTwo.add_self_eq_zero _
  rw [BitVec.msb_eq_getLsbD_last] at double ⊢
  simp [bytePolynomial, Fin.sum_univ_eight, -BitVec.getLsbD_eq_getElem] at double ⊢
  linear_combination -double

theorem foldl_pushBit (bits : List Bool) (p : Polynomial (ZMod 2)) :
    bits.foldl pushBit p = p * X ^ bits.length + bits.foldl pushBit 0 := by
  induction bits generalizing p with
  | nil => simp
  | cons bit bits ih =>
    rw [List.foldl_cons, List.foldl_cons, ih, ih (pushBit 0 bit)]
    simp only [pushBit, List.length_cons]
    ring

theorem bitPolynomial_eq_foldl (bytes : List Byte) :
    bitPolynomial bytes = (bytes.flatMap fun b => (List.range 8).map fun k => b.getLsbD (7 - k)).foldl pushBit 0 := rfl

theorem bitPolynomial_single (b : Byte) : bitPolynomial [b] = bytePolynomial b := by
  simp [bitPolynomial_eq_foldl, bytePolynomial, pushBit, Fin.sum_univ_eight, List.range_succ,
    -BitVec.getLsbD_eq_getElem]
  ring

theorem bitPolynomial_append (bytes : List Byte) (b : Byte) :
    bitPolynomial (bytes ++ [b]) = bitPolynomial bytes * X ^ 8 + bytePolynomial b := by
  rw [← bitPolynomial_single, bitPolynomial_eq_foldl, List.flatMap_append, List.foldl_append, foldl_pushBit]
  rfl

/-! ### The division by x⁸ + x² + x + 1 -/

theorem checkDivisor_eq : checkDivisor = X ^ 8 + (X ^ 2 + X + 1) := by
  unfold checkDivisor
  ring

theorem checkDivisor_tail : (X ^ 2 + X + 1 : Polynomial (ZMod 2)).degree < 8 := by
  compute_degree!

theorem checkDivisor_monic : checkDivisor.Monic := by
  rw [checkDivisor_eq]
  exact monic_X_pow_add checkDivisor_tail

theorem checkDivisor_degree : checkDivisor.degree = 8 := by
  rw [checkDivisor_eq, degree_add_eq_left_of_degree_lt] <;> rw [degree_X_pow]
  · rfl
  · exact checkDivisor_tail

namespace Machine

/-- One bit of the division takes the divisor away exactly when x⁸ would appear. -/
theorem crcBit_polynomial (reg : Byte) :
    bytePolynomial (crcBit reg) = bytePolynomial reg * X + C (bitCoefficient reg.msb) * checkDivisor := by
  have seven : bytePolynomial 0x07 = X ^ 2 + X + 1 := by
    simp [bytePolynomial, Fin.sum_univ_eight, bitCoefficient]
    ring
  unfold crcBit
  split
  next top =>
    rw [bytePolynomial_xor, bytePolynomial_shift, seven, checkDivisor_eq, top, bitCoefficient_true, C_1]
    ring
  next low =>
    rw [bytePolynomial_shift]
    simp [low, bitCoefficient]

/-- One bit of the division multiplies by x, up to a multiple of the divisor. -/
theorem crcBit_shifts (reg : Byte) : checkDivisor ∣ bytePolynomial (crcBit reg) - bytePolynomial reg * X :=
  ⟨C (bitCoefficient reg.msb), by rw [crcBit_polynomial]; ring⟩

/-- Two bits in a row, and so on to eight. -/
theorem crcBits_shift (n : ℕ) (reg : Byte) :
    checkDivisor ∣ bytePolynomial (crcBit^[n] reg) - bytePolynomial reg * X ^ n := by
  induction n with
  | zero => simp
  | succ n ih =>
    rw [Function.iterate_succ_apply']
    have last := crcBit_shifts (crcBit^[n] reg)
    have before := ih.mul_right X
    have sum := dvd_add last before
    rwa [show ∀ a b c : Polynomial (ZMod 2), a - b * X + (b - c * X ^ n) * X = a - c * X ^ (n + 1) by
      intros; ring] at sum

theorem crcByte_eq (reg byte : Byte) : crcByte reg byte = crcBit^[8] (reg ^^^ byte) := rfl

theorem crc8_append (bytes : List Byte) (b : Byte) : crc8 (bytes ++ [b]) = crcByte (crc8 bytes) b := by
  simp [crc8]

/-- The register after the bytes is their polynomial times x⁸, up to a multiple of the divisor. -/
theorem crc8_congruent (bytes : List Byte) :
    checkDivisor ∣ bytePolynomial (crc8 bytes) - bitPolynomial bytes * X ^ 8 := by
  induction bytes using List.reverseRecOn with
  | nil =>
    have zero : bytePolynomial 0 = 0 := (bytePolynomial_eq_zero_iff 0).2 rfl
    rw [show crc8 [] = 0 from rfl, zero]
    simp [bitPolynomial]
  | append_singleton bytes b ih =>
    have shifted := crcBits_shift 8 (crc8 bytes ^^^ b)
    rw [bytePolynomial_xor] at shifted
    have sum := dvd_add shifted (ih.mul_right (X ^ 8))
    rw [crc8_append, crcByte_eq, bitPolynomial_append]
    rwa [show ∀ a p q m : Polynomial (ZMod 2),
      a - (p + q) * X ^ 8 + (p - m * X ^ 8) * X ^ 8 = a - (m * X ^ 8 + q) * X ^ 8 by intros; ring] at sum

/-- R116: the check of a byte sequence is the remainder of its polynomial times x⁸. -/
theorem crc8_remainder (bytes : List Byte) :
    bytePolynomial (crc8 bytes) = bitPolynomial bytes * X ^ 8 %ₘ checkDivisor := by
  have low : bytePolynomial (crc8 bytes) %ₘ checkDivisor = bytePolynomial (crc8 bytes) :=
    (modByMonic_eq_self_iff checkDivisor_monic).2 (checkDivisor_degree ▸ bytePolynomial_degree _)
  rw [← low, ← sub_eq_zero, ← sub_modByMonic]
  exact (modByMonic_eq_zero_iff_dvd checkDivisor_monic).2 (crc8_congruent bytes)

theorem crc8_eq_zero_iff (bytes : List Byte) :
    crc8 bytes = 0 ↔ bitPolynomial bytes * X ^ 8 %ₘ checkDivisor = 0 := by
  rw [← crc8_remainder, bytePolynomial_eq_zero_iff]

/-! ### Intact frames -/

/-- No register but 0 is shifted to 0: the bit shifted out is put back as the constant term. -/
theorem crcBit_eq_zero (reg : Byte) : crcBit reg = 0 ↔ reg = 0 := by
  revert reg
  decide

theorem crcByte_eq_zero (reg byte : Byte) : crcByte reg byte = 0 ↔ byte = reg := by
  simp only [crcByte, crcBit_eq_zero]
  rw [show (0 : Byte) = 0#8 from rfl, BitVec.xor_eq_zero_iff, eq_comm]

/-- The check over bytes and their check is 0, and over no other last byte. -/
theorem crc8_append_eq_zero (bytes : List Byte) (b : Byte) : crc8 (bytes ++ [b]) = 0 ↔ b = crc8 bytes := by
  rw [crc8_append, crcByte_eq_zero]

theorem intact_iff (kind : Byte) (f : RxFrame) : intact kind f = true ↔ f.check = crc8 (headBytes kind f) := by
  rw [← crc8_append_eq_zero]
  simp [intact]

end Machine

end Sys2Proof

open Sys2Proof Sys2Proof.Machine

/-- Settles O43: the CRC register follows the division of the frame's polynomial bit by bit. -/
theorem checkIsTheRemainder : Obligations.CheckIsTheRemainder := by
  intro bytes kind f own frame
  refine ⟨?_, intact_iff kind f, ?_, _, rfl⟩
  · rw [bitPolynomial_single, crc8_remainder]
  · rw [← crc8_eq_zero_iff, crc8_append_eq_zero]
    exact intact_iff kind f

end

section
/-! PROOF. A frame sent is received as it was built (O44): the characters on the line, level by level, and the bytes that a
receiver reads back as source, sequence and content. -/

namespace Sys2Proof.Machine

/-! ### The characters of a frame on the line -/

theorem LineChar.sent_level (data : Byte) (mark : Bool) (k : Nat) (below : k < 8) :
    (LineChar.sent data mark).levels.getLsbD (k + 1) = data.getLsbD k := by
  simp [LineChar.sent, charLevels_getLsbD, show k + 1 < 9 by omega, -BitVec.getLsbD_eq_getElem]

theorem txBytes_length (own : Nat) (frame : TxFrame) :
    (txBytes own frame).length = 6 + (txParts frame).2.2.2.length := by
  simp [txBytes, txAsReceived, headBytes]
  omega

theorem txChars_data (own : Nat) (frame : TxFrame) : (txChars own frame).map LineChar.data = txBytes own frame := by
  simp [txChars, List.mapIdx_eq_zipIdx_map, Function.comp_def]

/-- The header is a mark character, and no other character is. -/
theorem txChars_mark (own : Nat) (frame : TxFrame) :
    (txChars own frame).map LineChar.mark = true :: List.replicate ((txBytes own frame).length - 1) false := by
  rw [txChars]
  have notEmpty : 0 < (txBytes own frame).length := by rw [txBytes_length]; omega
  generalize txBytes own frame = bytes at notEmpty
  match bytes, notEmpty with
  | header :: rest, _ =>
    simp only [List.mapIdx_cons, List.map_cons, LineChar.sent_mark, decide_true, List.length_cons,
      Nat.add_sub_cancel, List.cons.injEq, true_and]
    refine List.eq_replicate_iff.2 ⟨by simp, fun mark found => ?_⟩
    obtain ⟨c, member, rfl⟩ := List.mem_map.1 found
    obtain ⟨k, _, rfl⟩ := List.mem_mapIdx.1 member
    simp

theorem txChars_sound (own : Nat) (frame : TxFrame) : ∀ c ∈ txChars own frame, c.start = true ∧ c.stopGood = true := by
  intro c member
  obtain ⟨k, below, rfl⟩ := List.mem_mapIdx.1 member
  simp

/-- Blocks of one length, one after another: block `k` begins at `k` lengths. -/
theorem getElem?_flatMap_blocks {α β : Type} {n : Nat} (blocks : α → List β) (size : ∀ a, (blocks a).length = n)
    (l : List α) (k j : Nat) (within : j < n) :
    (l.flatMap blocks)[n * k + j]? = l[k]?.bind fun a => (blocks a)[j]? := by
  induction l generalizing k with
  | nil => simp
  | cons a l ih =>
    rw [List.flatMap_cons]
    cases k with
    | zero => simp [List.getElem?_append_left, size, within]
    | succ k =>
      rw [List.getElem?_append_right (by rw [size, Nat.mul_succ]; omega), size,
        show n * (k + 1) + j - n = n * k + j by rw [Nat.mul_succ]; omega, ih]
      simp

theorem txLevels_getElem? (own : Nat) (frame : TxFrame) (k j : Nat) (within : j < 11) :
    (txLevels own frame)[11 * k + j]? = (txChars own frame)[k]?.map fun c => c.levels.getLsbD j := by
  rw [txLevels, getElem?_flatMap_blocks _ (fun _ => by simp) _ _ _ within]
  simp [within, Option.map_eq_bind, -BitVec.getLsbD_eq_getElem]

theorem txLevels_length (own : Nat) (frame : TxFrame) :
    (txLevels own frame).length = 11 * (txBytes own frame).length := by
  simp [txLevels, List.length_flatMap, txChars, Nat.mul_comm]

/-! ### What a receiver makes of a frame -/

theorem intact_sent (own : Nat) (frame : TxFrame) :
    intact (txAsReceived own frame).1 (txAsReceived own frame).2 = true :=
  (intact_iff _ _).2 rfl

theorem byte_toNat {n : Nat} (below : n < 256) : (BitVec.ofNat 8 n).toNat = n := by
  simp only [BitVec.toNat_ofNat]
  omega

theorem station_of_path {path : List Nat} {own : Nat} (path_of : PathOf path own) : 1 ≤ own ∧ own ≤ 24 := by
  obtain ⟨_, addresses, _, last⟩ := path_of
  exact addresses own (List.mem_of_getLast? last)

/-- The path of an ANNOUNCE sent is read back address by address. -/
theorem path_readBack {path : List Nat} (addresses : ∀ a ∈ path, 1 ≤ a ∧ a ≤ 24) :
    (path.map (BitVec.ofNat 8)).map BitVec.toNat = path := by
  rw [List.map_map]
  conv_rhs => rw [← List.map_id path]
  exact List.map_congr_left fun a member => byte_toNat (by have := addresses a member; omega)

theorem classOf_classCode (cls : AnnClass) : classOf (classCode cls) = some cls := by cases cls <;> rfl

theorem payloadClass_sent (content : Content) (restart : Bool) :
    payloadByte (announcePayload content restart) 0 = classCode content.cls :=
  byte_toNat (by cases content.cls <;> decide)

theorem payloadGrade_sent (content : Content) (restart : Bool) (grade : content.grade ≤ 15) :
    payloadByte (announcePayload content restart) 1 = content.grade :=
  byte_toNat (by omega)

theorem payloadByte_two_sent (content : Content) (restart : Bool) (interval : content.interval ≤ 8) :
    payloadByte (announcePayload content restart) 2 = content.interval + if restart then 128 else 0 :=
  byte_toNat (by split <;> omega)

theorem payloadCount_sent (content : Content) (restart : Bool) (length : content.path.length ≤ 8) :
    payloadByte (announcePayload content restart) 3 = content.path.length :=
  byte_toNat (by omega)

/-- R153, R186: the payload that an ANNOUNCE is built with is valid, and reads as what it was built from. -/
theorem readAnnounce_sent {own : Nat} {content : Content} (restart : Bool) (path : PathOf content.path own)
    (grade : 1 ≤ content.grade ∧ content.grade ≤ 15) (interval : 1 ≤ content.interval ∧ content.interval ≤ 8) :
    readAnnounce own (announcePayload content restart) = some { content := content, restart := restart } := by
  have valid : validPath content.path own = true := (validPath_iff _ _).2 path
  obtain ⟨length, addresses, _⟩ := path
  have third := payloadByte_two_sent content restart interval.2
  have readInterval : payloadInterval (announcePayload content restart) = content.interval := by
    rw [payloadInterval, third]
    split <;> omega
  have readRestart : payloadRestart (announcePayload content restart) = restart := by
    rw [payloadRestart, third]
    cases restart <;> simp
    omega
  have readPath : payloadPath (announcePayload content restart) = content.path := path_readBack addresses
  unfold readAnnounce
  rw [payloadClass_sent, classOf_classCode]
  simp only [payloadGrade_sent content restart grade.2, readInterval, readRestart, readPath,
    payloadCount_sent content restart length.2, valid]
  rw [if_pos ⟨grade, interval, length, by simp [announcePayload]; omega, trivial⟩]

theorem kindFits_announce {content : Content} {own : Nat} (restart : Bool) (q : Byte)
    (length : 1 ≤ content.path.length ∧ content.path.length ≤ 8) :
    kindFits kindAnnounce (txAsReceived own (.announce content restart q)).2 = true := by
  have differs : kindAnnounce ≠ kindQuery ∧ kindAnnounce ≠ kindWithdraw := by decide
  simp [kindFits, differs, txAsReceived, txParts, announcePayload]
  omega

end Sys2Proof.Machine

open Sys2Proof Sys2Proof.Machine

/-- Settles O44, level by level on the line and byte by byte in the frame. -/
theorem sentAnnounceIsReadBack : Obligations.SentAnnounceIsReadBack := by
  intro own d content restart mark q data frame
  refine ⟨⟨?_, ?_, LineChar.sent_mark data mark, LineChar.sent_level data mark, ?_⟩,
    ⟨txChars_data own frame, txChars_mark own frame, txChars_sound own frame, txLevels_length own frame,
      txLevels_getElem? own frame, ?_⟩, fun path grade interval => ?_, fun station destination => ?_⟩
  · simpa [LineChar.start] using LineChar.sent_start data mark
  · exact LineChar.sent_stopGood data mark
  · simp
  · rw [txBytes_length, txDuration, charTime, Nat.mul_comm]
  · have source := station_of_path path
    have length : 1 ≤ content.path.length ∧ content.path.length ≤ 8 := path.1
    exact ⟨rfl, by simp [lengthOk, txAsReceived, txParts, announcePayload]; omega, intact_sent own _,
      kindFits_announce restart q length, rfl, rfl, byte_toNat (by omega), readAnnounce_sent restart path grade interval,
      by simp [txBytes_length, txParts, announcePayload]; omega⟩
  · have source : (BitVec.ofNat 8 own).toNat = own := byte_toNat (by omega)
    have asked : (BitVec.ofNat 8 d).toNat = d := byte_toNat (by omega)
    exact ⟨rfl, intact_sent own (.query d q), rfl, asked, source, rfl, txBytes_length own (.query d q),
      rfl, intact_sent own (.withdraw q), rfl, rfl, source, rfl, txBytes_length own (.withdraw q)⟩

end

section
/-! PROOF. LOSC cycles with nothing commanded (O2): one cycle carries each relation of the counts from `n` cycles to
`n + 1`, and a run on an empty queue is that many cycles. -/

namespace Sys2Proof.Machine

section

variable {n : ℕ} {s u : State}

/-! ### Single counts -/

theorem minus_minus (o : Option ℕ) (n : ℕ) : (o.map (· - n)).map (· - 1) = o.map (· - (n + 1)) := by
  cases o <;> rfl

theorem stepTo_min (limit m : ℕ) : stepTo limit (min limit (m + n)) = min limit (m + (n + 1)) := by
  unfold stepTo
  split <;> omega

theorem stepShort_min {limit m : ℕ} (below : m < limit) :
    stepShort limit (min (limit - 1) (m + n)) = min (limit - 1) (m + (n + 1)) := by
  unfold stepShort reached
  simp only [decide_eq_true_eq]
  split <;> omega

theorem tickWtr_runs {seconds : ℕ} {w w' : Wtr} (runs : WtrRuns n (seconds * 20000000) w w') :
    WtrRuns (n + 1) (seconds * 20000000) w (tickWtr seconds w') := by
  cases w with
  | running cycles =>
    intro below
    rw [runs below, tickWtr, second, stepShort_min below]
  | none => rw [show w' = .none from runs, tickWtr]
  | served => rw [show w' = .served from runs, tickWtr]
  | met => rw [show w' = .met from runs, tickWtr]
  | waived => rw [show w' = .waived from runs, tickWtr]

theorem tickAge_eq (c : Image) (age : ℕ) : tickAge c age =
    if (age + 1 = c.age1 * second ∨ age + 1 = c.age2 * second ∨ age + 1 = c.age3 * second) ∨
      c.limit * second ≤ age + 1 then age else age + 1 := by
  simp only [tickAge, stepShort, reached, List.contains_iff_mem, List.mem_cons, List.not_mem_nil, or_false,
    decide_eq_true_eq]
  generalize second = cycles
  split_ifs <;> tauto

/-- The age waits exactly one cycle short of the next point. -/
theorem tickAge_waits_iff {c : Image} {age : ℕ} (below : age < c.limit * 20000000) :
    tickAge c age = (if ∃ p ∈ [c.age1, c.age2, c.age3, c.limit], age + 1 = p * 20000000 then age else age + 1) := by
  rw [tickAge_eq]
  refine if_congr ?_ rfl rfl
  have limit : c.limit * second ≤ age + 1 ↔ age + 1 = c.limit * second := by
    rw [second]
    omega
  rw [limit, second]
  simp only [List.mem_cons, List.not_mem_nil, or_false, exists_eq_or_imp, exists_eq_left, or_assoc]

theorem tickAge_runs {c : Image} {age age' : ℕ} (below : age < c.limit * 20000000)
    (runs : AgeRuns n [c.age1, c.age2, c.age3, c.limit] age age') :
    AgeRuns (n + 1) [c.age1, c.age2, c.age3, c.limit] age (tickAge c age') := by
  obtain ⟨⟨low, high⟩, waits, short⟩ := runs
  rw [tickAge_waits_iff (short c.limit (by simp) below)]
  split
  next point => exact ⟨⟨low, by omega⟩, .inr point, short⟩
  next free =>
    have grown := waits.resolve_right free
    refine ⟨⟨by omega, by omega⟩, .inl (by omega), fun p member later => ?_⟩
    have under := short p member later
    have differs : age' + 1 ≠ p * 20000000 := fun same => free ⟨p, member, same⟩
    omega

/-! ### The log -/

theorem tickLog_counts {l : EventLog} (phase : l.phase < 20000000)
    (bound : l.uptime * 20000000 + l.phase + 1 < 4294967296 * 20000000) :
    (tickLog l).uptime * 20000000 + (tickLog l).phase = l.uptime * 20000000 + l.phase + 1 ∧
    (tickLog l).phase < 20000000 ∧
    (tickLog l).uptime = l.uptime + (if 20000000 ≤ l.phase + 1 then 1 else 0) ∧
    (tickLog l).records = l.records ∧ (tickLog l).overflow = l.overflow := by
  unfold tickLog second
  split <;> simp only [and_self, and_true] <;> omega

/-! ### One cycle of the unit -/

theorem tick_open (noHold : s.hold = none) : tick s =
    { s with
      loader := tickLoader s.loader
      monitors := s.monitors.map tickMonitor
      records := Vector.ofFn fun i : Inp => tickRecord (inputCfg s i) s.records[i]
      follower := tickFollower s
      peers := tickPeers s.peers
      announcer := tickAnnouncer s.announcer
      bus := tickBus s
      log := tickLog s.log } := by
  rw [tick, if_neg (by simp [noHold])]

/-- What `n` cycles leave as it was, with the log's clock. -/
structure Idled (n : ℕ) (s t : State) : Prop where
  hold : t.hold = none
  pending : t.pending = []
  cause : t.cause = s.cause
  pins : t.pins = s.pins
  selector : t.selector = s.selector
  port : t.port = s.port
  clock : t.log.uptime * 20000000 + t.log.phase = s.log.uptime * 20000000 + s.log.phase + n
  phase : t.log.phase < 20000000
  entries : t.log.records = s.log.records ∧ t.log.overflow = s.log.overflow
  timers : TimersRun n s t
  monitors : MonitorsRun n s t
  ages : AgesRun n s t
  idle : IdleRuns n s t

theorem tickLoader_eeprom (l : Loader) : (tickLoader l).eeprom = match l.eeprom with
    | .waiting attempt left => .waiting attempt (left - 1)
    | .attempt attempt elapsed => .attempt attempt (elapsed + 1)
    | .idle => .idle := by
  unfold tickLoader
  split
  next found => rw [found]
  next found => rw [found]
  next found => rw [found]

theorem timersRun_tick (noHold : u.hold = none) (run : TimersRun n s u) : TimersRun (n + 1) s (tick u) := by
  obtain ⟨holdOff, settle, announcer, windows, loader⟩ := run
  rw [tick_open noHold]
  refine ⟨fun i => ?_, ?_, ?_, fun k => ?_, ?_⟩
  · rw [← tick_open noHold, tick_records (by simp [noHold]), ← minus_minus, ← holdOff i]
    rfl
  · exact (congrArg (Option.map (· - 1)) settle).trans (minus_minus ..)
  · simp only [announcer, tickAnnouncer, minus_minus]
  · simp only [tickPeers, Fin.getElem_fin, Vector.getElem_map]
    rw [← Fin.getElem_fin, windows k]
    cases s.peers.windows[k] <;> rfl
  · show tickLoader u.loader = _
    rw [tickLoader_eq, tickLoader_eeprom, loader]
    cases s.loader.eeprom <;> rfl

theorem monitorsRun_tick (noHold : u.hold = none) (run : MonitorsRun n s u) : MonitorsRun (n + 1) s (tick u) := by
  intro i phase elapsed
  have monitor := run i phase elapsed
  rw [tick_monitors (by simp [noHold]), monitor, tickMonitor]
  have point : min millisecond (min 20000 (s.monitors[i].msPhase + n) + 1) = min 20000 (s.monitors[i].msPhase + (n + 1)) := by
    show min 20000 _ = _
    omega
  have gate : min second (min 20000000 (s.monitors[i].gate.elapsed + n) + 1) =
      min 20000000 (s.monitors[i].gate.elapsed + (n + 1)) := by
    show min 20000000 _ = _
    omega
  cases runs : s.monitors[i].gate.run <;> simp [point, gate, runs, -Fin.getElem_fin]

theorem tickWarm_runs (cold : u.cause ≠ .power) : tickWarm u = u.follower.warmCount := if_neg cold

theorem tickWarm_free (power : u.cause = .power) (free : running u = false ∨ u.follower.warm = false) :
    tickWarm u = min 3600 (u.follower.warmCount + 1) := by
  have not : ¬(running u && u.follower.warm) = true := by
    rcases free with h | h <;> simp [h]
  rw [tickWarm, if_pos power, if_neg not]

theorem tickWarm_short (power : u.cause = .power) (on : running u = true) (warm : u.follower.warm = true) :
    tickWarm u = min 3600 (stepShort (cfg u).warmup u.follower.warmCount) := by
  rw [tickWarm, if_pos power, if_pos (by simp [on, warm])]

/-! ### The counts that grow -/

/-- What the counts read beside themselves stands. -/
theorem Idled.configured (idled : Idled n s u) (open' : s.hold = none) :
    (∀ i, inputCfg u i = inputCfg s i) ∧ cfg u = cfg s ∧ running u = running s := by
  obtain ⟨-, -, -, -, loader⟩ := idled.timers
  refine ⟨fun i => ?_, ?_, ?_⟩
  · rw [inputCfg, loader]
    rfl
  · rw [cfg, loader]
    rfl
  · rw [running, running, idled.hold, open', loader]

theorem recordRun_tick {c : InputCfg} {r r' : InputRec} (runs : WtrRuns n (c.wtr * 20000000) r.wtr r'.wtr)
    (rest : r' = { r with holdOff := r'.holdOff, wtr := r'.wtr }) :
    WtrRuns (n + 1) (c.wtr * 20000000) r.wtr (tickRecord c r').wtr ∧
      tickRecord c r' = { r with holdOff := (tickRecord c r').holdOff, wtr := (tickRecord c r').wtr } :=
  ⟨tickWtr_runs runs, by rw [tickRecord, rest]⟩

theorem tickEntry_runs {e : PeerEntry} (below : e.ageCycles < entrySeconds e * 20000000) :
    tickEntry { e with ageCycles := min (entrySeconds e * 20000000 - 1) (e.ageCycles + n) } =
      { e with ageCycles := min (entrySeconds e * 20000000 - 1) (e.ageCycles + (n + 1)) } := by
  have deadline : ∀ age, ({ e with ageCycles := age } : PeerEntry).deadline = entrySeconds e := fun _ => rfl
  rw [tickEntry, deadline, second, stepShort_min below]

theorem tickFollower_warmCount (u : State) : (tickFollower u).warmCount =
    if 20000000 ≤ u.log.phase + 1 then tickWarm u else u.follower.warmCount :=
  if_congr (by unfold secondEnds second; exact decide_eq_true_iff) rfl rfl

theorem tickFollower_eq (u : State) : tickFollower u = { u.follower with
    settle := (tickFollower u).settle
    value := { u.follower.value with ageCycles := (tickFollower u).value.ageCycles }
    warmCount := (tickFollower u).warmCount } := by
  unfold tickFollower
  dsimp only
  split <;> rfl

/-- The warm-up count while nothing holds it short of a point. -/
theorem warmFree_tick {count : ℕ} (power : u.cause = .power) (free : running u = false ∨ u.follower.warm = false)
    (count_eq : u.follower.warmCount = min 3600 (s.follower.warmCount + count)) :
    (tickFollower u).warmCount =
      min 3600 (s.follower.warmCount + (count + if 20000000 ≤ u.log.phase + 1 then 1 else 0)) := by
  rw [tickFollower_warmCount, tickWarm_free power free, count_eq]
  split <;> omega

theorem warmShort_tick {count limit : ℕ} (power : u.cause = .power) (on : running u = true)
    (warm : u.follower.warm = true) (config : (cfg u).warmup = limit) (below : s.follower.warmCount < limit)
    (small : limit ≤ 3600) (count_eq : u.follower.warmCount = min (limit - 1) (s.follower.warmCount + count)) :
    (tickFollower u).warmCount =
      min (limit - 1) (s.follower.warmCount + (count + if 20000000 ≤ u.log.phase + 1 then 1 else 0)) := by
  rw [tickFollower_warmCount, tickWarm_short power on warm, config, count_eq, stepShort_min below]
  split <;> omega

theorem agesRun_tick (open' : s.hold = none) (idled : Idled n s u) (ticked : (tickLog u.log).uptime =
      u.log.uptime + if 20000000 ≤ u.log.phase + 1 then 1 else 0) (grown : s.log.uptime ≤ u.log.uptime) :
    AgesRun (n + 1) s (tick u) := by
  obtain ⟨inputs, config, on⟩ := idled.configured open'
  obtain ⟨records, follower, invalid, age, cold, warm, peers, entries⟩ := idled.ages
  have elapsed : (tickLog u.log).uptime - s.log.uptime =
      u.log.uptime - s.log.uptime + if 20000000 ≤ u.log.phase + 1 then 1 else 0 := by omega
  have valid : u.follower.value.valid = s.follower.value.valid := by rw [follower]
  have flag : u.follower.warm = s.follower.warm := by rw [follower]
  have value : (tickFollower u).value = if s.follower.value.valid = true then
      { u.follower.value with ageCycles := tickAge (cfg s) u.follower.value.ageCycles } else u.follower.value := by
    rw [tickFollower, valid, config]
  rw [tick_open idled.hold]
  refine ⟨fun i => ?_, ?_, fun h => ?_, fun h below => ?_, fun h => ?_, fun h small => ⟨fun free => ?_, fun running warming
    early limit => ?_⟩, ?_, fun k => ⟨fun h => ?_, fun e found below => ?_⟩⟩
  · rw [← tick_open idled.hold, tick_records (by simp [idled.hold]), inputs i]
    exact recordRun_tick (records i).1 (records i).2
  · exact (tickFollower_eq u).trans (congrArg (fun f : Follower => { f with
      settle := (tickFollower u).settle
      value := { f.value with ageCycles := (tickFollower u).value.ageCycles }
      warmCount := (tickFollower u).warmCount }) follower)
  · show (tickFollower u).value.ageCycles = _
    rw [value, if_neg (by simp [h]), invalid h]
  · show AgeRuns _ _ _ (tickFollower u).value.ageCycles
    rw [value, if_pos h]
    exact tickAge_runs below (age h below)
  · show (tickFollower u).warmCount = _
    rw [tickFollower_warmCount, tickWarm_runs (idled.cause ▸ h), cold h, ite_self]
  · show (tickFollower u).warmCount = _
    rw [elapsed]
    exact warmFree_tick (idled.cause.trans h) (by rwa [on, flag]) ((warm h small).1 free)
  · show (tickFollower u).warmCount = _
    rw [elapsed]
    exact warmShort_tick (idled.cause.trans h) (on.trans running) (flag.trans warming) (by rw [config]) early limit
      ((warm h small).2 running warming early limit)
  · show tickPeers u.peers = _
    rw [tickPeers, peers]
  · show (tickPeers u.peers).entries[k] = none
    simp only [tickPeers, Fin.getElem_fin, Vector.getElem_map]
    rw [← Fin.getElem_fin, (entries k).1 h]
    rfl
  · show (tickPeers u.peers).entries[k] = _
    simp only [tickPeers, Fin.getElem_fin, Vector.getElem_map]
    rw [← Fin.getElem_fin, (entries k).2 e found below, Option.map_some, tickEntry_runs below]

/-! ### The line, the idle count and the time of the own frame -/

theorem drivenStep_runs {f : TxFrame} {driven : ℕ} :
    drivenStep (some f) (min (lineTime f) (driven + n)) = min (lineTime f) (driven + (n + 1)) := by
  have duration : txDuration f = lineTime f := by
    cases f <;> simp [txDuration, txParts, announcePayload, charTime, lineTime]
    omega
  rw [drivenStep, duration, stepTo_min]

theorem tickLine_held {left : ℕ} (more : 1 < left) :
    tickLine (.heldActive (some left)) = .heldActive (some (left - 1)) := by
  rw [tickLine, heldLine, if_neg (by simp; omega)]

theorem tickLine_character {left : ℕ} {c : LineChar} (more : 1 < left) :
    tickLine (.character left c) = .character (left - 1) c := by
  rw [tickLine, if_neg (by omega)]

/-- The point at which the idle count waits, if there is one. -/
def idlePoint (s : State) : Option ℕ :=
  if assembling s.bus then some 1761
  else if s.bus.tx = .deferring then some (if s.bus.rest then 26400 else (4 + s.loader.ownAddress) * 880)
  else if s.bus.rest then some 26400
  else none

theorem idleStep_eq (s : State) (m : ℕ) :
    idleStep s m = match idlePoint s with
      | some point => stepTo point m
      | none => m + 1 := by
  unfold idleStep idlePoint
  split_ifs <;> simp_all [threshold, charTime, restTime]

theorem idleRuns_tick (idled : Idled n s u) : IdleRuns (n + 1) s (tick u) := by
  obtain ⟨bus, silent, sends, still, quiet, held, releasing, character, idle⟩ := idled.idle
  have tx : u.bus.tx = s.bus.tx := by rw [bus]
  have frame : u.announcer.frame = s.announcer.frame := by rw [idled.timers.2.2.1]
  have point : idlePoint u = idlePoint s := by
    simp only [idlePoint, idled.timers.2.2.2.2]
    rw [bus]
    rfl
  rw [tick_open idled.hold]
  refine ⟨?_, fun stands => ?_, fun sending f found below => ?_, fun sending => ?_, fun line => ?_, fun line => ?_,
    fun left more line => ?_, fun left c more line => ?_, fun line free => ⟨fun none' => ?_, fun m found =>
      ⟨fun collects short => ?_, fun hunts defers short => ?_, fun hunts rests resting short => ?_,
        fun hunts rests over' => ?_⟩⟩⟩
  · exact congrArg (fun b : Bus => { b with
      line := (tickBus u).line, idle := (tickBus u).idle, driven := (tickBus u).driven }) bus
  · show (tickBus u).driven = _
    rw [← silent stands]
    rcases stands with other | none'
    · exact if_neg (tx ▸ other)
    · rw [tickBus, frame, none']
      exact ite_self _
  · show (tickBus u).driven = _
    have grows : (tickBus u).driven = drivenStep u.announcer.frame u.bus.driven := if_pos (tx.trans sending)
    rw [grows, frame, found, sends sending f found below, drivenStep_runs]
  · exact (if_neg fun h => h.2 (tx.trans sending)).trans (still sending)
  · show tickLine u.bus.line = _
    rw [quiet line, tickLine]
  · obtain ⟨line', idle'⟩ := held line
    refine ⟨?_, (tickBus_idle_stands (by simp [line'])).trans idle'⟩
    show tickLine u.bus.line = _
    rw [line', tickLine]
  · obtain ⟨line', idle'⟩ := releasing left (by omega) line
    refine ⟨?_, (tickBus_idle_stands (by simp [line'])).trans idle'⟩
    show tickLine u.bus.line = _
    rw [line', tickLine_held (by omega), Nat.sub_sub]
  · obtain ⟨line', idle'⟩ := character left c (by omega) line
    refine ⟨?_, (tickBus_idle_stands (by simp [line'])).trans idle'⟩
    show tickLine u.bus.line = _
    rw [line', tickLine_character (by omega), Nat.sub_sub]
  all_goals
    obtain ⟨absent, grows⟩ := idle line free
    have counts : (tickBus u).idle = u.bus.idle.map (idleStep u) := if_pos ⟨quiet line, tx ▸ free⟩
    show (tickBus u).idle = _
    rw [counts]
  · rw [absent none']
    rfl
  · have waits : idlePoint s = some 1761 := if_pos collects
    rw [(grows m found).1 collects short, Option.map_some, idleStep_eq, point, waits]
    exact congrArg some (stepTo_min ..)
  · have waits : idlePoint s = some (if s.bus.rest = true then 26400 else (4 + s.loader.ownAddress) * 880) := by
      rw [idlePoint, if_neg (by simp [hunts]), if_pos defers]
    rw [(grows m found).2.1 hunts defers short, Option.map_some, idleStep_eq, point, waits]
    exact congrArg some (stepTo_min ..)
  · have waits : idlePoint s = some 26400 := by
      rw [idlePoint, if_neg (by simp [hunts]), if_neg rests, if_pos resting]
    rw [(grows m found).2.2.1 hunts rests resting short, Option.map_some, idleStep_eq, point, waits]
    exact congrArg some (stepTo_min ..)
  · have runs : idlePoint s = none := by
      rw [idlePoint, if_neg (by simp [hunts]), if_neg rests, if_neg (by simp [over'])]
    rw [(grows m found).2.2.2 hunts rests over', Option.map_some, idleStep_eq, point, runs]
    rfl

/-! ### Runs on an empty queue -/

theorem minus_none (o : Option ℕ) : o.map (· - 0) = o := by cases o <;> rfl

theorem timersRun_zero (s : State) : TimersRun 0 s s := by
  refine ⟨fun i => (minus_none _).symm, (minus_none _).symm, ?_, fun k => ?_, ?_⟩
  · simp only [minus_none]
  · cases s.peers.windows[k] <;> rfl
  · cases phase : s.loader.eeprom <;> simp only [Nat.sub_zero, Nat.add_zero, ← phase]

theorem monitorsRun_zero (s : State) : MonitorsRun 0 s s := by
  intro i phase elapsed
  simp only [Nat.add_zero, Nat.min_eq_right phase, Nat.min_eq_right elapsed, ite_self]

theorem wtrRuns_zero (limit : ℕ) (w : Wtr) : WtrRuns 0 limit w w := by
  cases w with
  | running cycles => exact fun below => congrArg Wtr.running (by omega)
  | none | served | met | waived => rfl

theorem agesRun_zero (s : State) : AgesRun 0 s s := by
  refine ⟨fun i => ⟨wtrRuns_zero .., rfl⟩, rfl, fun _ => rfl, fun _ _ => ⟨by omega, .inl rfl, fun _ _ h => h⟩, fun _ => rfl,
    fun _ _ => ⟨fun _ => by omega, fun _ _ _ _ => by omega⟩, rfl, fun k => ⟨id, fun e found below => ?_⟩⟩
  rw [Nat.add_zero, Nat.min_eq_right (by omega)]
  exact found

theorem idleRuns_zero (s : State) : IdleRuns 0 s s := by
  refine ⟨rfl, fun _ => rfl, fun _ f _ below => ?_, fun _ => rfl, id, fun h => ⟨h, rfl⟩, fun _ _ h => ⟨h, rfl⟩,
    fun _ _ _ h => ⟨h, rfl⟩, fun _ _ => ⟨id, fun m found => ⟨fun _ short => ?_, fun _ _ short => ?_,
      fun _ _ _ short => ?_, fun _ _ _ => found⟩⟩⟩
  · rw [Nat.add_zero, Nat.min_eq_right below]
  all_goals
    rw [Nat.add_zero, Nat.min_eq_right short]
    exact found

theorem Idled.zero (open' : s.hold = none) (empty : s.pending = []) (phase : s.log.phase < 20000000) :
    Idled 0 s s where
  hold := open'
  pending := empty
  cause := rfl
  pins := rfl
  selector := rfl
  port := rfl
  clock := (Nat.add_zero _).symm
  phase := phase
  entries := ⟨rfl, rfl⟩
  timers := timersRun_zero s
  monitors := monitorsRun_zero s
  ages := agesRun_zero s
  idle := idleRuns_zero s

theorem Idled.tick (open' : s.hold = none)
    (bound : s.log.uptime * 20000000 + s.log.phase + n + 1 < 4294967296 * 20000000) (idled : Idled n s u) :
    Idled (n + 1) s (tick u) := by
  have before := idled.clock
  have phase := idled.phase
  have room : u.log.uptime * 20000000 + u.log.phase + 1 < 4294967296 * 20000000 := by
    rw [before]
    exact bound
  obtain ⟨clock, phase', uptime, records, overflow⟩ := tickLog_counts phase room
  have grown : s.log.uptime ≤ u.log.uptime := by
    clear bound room
    omega
  have log : (Machine.tick u).log = tickLog u.log := by rw [tick_open idled.hold]
  have same := tick_open idled.hold
  constructor
  case hold => rw [same, ← idled.hold]
  case pending => rw [same, ← idled.pending]
  case cause => rw [same, ← idled.cause]
  case pins => rw [same, ← idled.pins]
  case selector => rw [same, ← idled.selector]
  case port => rw [same, ← idled.port]
  case clock => rw [log, clock, before, Nat.add_assoc]
  case phase => rw [log]; exact phase'
  case entries => rw [log, records, overflow]; exact idled.entries
  case timers => exact timersRun_tick idled.hold idled.timers
  case monitors => exact monitorsRun_tick idled.hold idled.monitors
  case ages => exact agesRun_tick open' idled uptime grown
  case idle => exact idleRuns_tick idled

theorem step_empty (empty : s.pending = []) : step s = .next (tick s) := by rw [step, empty]

theorem core_run_snoc (M : Host.Core) (n : ℕ) {s t t' : M.State} (run : M.run n s = .next t)
    (last : M.step t = .next t') : M.run (n + 1) s = .next t' := by
  induction n generalizing s with
  | zero =>
    obtain rfl : s = t := Host.Outcome.next.inj run
    rw [Host.Core.run, last]
    rfl
  | succ n ih =>
    rw [Host.Core.run] at run ⊢
    cases first : M.step s with
    | next u =>
      rw [first] at run
      exact ih run
    | fault r => rw [first] at run; cases run
    | refused r => rw [first] at run; cases run

theorem run_snoc (n : ℕ) {t t' : State} (run : Host.Core.run Sys2Proof.core n s = .next t) (last : step t = .next t') :
    Host.Core.run Sys2Proof.core (n + 1) s = .next t' :=
  core_run_snoc Sys2Proof.core n run last

/-- A run of `n` steps on an empty queue is `n` cycles. -/
theorem run_idled (open' : s.hold = none) (empty : s.pending = []) (phase : s.log.phase < 20000000) (n : ℕ)
    (bound : s.log.uptime * 20000000 + s.log.phase + n < 4294967296 * 20000000) :
    ∃ t, Host.Core.run Sys2Proof.core n s = .next t ∧ Idled n s t := by
  induction n with
  | zero => exact ⟨s, rfl, .zero open' empty phase⟩
  | succ n ih =>
    rw [← Nat.add_assoc] at bound
    obtain ⟨t, run, idled⟩ := ih ((Nat.lt_succ_self _).trans bound)
    exact ⟨tick t, run_snoc n run (step_empty idled.pending), idled.tick open' bound⟩

end

end Sys2Proof.Machine

open Sys2Proof Sys2Proof.Machine

/-- Settles O2, by induction on the cycles. -/
theorem uptimeCountsSeconds : Obligations.UptimeCountsSeconds := by
  intro n s
  refine ⟨fun held empty => ?_, fun open' empty phase bound => ?_⟩
  · rw [step_empty empty, tick_of_hold (Option.isSome_iff_ne_none.2 held)]
  · obtain ⟨t, run, idled⟩ := run_idled open' empty phase n bound
    exact ⟨t, run, idled.clock, idled.phase, idled.entries.1, idled.entries.2, idled.pending, idled.hold, idled.cause,
      idled.pins, idled.selector, idled.port, idled.timers, idled.monitors, idled.ages, idled.idle⟩

end

section
/-! PROOF. START (O47): the state in which its evaluation decides, on which the Selector has nothing to do, unit by unit,
and what the event records. -/

namespace Sys2Proof.Machine

section

variable {s t : State} {i : Inp} {held : Option Nat}

/-! ### The inputs (R68) -/

/-- What START makes of a used input's record, with its notice. -/
def startedMove (s : State) (i : Inp) : InputRec × Notice :=
  (recordAtStart (inputCfg s i)).move (inputCfg s i) false
    (reasonsAtStart (monitorAtStart s.monitors[i] (inputCfg s i)).signal (recordAtStart (inputCfg s i)))

/-- The reasons that a used input starts with. -/
abbrev startReasons (s : State) (i : Inp) : Reasons :=
  reasonsAtStart (monitorAtStart s.monitors[i] (inputCfg s i)).signal (recordAtStart (inputCfg s i))

theorem recordAtStart_used {c : InputCfg} (used : c.use ≠ .off) : recordAtStart c = { InputRec.init with
    state := .proving, wtr := .waived, raw := rawAtStart c, effective := max (rawAtStart c) c.ceiling } := if_neg used

theorem startedMove_free (used : (inputCfg s i).use ≠ .off) (free : startReasons s i = Reasons.empty) :
    startedMove s i = (recordAtStart (inputCfg s i), .nothing) := by
  have proving : (recordAtStart (inputCfg s i)).state = .proving := by rw [recordAtStart_used used]
  rw [startedMove, ← startReasons, free, InputRec.move_proving proving, InputRec.promote_waits (.inl rfl)]

theorem startedMove_barred (used : (inputCfg s i).use ≠ .off) (reasons : startReasons s i ≠ Reasons.empty) :
    startedMove s i = ((recordAtStart (inputCfg s i)).barredBy (startReasons s i), .barred) := by
  have proving : (recordAtStart (inputCfg s i)).state = .proving := by rw [recordAtStart_used used]
  rw [startedMove, InputRec.move_barring (recordAtStart_lawful _) (by simp [proving]) reasons (.inr (.inl proving)),
    if_neg (by simp [proving])]

/-- A state whose inputs still have their START units to begin with. -/
theorem qualify_started (same : SameBeside (startUnits held s) t)
    (record : t.records[i] = (startUnits held s).records[i]) :
    t.records[i].move (inputCfg t i) (windowFull t i) (reasonsAtStart t.monitors[i].signal t.records[i]) =
      startedMove s i := by
  have empty : windowFull (startUnits held s) i = false := by
    simp [windowFull, startUnits_monitors, monitorAtStart_window, -Fin.getElem_fin]
  rw [record, same.windowFull_eq, empty, inputCfg_congr same.loader, same.monitors, startUnits_get, startUnits_monitors]
  rfl

/-- What START records of input `i`. -/
def startNotices (s : State) (i : Inp) : List LogEntry :=
  if (inputCfg s i).use = .off then [] else noticeEntries i (startedMove s i).1 (startedMove s i).2

/-- The state with its units started and STARTED recorded. -/
abbrev startBegun (held : Option Nat) (s : State) : State := logStarted (startUnits held s)

theorem startBegun_beside (held : Option Nat) (s : State) : SameBeside (startUnits held s) (startBegun held s) :=
  ⟨by simp [logStarted], by simp [logStarted], by simp [logStarted]⟩

theorem startBegun_record (held : Option Nat) (s : State) (i : Inp) :
    (startBegun held s).records[i] = recordAtStart (inputCfg s i) := by
  rw [startBegun, logStarted, logEvent_records, startUnits_get]

theorem startBegun_used (held : Option Nat) (s : State) (i : Inp) :
    used (startBegun held s) i = true ↔ (inputCfg s i).use ≠ .off := used_iff ..

theorem startBegun_move (held : Option Nat) (s : State) (i : Inp) :
    (startBegun held s).records[i].move (inputCfg (startBegun held s) i) (windowFull (startBegun held s) i)
      (reasonsAtStart (startBegun held s).monitors[i].signal (startBegun held s).records[i]) = startedMove s i :=
  qualify_started (startBegun_beside held s) (by rw [startBegun_record, startUnits_get])

/-- The record of an input when START's evaluation decides. -/
theorem startReady_record (held : Option Nat) (s : State) (i : Inp) : (startReady held s).records[i] =
    if (inputCfg s i).use = .off then InputRec.init else (startedMove s i).1 := by
  rw [startReady, warmupAtStart_records, startInputs_get, startInput]
  by_cases off : (inputCfg s i).use = .off
  · rw [if_neg (mt (startBegun_used held s i).1 (by simpa using off)), if_pos off, startBegun_record, recordAtStart,
      if_pos off]
  · rw [if_pos ((startBegun_used held s i).2 off), if_neg off, qualify_self, startBegun_move]

/-! ### The log (R64, R107, R175) -/

/-- What the move of input `i` records, on the state as it stands. -/
def inputNotices (t : State) (i : Inp) : List LogEntry :=
  if used t i then
    noticeEntries i
      (t.records[i].move (inputCfg t i) (windowFull t i) (reasonsAtStart t.monitors[i].signal t.records[i])).1
      (t.records[i].move (inputCfg t i) (windowFull t i) (reasonsAtStart t.monitors[i].signal t.records[i])).2
  else []

theorem startInput_entries (i : Inp) (t : State) : (startInput i t).log = t.log.appendAll (inputNotices t i) := by
  unfold startInput inputNotices
  split
  · exact qualify_entries ..
  · rfl

theorem inputNotices_begun (held : Option Nat) (s : State) (i : Inp) :
    inputNotices (startBegun held s) i = startNotices s i := by
  unfold inputNotices startNotices
  rw [startBegun_move]
  by_cases off : (inputCfg s i).use = .off
  · rw [if_neg (mt (startBegun_used held s i).1 (by simpa using off)), if_pos off]
  · rw [if_pos ((startBegun_used held s i).2 off), if_neg off]

theorem startInputs_entries (held : Option Nat) (s : State) : (startInputs (startBegun held s)).log =
    (startBegun held s).log.appendAll ((List.finRange 6).flatMap (startNotices s)) := by
  rw [show startNotices s = inputNotices (startBegun held s) from funext fun i => (inputNotices_begun held s i).symm]
  exact startInput_movesOne.entries startInput_entries
    (fun i u v beside record => by
      have used : used v i = used u i := by simp only [used, inputCfg_congr beside.loader]
      simp only [inputNotices, used, record, inputCfg_congr beside.loader, beside.windowFull_eq, beside.monitors])
    (List.finRange 6) _ (List.nodup_finRange 6)

/-- What the end of warm-up in the START event records. -/
def warmupEntries (s : State) : List LogEntry :=
  if s.follower.warm = true ∧ (cfg s).warmup ≤ s.follower.warmCount then
    [(.warmupDone, (cfg s).warmup / 256, (cfg s).warmup % 256)] else []

theorem warmupAtStart_entries (t : State) : (warmupAtStart t).log = t.log.appendAll (warmupEntries t) := by
  unfold warmupAtStart warmupEntries
  split
  · rw [clearWarmup_eq]
    rfl
  · rfl

/-! ### The Selector and the Output Follower (R91, R113) -/

/-- An input that is neither ACTIVE nor SUSPECT moves without the shelf. -/
theorem qualify_quiet {x : Reasons} (idle : t.records[i].state ≠ .active ∧ t.records[i].state ≠ .suspect) :
    (qualify i x t).selector = t.selector ∧ (qualify i x t).follower = t.follower := by
  have inactive : t.records[i].isActive = false := by simp [InputRec.isActive, idle, -Fin.getElem_fin]
  rw [qualify_eq, applyMove_eq, followMove_quiet (fun h => idle.1 h.1) (fun h => idle.2 h.1)
    (fun h => by simp [inactive, -Fin.getElem_fin] at h)]
  exact ⟨by simp, by simp⟩

theorem startInput_quiet (idle : t.records[i].state ≠ .active ∧ t.records[i].state ≠ .suspect) :
    (startInput i t).selector = t.selector ∧ (startInput i t).follower = t.follower := by
  unfold startInput
  split
  · exact qualify_quiet idle
  · exact ⟨rfl, rfl⟩

theorem startList_quiet : ∀ (inputs : List Inp) {t : State}, inputs.Nodup →
    (∀ i ∈ inputs, t.records[i].state ≠ .active ∧ t.records[i].state ≠ .suspect) →
    (inputs.foldl (fun u i => startInput i u) t).selector = t.selector ∧
      (inputs.foldl (fun u i => startInput i u) t).follower = t.follower
  | [], _, _, _ => ⟨rfl, rfl⟩
  | i :: inputs, t, distinct, idle => by
    obtain ⟨absent, distinct'⟩ := List.nodup_cons.mp distinct
    obtain ⟨selector, follower⟩ := startInput_quiet (idle i List.mem_cons_self)
    have rest := startList_quiet inputs (t := startInput i t) distinct' fun j member => by
      have other : i ≠ j := fun same => absent (same ▸ member)
      rw [startInput_get_of_ne other]
      exact idle j (List.mem_cons_of_mem i member)
    rw [List.foldl_cons]
    exact ⟨rest.1.trans selector, rest.2.trans follower⟩

theorem startInputs_quiet (held : Option Nat) (s : State) :
    (startInputs (startBegun held s)).selector = Selector.init ∧
      (startInputs (startBegun held s)).follower = followerAtStart s.follower :=
  startList_quiet _ (List.nodup_finRange 6) fun i _ => by
    rw [startBegun_record, recordAtStart_state]
    split <;> simp

theorem startReady_selector (held : Option Nat) (s : State) : (startReady held s).selector = Selector.init := by
  rw [startReady, warmupAtStart_selector]
  exact (startInputs_quiet held s).1

/-- The end of warm-up at START touches no more of the output than its warm-up. -/
theorem warmupAtStart_follower (t : State) : (warmupAtStart t).follower.output = t.follower.output ∧
    (warmupAtStart t).follower.settle = t.follower.settle ∧
    ((warmupAtStart t).follower.warm = true ↔ t.follower.warm = true ∧ t.follower.warmCount < (cfg t).warmup) := by
  unfold warmupAtStart
  split
  next over' =>
    rw [clearWarmup_eq]
    exact ⟨rfl, rfl, iff_of_false Bool.false_ne_true fun h => absurd over'.2 (by omega)⟩
  next runs => exact ⟨rfl, rfl, fun h => ⟨h, by simpa [h] using runs⟩, And.left⟩

theorem startInputs_warmup (held : Option Nat) (s : State) :
    (cfg (startInputs (startBegun held s))).warmup = s.loader.buffer.warmup := by
  simp [cfg, logStarted, startUnits]

theorem startReady_follower (held : Option Nat) (s : State) :
    (startReady held s).follower.output = .freeRun ∧ (startReady held s).follower.settle = none ∧
    ((startReady held s).follower.warm = true ↔
      s.follower.warm = true ∧ s.follower.warmCount < s.loader.buffer.warmup) := by
  have warmed := warmupAtStart_follower (startInputs (startBegun held s))
  rw [startInputs_warmup, (startInputs_quiet held s).2] at warmed
  rw [startReady]
  generalize warmupAtStart (startInputs (logStarted (startUnits held s))) = ready at warmed ⊢
  exact warmed

theorem startInputs_warmupEntries (held : Option Nat) (s : State) : warmupEntries (startInputs (startBegun held s)) =
    if s.follower.warm = true ∧ s.loader.buffer.warmup ≤ s.follower.warmCount then
      [(.warmupDone, s.loader.buffer.warmup / 256, s.loader.buffer.warmup % 256)] else [] := by
  rw [warmupEntries, startInputs_warmup, (startInputs_quiet held s).2]
  rfl

/-- With nothing to choose from and no value, START's evaluation moves nothing. -/
theorem startPart_unmoved (held : Option Nat) (s : State) : startPart held s = syncWant (startReady held s) := by
  have selector := startReady_selector held s
  have active : (startReady held s).selector.active = none := by rw [selector]; rfl
  have unforced : (startReady held s).selector.force = .none := by rw [selector]; rfl
  have output := (startReady_follower held s).1
  have best : bestInput (startReady held s) = none := (bestInput_eq_none_iff _).2 fun j inSet => by
    have fit := eligible_fit ((eligible_iff _ j).2 inSet)
    rw [startReady_unfit] at fit
    cases fit
  have decides : decided (startReady held s) = .freeRun := by
    rw [decided_own unforced best active (.inl output), sourceOf, active, output]
    rfl
  have still : carryOut none (decided (startReady held s)) (startReady held s) = startReady held s := by
    rw [decides, carryOut, if_pos ⟨active, output⟩]
  rw [startPart_eq, evaluate_fst, still, if_neg (by simp)]

theorem startPart_record (held : Option Nat) (s : State) (i : Inp) : (startPart held s).records[i] =
    if (inputCfg s i).use = .off then InputRec.init else (startedMove s i).1 := by
  rw [startPart_unmoved, syncWant_records, startReady_record]

theorem startPart_log (held : Option Nat) (s : State) : (startPart held s).log = s.log.appendAll
    ((.started, s.loader.viaPort.toNat, s.loader.clampCount) :: (List.finRange 6).flatMap (startNotices s) ++
      warmupEntries (startInputs (startBegun held s))) := by
  rw [startPart_unmoved, syncWant_log, startReady, warmupAtStart_entries, startInputs_entries, List.cons_append,
    EventLog.appendAll_cons, EventLog.appendAll_append]
  rfl

/-! ### Each input (R22, R68) -/

/-- The reasons of R68 are hard when SIGNAL is among them. -/
theorem reasonsAtStart_hard (signal : Bool) (r : InputRec) : (reasonsAtStart signal r).hard = signal := by
  simp [reasonsAtStart, Reasons.hard, Reasons.empty]

/-- R68: a used input starts in PROVING with no reason, and BARRED with any. -/
theorem startPart_used (used : (inputCfg s i).use ≠ .off) :
    (startPart held s).records[i] = recordAtStart (inputCfg s i) ∧ startReasons s i = Reasons.empty ∨
    (startPart held s).records[i] = (recordAtStart (inputCfg s i)).barredBy (startReasons s i) ∧
      startReasons s i ≠ Reasons.empty := by
  rw [startPart_record, if_neg used]
  by_cases free : startReasons s i = Reasons.empty
  · exact .inl ⟨by rw [startedMove_free used free], free⟩
  · exact .inr ⟨by rw [startedMove_barred used free], free⟩

theorem startPart_state_reasons (used : (inputCfg s i).use ≠ .off) :
    ((startPart held s).records[i].state = .proving ∧ (startPart held s).records[i].wtr = .waived ∧
        (startPart held s).records[i].reasons = Reasons.empty ∨
      (startPart held s).records[i].state = .barred ∧ (startPart held s).records[i].reasons ≠ Reasons.empty) ∧
    (startPart held s).records[i].reasons = startReasons s i := by
  rcases startPart_used (held := held) used with ⟨record, free⟩ | ⟨record, reasons⟩
  · rw [record, free, recordAtStart_used used]
    exact ⟨.inl ⟨rfl, rfl, rfl⟩, rfl⟩
  · rw [record]
    exact ⟨.inr ⟨rfl, reasons⟩, rfl⟩

theorem startPart_grade (used : (inputCfg s i).use ≠ .off) :
    (startPart held s).records[i].raw = rawAtStart (inputCfg s i) ∧
    (startPart held s).records[i].effective = max (rawAtStart (inputCfg s i)) (inputCfg s i).ceiling ∧
    (startPart held s).records[i].hop = 0 ∧ (startPart held s).records[i].path = [] ∧
    (startPart held s).records[i].hardSeen = (monitorAtStart s.monitors[i] (inputCfg s i)).signal := by
  have hard : (startReasons s i).hard = (monitorAtStart s.monitors[i] (inputCfg s i)).signal := reasonsAtStart_hard ..
  rcases startPart_used (held := held) used with ⟨record, free⟩ | ⟨record, reasons⟩
  · rw [free] at hard
    rw [record, recordAtStart_used used, ← hard]
    exact ⟨rfl, rfl, rfl, rfl, rfl⟩
  · rw [record, InputRec.barredBy, hard, recordAtStart_used used]
    exact ⟨rfl, rfl, rfl, rfl, rfl⟩

/-- What START records of an input is whether it is left BARRED. -/
theorem startNotices_eq (held : Option Nat) (s : State) (i : Inp) : startNotices s i =
    if (startPart held s).records[i].state = .barred then
      [(.inputBarred, inputNumber i, (startPart held s).records[i].reasons.bits)] else [] := by
  rw [startNotices, startPart_record]
  by_cases off : (inputCfg s i).use = .off
  · rw [if_pos off, if_pos off]
    rfl
  · rw [if_neg off, if_neg off]
    by_cases free : startReasons s i = Reasons.empty
    · rw [startedMove_free off free, recordAtStart_used off]
      rfl
    · rw [startedMove_barred off free]
      rfl

theorem monitorAtStart_off {m : Monitor} {c : InputCfg} (off : c.use = .off) :
    (monitorAtStart m c).gate.run = false ∧ (monitorAtStart m c).signal = false := by
  rw [monitorAtStart, if_pos off]
  exact ⟨rfl, rfl⟩

theorem monitorAtStart_used {m : Monitor} {c : InputCfg} (used : c.use ≠ .off) :
    (monitorAtStart m c).losCause = losAsserted c.losMode m.losLevel ∧
    (monitorAtStart m c).activityCause = !m.present ∧
    (monitorAtStart m c).signal = ((monitorAtStart m c).losCause || (monitorAtStart m c).activityCause) ∧
    (monitorAtStart m c).gate.run = !(monitorAtStart m c).signal := by
  rw [monitorAtStart, if_neg used]
  dsimp only
  split
  next arisen => exact ⟨rfl, rfl, rfl, by rw [arisen]; rfl⟩
  next clear => exact ⟨rfl, rfl, rfl, by simp [beginGate, Gate.begun, clear]⟩

theorem monitorAtStart_detectors (m : Monitor) (c : InputCfg) :
    (monitorAtStart m c).window = [] ∧ (monitorAtStart m c).lastOffset = none ∧ (monitorAtStart m c).freq = false ∧
    (monitorAtStart m c).losLevel = m.losLevel ∧ (monitorAtStart m c).present = m.present ∧
    (monitorAtStart m c).losCount = m.losCount ∧ (monitorAtStart m c).activityRun = m.activityRun := by
  unfold monitorAtStart
  dsimp only
  repeat' split
  all_goals exact ⟨rfl, rfl, rfl, rfl, rfl, rfl, rfl⟩

/-! ### The records of the event -/

theorem flatMap_ite_singleton {α β : Type} (p : α → Prop) [DecidablePred p] (f : α → β) (l : List α) :
    (l.flatMap fun a => if p a then [f a] else []) = (l.filter p).map f := by
  induction l with
  | nil => rfl
  | cons a l ih => by_cases h : p a <;> simp [h, ih]

theorem startPart_records (held : Option Nat) (empty : s.log.records = []) : (startPart held s).log.records =
    [{ uptime := s.log.uptime, kind := .started, arg1 := BitVec.ofNat 8 s.loader.viaPort.toNat
       arg2 := BitVec.ofNat 8 s.loader.clampCount }] ++
    barRecords s (startPart held s)
      ((List.finRange 6).filter fun i : Inp => (startPart held s).records[i].state = .barred) ++
    (if s.follower.warm = true ∧ s.loader.buffer.warmup ≤ s.follower.warmCount then
      [{ uptime := s.log.uptime, kind := .warmupDone, arg1 := BitVec.ofNat 8 (s.loader.buffer.warmup / 256)
         arg2 := BitVec.ofNat 8 (s.loader.buffer.warmup % 256) }] else []) := by
  have notices : (List.finRange 6).flatMap (startNotices s) =
      ((List.finRange 6).filter fun i : Inp => (startPart held s).records[i].state = .barred).map fun i =>
        (.inputBarred, inputNumber i, (startPart held s).records[i].reasons.bits) := by
    rw [← flatMap_ite_singleton, show startNotices s = _ from funext (startNotices_eq held s)]
  rw [startPart_log, startInputs_warmupEntries, notices]
  generalize startPart held s = v
  have few : ((List.finRange 6).filter fun i : Inp => v.records[i].state = .barred).length ≤ 6 :=
    (List.length_filter_le ..).trans (by simp)
  rw [EventLog.appendAll_fits, empty, List.nil_append, List.map_append, List.map_cons, List.map_map]
  · split <;> rfl
  · simp only [empty, List.length_nil, List.length_append, List.length_cons, List.length_map]
    split <;> simp only [List.length_cons, List.length_nil] <;> omega

/-! ### The units together -/

/-- What START makes of every unit but the loader and the port, from `s` to `t`. -/
def StartMade (held : Option Nat) (s t : State) : Prop :=
  t.announcer = { mode := .announcing, last := none, periodicFlag := false, eventFlag := true, queryFlag := false
                  periodicTimer := none, spacingTimer := some 5000000, seq := 0, restart := true, queries := [0]
                  frame := none, withdrawWait := none, waitOver := false } ∧
  t.bus = { rx := .hunt, tx := .deferring, line := if held = some 0 then .quiet else .heldActive held
            idle := some 0, driven := 0, rest := false, clashRun := 0, duplicate := false, intact := 0, bad := 0
            clashes := 0, sent := 0 } ∧
  t.selector.active = none ∧ t.selector.force = .none ∧ t.follower.output = .freeRun ∧
  t.follower.value.valid = false ∧ t.follower.history = [] ∧ t.follower.settle = none ∧
  (t.follower.warm = true ↔ s.follower.warm = true ∧ s.follower.warmCount < (cfg t).warmup) ∧
  (∀ k : Slot, t.peers.entries[k] = none ∧ t.peers.windows[k] = none) ∧
  (∀ i : Inp, (inputCfg t i).use = .off → t.records[i].state = .off ∧ t.monitors[i].gate.run = false ∧
    t.monitors[i].signal = false) ∧
  (∀ i : Inp, (inputCfg t i).use ≠ .off →
    (t.records[i].state = .proving ∧ t.records[i].wtr = .waived ∧ t.records[i].reasons = Reasons.empty ∨
      t.records[i].state = .barred ∧ t.records[i].reasons ≠ Reasons.empty) ∧
    (t.monitors[i].losCause = true ↔ (inputCfg t i).losMode = .activeHigh ∧ s.monitors[i].losLevel = true ∨
      (inputCfg t i).losMode = .activeLow ∧ s.monitors[i].losLevel = false) ∧
    (t.monitors[i].activityCause = true ↔ s.monitors[i].present = false) ∧
    (t.monitors[i].signal = true ↔ t.monitors[i].losCause = true ∨ t.monitors[i].activityCause = true) ∧
    (t.records[i].reasons.signal = true ↔ t.monitors[i].signal = true) ∧
    t.records[i].effective = max t.records[i].raw (inputCfg t i).ceiling ∧ t.records[i].hop = 0 ∧
    t.records[i].path = [] ∧
    t.records[i].hardSeen = t.monitors[i].signal ∧ t.monitors[i].gate.run = !t.monitors[i].signal ∧
    t.records[i].raw = (if (inputCfg t i).use = .fixed then (inputCfg t i).fixedGrade else 15) ∧
    (t.records[i].reasons.grade = true ↔ t.records[i].effective = 15)) ∧
  (∀ i : Inp, t.monitors[i].window = [] ∧ t.monitors[i].lastOffset = none ∧ t.monitors[i].freq = false ∧
    t.monitors[i].losLevel = s.monitors[i].losLevel ∧ t.monitors[i].present = s.monitors[i].present ∧
    t.monitors[i].losCount = s.monitors[i].losCount ∧ t.monitors[i].activityRun = s.monitors[i].activityRun) ∧
  t.hold = none ∧ t.cause = s.cause ∧ t.pins = s.pins ∧ t.pending = s.pending

theorem startPart_used_input (used : (inputCfg s i).use ≠ .off) :
    ((startPart held s).records[i].state = .proving ∧ (startPart held s).records[i].wtr = .waived ∧
        (startPart held s).records[i].reasons = Reasons.empty ∨
      (startPart held s).records[i].state = .barred ∧ (startPart held s).records[i].reasons ≠ Reasons.empty) ∧
    ((startPart held s).monitors[i].losCause = true ↔
      (inputCfg s i).losMode = .activeHigh ∧ s.monitors[i].losLevel = true ∨
      (inputCfg s i).losMode = .activeLow ∧ s.monitors[i].losLevel = false) ∧
    ((startPart held s).monitors[i].activityCause = true ↔ s.monitors[i].present = false) ∧
    ((startPart held s).monitors[i].signal = true ↔ (startPart held s).monitors[i].losCause = true ∨
      (startPart held s).monitors[i].activityCause = true) ∧
    ((startPart held s).records[i].reasons.signal = true ↔ (startPart held s).monitors[i].signal = true) ∧
    (startPart held s).records[i].effective = max (startPart held s).records[i].raw (inputCfg s i).ceiling ∧
    (startPart held s).records[i].hop = 0 ∧ (startPart held s).records[i].path = [] ∧
    (startPart held s).records[i].hardSeen = (startPart held s).monitors[i].signal ∧
    (startPart held s).monitors[i].gate.run = !(startPart held s).monitors[i].signal ∧
    (startPart held s).records[i].raw =
      (if (inputCfg s i).use = .fixed then (inputCfg s i).fixedGrade else 15) ∧
    ((startPart held s).records[i].reasons.grade = true ↔ (startPart held s).records[i].effective = 15) := by
  obtain ⟨state, reasons⟩ := startPart_state_reasons (held := held) used
  obtain ⟨raw, effective, hop, path, hard⟩ := startPart_grade (held := held) used
  obtain ⟨los, activity, signal, gate⟩ := monitorAtStart_used (m := s.monitors[i]) used
  rw [startPart_monitors]
  refine ⟨state, by rw [los]; exact losAsserted_iff .., by rw [activity, Bool.not_eq_true'], by rw [signal, Bool.or_eq_true],
    ?_, by rw [effective, raw], hop, path, hard, gate, raw, ?_⟩
  · rw [reasons]
    rfl
  · rw [reasons, effective, startReasons, reasonsAtStart, recordAtStart_used used]
    exact decide_eq_true_iff

theorem startPart_made (held : Option Nat) (open' : s.hold = none) : StartMade held s (startPart held s) := by
  obtain ⟨history, value⟩ := startPart_history_value held s
  have follower : (startPart held s).follower = (startReady held s).follower := by
    rw [startPart_unmoved, syncWant_follower]
  have selector : (startPart held s).selector = Selector.init := by
    rw [startPart_unmoved, syncWant_selector, startReady_selector]
  have config := startPart_inputCfg held s
  have warmup : (cfg (startPart held s)).warmup = s.loader.buffer.warmup := by simp [cfg]
  obtain ⟨output, settle, warm⟩ := startReady_follower held s
  simp only [StartMade, config]
  refine ⟨startPart_announcer held s, startPart_bus held s, by rw [selector]; rfl, by rw [selector]; rfl,
    by rw [follower, output], by rw [value]; rfl, history, by rw [follower, settle], by rw [follower, warmup, warm],
    fun k => ?_, fun i off => ?_, fun i used => ?_, fun i => ?_, (startPart_hold held s).trans open', startPart_cause held s,
    startPart_pins held s, startPart_pending held s⟩
  · rw [startPart_peers]
    simp [PeerTable.init]
  · rw [startPart_record, startPart_monitors, if_pos off]
    exact ⟨rfl, monitorAtStart_off off⟩
  · have input := startPart_used_input (held := held) used
    generalize startPart held s = v at input ⊢
    exact input
  · rw [startPart_monitors]
    exact monitorAtStart_detectors ..

/-- The loader that holds the image changes nothing of what START makes, nor does the answer at the port. -/
theorem StartMade.with {t : State} {l : Loader} (p : Port) (made : StartMade held (s.withLoader l) t) :
    StartMade held s (t.withPort p) := made

/-- The START command and the image read by an attempt, each as the start of the part from a state that holds an image. -/
theorem start_eq (open' : s.hold = none) (waits : s.loader.partState = .awaitImage) (holds : s.loader.held = true) :
    exec (.start held) s = .next (answer 0 [resDone] (startPart held s)) := by
  have can : startable s = true := by simp [startable, waits, holds]
  show Host.Outcome.next _ = _
  rw [if_pos ((portOpen_iff s).mpr open'), if_pos can, if_pos can]

theorem start_refused (open' : s.hold = none) (refuses : s.loader.partState ≠ .awaitImage ∨ s.loader.held = false) :
    exec (.start held) s = .next { s with port := answeredPort s.port [0x00, 0xA1] } := by
  have cannot : ¬startable s = true := by
    rcases refuses with h | h <;> simp [startable, h]
  show Host.Outcome.next _ = _
  rw [if_pos ((portOpen_iff s).mpr open'), if_neg cannot, if_neg cannot]
  rfl

/-- The state from which a valid EEPROM image starts the part. -/
def imageHeld (image : List Byte) (s : State) : State :=
  holdImage false (clampImage s.loader.ownAddress image).1 (clampImage s.loader.ownAddress image).2
    (transferred (readTransfer image) s)

theorem eepromStart_eq {image : List Byte} {n elapsed : Nat} (open' : s.hold = none)
    (loading : s.loader.partState = .loading) (attempt : s.loader.eeprom = .attempt n elapsed)
    (long : 203400 ≤ elapsed) (whole : image.length = 110) (signature : byteAt image 0 = 0xB4)
    (format : byteAt image 1 = 0x01) :
    exec (.eepromReadDone image held) s = .next (startPart held (imageHeld image s)) := by
  rw [eepromReadDone_eq held open' loading attempt long whole, imageRead]
  have good : validateImage (transferred (readTransfer image) s).loader.ownAddress image =
      .ok (clampImage s.loader.ownAddress image) := validateImage_good signature format
  rw [good]
  rfl

/-- Right after a release no attempt has lasted as long as a transfer (R168, R176). -/
theorem released_attempt {kind : ResetKind} {pins : Pins} (released : JustReleased kind pins s) :
    attemptLasting readTime s = none := by
  obtain ⟨-, -, -, -, ⟨fault, good, -⟩, -⟩ := released
  refine Option.eq_none_iff_forall_ne_some.mpr fun m lasting => ?_
  obtain ⟨-, loading, elapsed, attempt, long⟩ := (attemptLasting_eq_some ..).mp lasting
  by_cases station : 1 ≤ pins.addrStrap.toNat ∧ pins.addrStrap.toNat ≤ 24
  · obtain ⟨-, -, reads, waits⟩ := good station
    cases mode : pins.controllerMode with
    | false =>
      obtain ⟨-, first⟩ := reads mode
      rw [first] at attempt
      cases attempt
      exact absurd long (by decide)
    | true => simp [(waits mode).1] at loading
  · simp [(fault (by omega)).1] at loading

theorem eepromReadDone_early {image : List Byte} (none : attemptLasting readTime s = none) :
    exec (.eepromReadDone image held) s = .next s := by
  show Host.Outcome.next _ = _
  rw [if_neg (by simp [none])]

end
end Sys2Proof.Machine

open Sys2Proof Sys2Proof.Machine

/-- Settles O47: both ways in start the part from a state that holds the image; what START makes of each unit follows. -/
theorem startStartsEveryUnit : Obligations.StartStartsEveryUnit := by
  intro c image held n elapsed s open'
  refine ⟨fun empty way => ?_, start_refused open', fun kind pins released => ?_⟩
  · rcases way with ⟨rfl, waits, holds⟩ | ⟨rfl, loading, attempt, -, long, whole, signature, format⟩
    · have on := startPart_running held s open'
      have made := startPart_made held open'
      have records := startPart_records held empty
      have loader := startPart_loader held s
      have port := startPart_port held s
      refine ⟨_, start_eq open' waits holds, ?_⟩
      generalize startPart held s = v at *
      have warmup : (cfg (answer 0 [resDone] v)).warmup = s.loader.buffer.warmup := congrArg (·.buffer.warmup) loader
      have count : (answer 0 [resDone] v).loader.clampCount = s.loader.clampCount := congrArg (·.clampCount) loader
      refine ⟨on, ?_, fun _ => ⟨loader, rfl⟩, fun other => absurd rfl other, made⟩
      rw [warmup, count, if_pos rfl]
      refine records.trans ?_
      cases s.loader.viaPort <;> rfl
    · have on := startPart_running held (imageHeld image s) open'
      have made := startPart_made held (s := imageHeld image s) open'
      have records := startPart_records held (s := imageHeld image s) empty
      have loader := startPart_loader held (imageHeld image s)
      have port := startPart_port held (imageHeld image s)
      refine ⟨_, eepromStart_eq open' loading attempt long whole signature format, ?_⟩
      generalize startPart held (imageHeld image s) = v at *
      have warmup : (cfg v).warmup = (imageHeld image s).loader.buffer.warmup := congrArg (·.buffer.warmup) loader
      have count : v.loader.clampCount = (imageHeld image s).loader.clampCount := congrArg (·.clampCount) loader
      refine ⟨on, ?_, fun same => (by cases same), fun _ => ⟨loader, port⟩, made⟩
      rw [warmup, count, if_neg (by simp)]
      exact records
  · obtain ⟨-, -, -, ⟨-, -, -, -, -, -, -, -, ⟨empty, -⟩, -⟩, -⟩ := id released
    exact ⟨eepromReadDone_early (released_attempt released), start_refused open' (.inr empty)⟩

end

section
/-! PROOF. The records byte by byte (O49): each number of a layout table is read back from the bytes of the record. -/

namespace Sys2Proof.Machine

section

variable {s : State}

/-! ### Numbers from their bytes (R186) -/

theorem be1_toNat (n : ℕ) : (BitVec.ofNat 8 n).toNat = n % 256 := BitVec.toNat_ofNat n 8

/-- A code of a table fits its byte. -/
theorem code_toNat {n : ℕ} (small : n < 256) : (BitVec.ofNat 8 n).toNat = n := byte_toNat small

theorem be2_toNat (n : ℕ) : (BitVec.ofNat 8 (n / 256)).toNat * 256 + (BitVec.ofNat 8 n).toNat = n % 65536 := by
  rw [be1_toNat, be1_toNat]
  omega

theorem be3_toNat (n : ℕ) : ((BitVec.ofNat 8 (n / 65536)).toNat * 256 + (BitVec.ofNat 8 (n / 256)).toNat) * 256 +
    (BitVec.ofNat 8 n).toNat = n % 16777216 := by
  rw [be1_toNat, be1_toNat, be1_toNat]
  omega

theorem be4_toNat (n : ℕ) : (((BitVec.ofNat 8 (n / 16777216)).toNat * 256 + (BitVec.ofNat 8 (n / 65536)).toNat) * 256 +
    (BitVec.ofNat 8 (n / 256)).toNat) * 256 + (BitVec.ofNat 8 n).toNat = n % 4294967296 := by
  rw [be1_toNat, be1_toNat, be1_toNat, be1_toNat]
  omega

/-- A signed number's two bytes give it modulo 2¹⁶. -/
theorem signed2_toNat (n : Int) : ((BitVec.ofNat 8 ((BitVec.ofInt 16 n).toNat / 256)).toNat * 256 +
    (BitVec.ofNat 8 (BitVec.ofInt 16 n).toNat).toNat : ℕ) = n % 65536 := by
  rw [be2_toNat, BitVec.toNat_ofInt]
  omega

/-- Six flags in the low bits of a byte. -/
theorem flags6 : ∀ b0 b1 b2 b3 b4 b5 : Bool,
    let byte := BitVec.ofNat 8 (b0.toNat + 2 * b1.toNat + 4 * b2.toNat + 8 * b3.toNat + 16 * b4.toNat + 32 * b5.toNat)
    byte.getLsbD 0 = b0 ∧ byte.getLsbD 1 = b1 ∧ byte.getLsbD 2 = b2 ∧ byte.getLsbD 3 = b3 ∧ byte.getLsbD 4 = b4 ∧
      byte.getLsbD 5 = b5 ∧ byte.toNat < 64 := by decide

/-- Seven flags in the low bits of a byte. -/
theorem flags7 : ∀ b0 b1 b2 b3 b4 b5 b6 : Bool,
    let byte := BitVec.ofNat 8
      (b0.toNat + 2 * b1.toNat + 4 * b2.toNat + 8 * b3.toNat + 16 * b4.toNat + 32 * b5.toNat + 64 * b6.toNat)
    byte.getLsbD 0 = b0 ∧ byte.getLsbD 1 = b1 ∧ byte.getLsbD 2 = b2 ∧ byte.getLsbD 3 = b3 ∧ byte.getLsbD 4 = b4 ∧
      byte.getLsbD 5 = b5 ∧ byte.getLsbD 6 = b6 ∧ byte.toNat < 128 := by decide

/-! ### The codes of the tables -/

theorem partState_code_toNat (x : PartState) : (BitVec.ofNat 8 x.code).toNat = x.code := by cases x <;> rfl
theorem loadCause_code_toNat (x : LoadCause) : (BitVec.ofNat 8 x.code).toNat = x.code := by cases x <;> rfl
theorem resetKind_code_toNat (x : ResetKind) : (BitVec.ofNat 8 x.code).toNat = x.code := by cases x <;> rfl
theorem inputUse_code_toNat (x : InputUse) : (BitVec.ofNat 8 x.code).toNat = x.code := by cases x <;> rfl
theorem inputState_code_toNat (x : InputState) : (BitVec.ofNat 8 x.code).toNat = x.code := by cases x <;> rfl
theorem check_code_toNat (x : CheckResult) : (BitVec.ofNat 8 x.code).toNat = x.code := by cases x <;> rfl
theorem output_code_toNat (x : Output) : (BitVec.ofNat 8 x.code).toNat = x.code := by cases x <;> rfl
theorem wtr_code_toNat (x : Wtr) : (BitVec.ofNat 8 x.code).toNat = x.code := by cases x <;> rfl
theorem peerState_code_toNat (x : PeerState) : (BitVec.ofNat 8 x.code).toNat = x.code := by cases x <;> rfl
theorem class_code_toNat (x : AnnClass) : (BitVec.ofNat 8 (classCode x)).toNat = classCode x := by cases x <;> rfl
theorem eventKind_code_toNat (x : EventKind) : (BitVec.ofNat 8 x.code).toNat = x.code := by cases x <;> rfl
theorem bool_toNat (b : Bool) : (BitVec.ofNat 8 b.toNat).toNat = b.toNat := by cases b <;> rfl

theorem input_code_toNat (i : Inp) : (BitVec.ofNat 8 (inputNumber i)).toNat = i.val + 1 := by
  rw [inputNumber]
  exact code_toNat (by omega)

theorem address_toNat (k : Slot) : (BitVec.ofNat 8 (address k)).toNat = k.val + 1 := by
  rw [address]
  exact code_toNat (by omega)

theorem force_code_toNat (x : Force) : (BitVec.ofNat 8 x.code).toNat = x.code := by
  cases x with
  | none | holdover => rfl
  | input n =>
    rw [Force.code]
    exact code_toNat (by omega)

/-- The eight bytes of a path, the unused ones 0. -/
theorem pathBytes_getD (path : List ℕ) (k : ℕ) (below : k < 8) : ((pathBytes path).getD k 0).toNat = path.getD k 0 % 256 := by
  rw [pathBytes, List.getD_eq_getElem?_getD, List.getElem?_map, List.getElem?_range below]
  exact be1_toNat _

theorem byteAt_add (l : List Byte) (n k : ℕ) : byteAt l (n + k) = byteAt (l.drop n) k := by
  simp only [byteAt, List.getD_eq_getElem?_getD, List.getElem?_drop]

/-- A path stands in a record where its bytes begin. -/
theorem pathAt_of_drop {r rest : List Byte} {n : ℕ} {path : List ℕ} (place : r.drop n = pathBytes path ++ rest) :
    PathAt r n path := by
  intro k below
  have inside : k < (pathBytes path).length := by rwa [pathBytes_length]
  rw [byteAt_add, place, ← pathBytes_getD path k below, byteAt, List.getD_append _ _ _ _ inside]

/-! ### The records (R15, R39, R65, R109, R164, R177, R184, R185) -/

/-- The status record, byte after byte up to the announced content. -/
theorem statusRecord_eq (s : State) : statusRecord s =
    BitVec.ofNat 8 s.loader.partState.code :: BitVec.ofNat 8 s.loader.cause.code :: BitVec.ofNat 8 s.cause.code ::
    BitVec.ofNat 8 (statusFlags s) :: BitVec.ofNat 8 s.loader.ownAddress :: BitVec.ofNat 8 s.follower.output.code ::
    BitVec.ofNat 8 (inputCode s.selector.active) :: BitVec.ofNat 8 s.selector.force.code ::
    BitVec.ofNat 8 ((BitVec.ofInt 16 (outputOffset s)).toNat / 256) ::
    BitVec.ofNat 8 (BitVec.ofInt 16 (outputOffset s)).toNat ::
    (announcedBytes s.announcer.last ++ (be4 s.log.uptime ++ be1 s.log.records.length)) := by
  rw [statusRecord, List.append_assoc, List.append_assoc]
  rfl

theorem statusRecord_layout (s : State) : StatusLayout s (statusRecord s) := by
  have length := statusRecord_length s
  rw [statusRecord_eq] at length ⊢
  have flags := flags6 s.bus.duplicate s.follower.warm s.log.overflow (decide (s.selector.force ≠ .none)) s.loader.held
    s.loader.controllerMode
  obtain ⟨duplicate, warm, overflow, forced, held, controller, high⟩ := flags
  refine ⟨length, partState_code_toNat _, loadCause_code_toNat _, resetKind_code_toNat _,
    ⟨duplicate, warm, overflow, ?_, held, controller, high⟩, be1_toNat _, output_code_toNat _, fun none => ?_, fun i active => ?_,
    force_code_toNat _, signed2_toNat _, fun absent => ?_, fun c last => ?_, ?_, ?_⟩
  · exact (iff_of_eq (congrArg (· = true) forced)).trans decide_eq_true_iff
  · show (BitVec.ofNat 8 (inputCode s.selector.active)).toNat = 0
    rw [none]
    rfl
  · show (BitVec.ofNat 8 (inputCode s.selector.active)).toNat = i.val + 1
    rw [active]
    exact input_code_toNat i
  · rw [absent]
    intro k below
    interval_cases k <;> rfl
  · rw [show s.announcer.last = some c from last]
    exact ⟨class_code_toNat _, be1_toNat _, be1_toNat _, pathAt_of_drop (List.append_assoc ..)⟩
  · cases s.announcer.last <;> exact be4_toNat _
  · cases s.announcer.last <;> exact be1_toNat _

theorem eventHeadRecord_layout (s : State) : EventHeadLayout s (eventHeadRecord s) := by
  refine ⟨eventHeadRecord_length s, be1_toNat _, bool_toNat _, fun empty n low high => ?_, fun e oldest => ?_⟩
  · rw [eventHeadRecord, oldestEvent, empty]
    interval_cases n <;> rfl
  · obtain ⟨rest, records⟩ : ∃ rest, s.log.records = e :: rest := by
      cases records : s.log.records with
      | nil => simp [records] at oldest
      | cons first rest =>
        rw [records] at oldest
        cases oldest
        exact ⟨rest, rfl⟩
    rw [eventHeadRecord, oldestEvent, records]
    exact ⟨be4_toNat _, eventKind_code_toNat _, rfl, rfl⟩

theorem countersRecord_layout (s : State) : CountersLayout s (countersRecord s) :=
  ⟨countersRecord_length s, be2_toNat _, be2_toNat _, be2_toNat _, be2_toNat _, be2_toNat _, be2_toNat _, be2_toNat _,
    be2_toNat _⟩

theorem holdoverRecord_layout (s : State) : HoldoverLayout s (holdoverRecord s) := by
  refine ⟨holdoverRecord_length s, bool_toNat _, signed2_toNat _, be1_toNat _, be3_toNat _, fun absent => ?_,
    fun i source => ?_, fun invalid => ?_, fun valid => ?_, be1_toNat _, fun free => ?_, fun acquiring => ?_,
    fun locked => ?_, fun stopped => ?_, fun n running => ?_, be2_toNat _⟩
  · show (BitVec.ofNat 8 (inputCode s.follower.value.source)).toNat = 0
    rw [absent]
    rfl
  · show (BitVec.ofNat 8 (inputCode s.follower.value.source)).toNat = i.val + 1
    rw [source]
    exact input_code_toNat i
  · show (BitVec.ofNat 8 (holdoverGrade s)).toNat = 15
    rw [holdoverGrade, if_neg (by simp [invalid])]
    rfl
  · show (BitVec.ofNat 8 (holdoverGrade s)).toNat = _
    rw [holdoverGrade, if_pos valid]
    exact be1_toNat _
  · show (BitVec.ofNat 8 (bridgeCode s.follower.bridging)).toNat = 0
    rw [free]
    rfl
  · show (BitVec.ofNat 8 (bridgeCode s.follower.bridging)).toNat = 1
    rw [acquiring]
    rfl
  · show (BitVec.ofNat 8 (bridgeCode s.follower.bridging)).toNat = 2
    rw [locked]
    rfl
  · show (BitVec.ofNat 8 (settleSeconds s.follower.settle)).toNat = 0
    rw [stopped]
    rfl
  · show (BitVec.ofNat 8 (settleSeconds s.follower.settle)).toNat = _
    rw [show s.follower.settle = some n from running]
    exact be1_toNat _

theorem peerRecord_layout (s : State) (k : Slot) : PeerLayout s k (peerRecord s k) := by
  refine ⟨peerRecord_length s k, ?_, fun absent n low high => ?_, fun e present => ?_⟩
  · unfold peerRecord
    split <;> exact address_toNat k
  · rw [peerRecord, absent]
    interval_cases n <;> rfl
  · rw [peerRecord, show s.peers.entries[k] = some e from present]
    refine ⟨peerState_code_toNat _, rfl, class_code_toNat _, be1_toNat _, be1_toNat _, be1_toNat _, fun closed => ?_,
      fun w open' => ?_, be1_toNat _, pathAt_of_drop (List.append_nil _).symm⟩
    · show (BitVec.ofNat 8 (windowCount s.peers.windows[k])).toNat = 0
      rw [closed]
      rfl
    · show (BitVec.ofNat 8 (windowCount s.peers.windows[k])).toNat = _
      rw [show s.peers.windows[k] = some w from open']
      exact be1_toNat _

/-- A hold-off is shown in whole milliseconds, a part of one up or down (R65). -/
theorem holdOffMs_bounds {n : ℕ} (small : n < 65535 * 20000) :
    n / 20000 ≤ holdOffMs (some n) % 65536 ∧ holdOffMs (some n) % 65536 * 20000 < n + 20000 := by
  have up := Bool.toNat_le (Config.holdOffRoundsUp n)
  rw [holdOffMs, millisecond]
  split <;> omega

theorem inputRecord_eq (s : State) (i : Inp) : inputRecord s i =
    [BitVec.ofNat 8 (inputNumber i), BitVec.ofNat 8 (shownUse s i).code, shownBound s i,
      BitVec.ofNat 8 s.records[i].state.code, BitVec.ofNat 8 (originCode s.records[i].origin),
      BitVec.ofNat 8 s.records[i].reasons.bits, BitVec.ofNat 8 (inputFlags s.monitors[i] s.records[i]),
      BitVec.ofNat 8 (holdOffMs s.records[i].holdOff / 256), BitVec.ofNat 8 (holdOffMs s.records[i].holdOff),
      BitVec.ofNat 8 s.records[i].wtr.code,
      BitVec.ofNat 8 (wtrSeconds s.records[i].wtr / 256), BitVec.ofNat 8 (wtrSeconds s.records[i].wtr),
      BitVec.ofNat 8 s.records[i].raw, BitVec.ofNat 8 s.records[i].effective, BitVec.ofNat 8 s.records[i].hop,
      BitVec.ofNat 8 s.monitors[i].window.length,
      BitVec.ofNat 8 ((BitVec.ofInt 16 (s.monitors[i].lastOffset.getD 0)).toNat / 256),
      BitVec.ofNat 8 (BitVec.ofInt 16 (s.monitors[i].lastOffset.getD 0)).toNat,
      BitVec.ofNat 8 s.monitors[i].check.code] := rfl

theorem inputRecord_layout (s : State) (i : Inp) : InputLayout s i (inputRecord s i) := by
  obtain ⟨signal, freq, grade, loop, range, lockout, low⟩ := flags6 s.records[i].reasons.signal s.records[i].reasons.freq
    s.records[i].reasons.grade s.records[i].reasons.loop s.records[i].reasons.range s.records[i].reasons.lockout
  obtain ⟨hard, level, los, present, signal', freq', offset, low'⟩ := flags7 s.records[i].hardSeen s.monitors[i].losLevel
    s.monitors[i].losCause s.monitors[i].present s.monitors[i].signal s.monitors[i].freq s.monitors[i].lastOffset.isSome
  rw [inputRecord_eq]
  refine ⟨rfl, input_code_toNat i, ?_, fun off => ?_, fun on used => ?_, inputState_code_toNat _,
    fun free => ?_, fun ready => ?_, fun active => ?_, ⟨signal, freq, grade, loop, range, lockout, low⟩,
    ⟨hard, level, los, present, signal', freq', ?_, low'⟩, fun none => ?_, fun n held small => ?_, wtr_code_toNat _,
    fun n running => ?_, fun stopped => ?_, be1_toNat _, be1_toNat _, be1_toNat _, be1_toNat _, fun absent => ?_,
    fun n offset => ?_, check_code_toNat _⟩
  · refine (inputUse_code_toNat (shownUse s i)).trans ?_
    rw [shownUse]
    split <;> rfl
  · show (shownBound s i).toNat = 0
    rw [shownBound, if_neg (by simp [off])]
    rfl
  · show (shownBound s i).toNat = _
    rw [shownBound, if_pos on, if_neg used]
    exact be1_toNat _
  · show (BitVec.ofNat 8 (originCode s.records[i].origin)).toNat = 0
    rw [free]
    rfl
  · show (BitVec.ofNat 8 (originCode s.records[i].origin)).toNat = 3
    rw [ready]
    rfl
  · show (BitVec.ofNat 8 (originCode s.records[i].origin)).toNat = 4
    rw [active]
    rfl
  · exact (iff_of_eq (congrArg (· = true) offset)).trans Option.isSome_iff_ne_none
  · refine (be2_toNat (holdOffMs s.records[i].holdOff)).trans ?_
    rw [none]
    rfl
  · obtain ⟨low, high⟩ := holdOffMs_bounds small
    rw [← show s.records[i].holdOff = some n from held, ← be2_toNat] at low high
    exact ⟨low, high⟩
  · refine (be2_toNat (wtrSeconds s.records[i].wtr)).trans ?_
    rw [running]
    rfl
  · refine (be2_toNat (wtrSeconds s.records[i].wtr)).trans ?_
    cases wtr : s.records[i].wtr with
    | running n => exact absurd wtr (stopped n)
    | none | served | met | waived => rfl
  · refine (be2_toNat (BitVec.ofInt 16 (s.monitors[i].lastOffset.getD 0)).toNat).trans ?_
    rw [absent]
    rfl
  · refine (signed2_toNat (s.monitors[i].lastOffset.getD 0)).trans ?_
    rw [show s.monitors[i].lastOffset = some n from offset]
    rfl

/-! ### Their places in the capture (R179) -/

theorem recordOffset_succ (a : ℕ) : recordOffset (a + 1) = recordOffset a + recordLength a := by
  simp [recordOffset, List.range_succ]

theorem flatMap_range_drop {α : Type} (blocks : ℕ → List α) (n k : ℕ) (below : k ≤ n) :
    ((List.range n).flatMap blocks).drop (((List.range k).map fun j => (blocks j).length).sum) =
      ((List.range (n - k)).map (k + ·)).flatMap blocks := by
  obtain ⟨m, rfl⟩ := Nat.exists_eq_add_of_le below
  rw [List.range_add, List.flatMap_append, Nat.add_sub_cancel_left,
    List.drop_left' (by rw [List.length_flatMap])]

/-- The record at address `a` stands at its offset. -/
theorem capture_record (s : State) {a : ℕ} (known : a ≤ 33) :
    ((capture s).drop (recordOffset a)).take (recordAt s a).length = recordAt s a := by
  have offset : recordOffset a = ((List.range a).map fun j => (recordAt s j).length).sum := by
    simp only [recordOffset, recordAt_length]
  have more : 34 - a = (33 - a) + 1 := by omega
  rw [capture_eq, offset, flatMap_range_drop _ 34 a (by omega), more, List.range_succ_eq_map]
  simp

end
end Sys2Proof.Machine
end

section
/-! PROOF. READ shifts out the stream of records (O49): byte by byte from the capture of its pass, and past the wrap from a
fresh one. -/

namespace Sys2Proof.Machine

section

variable {s : State}

/-- Byte `k` of the stream, when both captures hold a pass. -/
theorem readStream_getElem? {first fresh : List Byte} (place : ℕ) {count k : ℕ} (whole : first.length = 587)
    (whole' : fresh.length = 587) (below : k < count) : (readStream first fresh place count)[k]? =
      if place + k < 587 then first[place + k]? else fresh[(place + k) % 587]? := by
  have inside : (place + k) % 587 < 587 := Nat.mod_lt _ (by omega)
  rw [readStream, List.getElem?_map, List.getElem?_range below, Option.map_some, passLength]
  split
  · rw [List.getElem?_eq_getElem (by omega), List.getD_eq_getElem _ _ (by omega)]
  · rw [List.getElem?_eq_getElem (by omega), List.getD_eq_getElem _ _ (by omega)]

/-- What shifting `count` bytes from `place` does to the port. -/
theorem shiftRecords_port (first : List Byte) (place : ℕ) {count : ℕ} (some : 0 < count) (s : State) :
    (shiftRecords first place count s).port = { s.port with
      sdo := s.port.sdo ++ readStream first (capture s) place count
      snapshot := if place + count ≤ 587 then first else capture s
      reading := readReached (place + count) } := by
  rw [shiftRecords, if_neg (by omega)]
  rfl

theorem shiftRecords_only (first : List Byte) (place count : ℕ) (s : State) :
    shiftRecords first place count s = { s with port := (shiftRecords first place count s).port } := by
  unfold shiftRecords
  split <;> rfl

theorem readOn_only (count : ℕ) (s : State) : readOn count s = { s with port := (readOn count s).port } := by
  unfold readOn
  split
  · rfl
  · rfl
  · exact shiftRecords_only ..
  · exact shiftRecords_only ..

theorem readOn_closed (count : ℕ) (closed : s.port.reading = .closed) : readOn count s = s := by rw [readOn, closed]

theorem readOn_nothing (s : State) : readOn 0 s = s := by
  unfold readOn
  split
  · rfl
  · rw [List.replicate_zero, List.append_nil]
    rfl
  · exact if_pos rfl
  · exact if_pos rfl

theorem readOn_blank (count : ℕ) (blank : s.port.reading = .blank) :
    readOn count s = s.withPort { s.port with sdo := s.port.sdo ++ List.replicate count 0xFF } := by rw [readOn, blank]

/-- The capture from which the bytes of the pass in progress come. -/
def passCapture (s : State) : List Byte :=
  match s.port.reading with
  | .within _ => s.port.snapshot
  | .closed | .blank | .before _ => capture s

theorem readOn_place {place : ℕ} (count : ℕ) (reads : s.port.reading = .before place ∨ s.port.reading = .within place) :
    readOn count s = shiftRecords (passCapture s) place count s := by
  rcases reads with reads | reads <;> rw [readOn, passCapture, reads]

theorem passCapture_length {place : ℕ} (reads : s.port.reading = .before place ∨ s.port.reading = .within place)
    (law : ReadingLaw s.port) : (passCapture s).length = 587 := by
  rcases reads with reads | reads <;> rw [passCapture, reads]
  · exact capture_length s
  · exact (law place (by simp [reads])).2 reads

theorem getElem?_passCapture (place k : ℕ)
    (reads : s.port.reading = .before place ∨ s.port.reading = .within place) :
    (if place + k < 587 then (passCapture s)[place + k]? else (capture s)[(place + k) % 587]?) =
      if s.port.reading = .within place ∧ place + k < 587 then s.port.snapshot[place + k]?
      else (capture s)[(place + k) % 587]? := by
  rcases reads with reads | reads <;> rw [passCapture, reads]
  · simp only [reduceCtorEq, false_and, if_false]
    split
    next inside => rw [Nat.mod_eq_of_lt inside]
    next => rfl
  · simp only [true_and]

/-- More of a READ frame in progress. -/
theorem readOn_shifts {place count : ℕ} (reads : s.port.reading = .before place ∨ s.port.reading = .within place)
    (law : ReadingLaw s.port) (some : 0 < count) :
    (readOn count s).port.sdo.length = s.port.sdo.length + count ∧ s.port.sdo <+: (readOn count s).port.sdo ∧
    (∀ k : ℕ, k < count → (readOn count s).port.sdo[s.port.sdo.length + k]? =
      if s.port.reading = .within place ∧ place + k < 587 then s.port.snapshot[place + k]?
      else (capture s)[(place + k) % 587]?) ∧
    (readOn count s).port.snapshot = (if s.port.reading = .within place ∧ place + count ≤ 587 then s.port.snapshot
      else capture s) ∧
    (readOn count s).port.reading = readReached (place + count) := by
  have whole := passCapture_length reads law
  rw [readOn_place count reads, shiftRecords_port _ _ some]
  refine ⟨by simp [readStream_length], List.prefix_append .., fun k below => ?_, ?_, rfl⟩
  · rw [List.getElem?_append_right (by omega), Nat.add_sub_cancel_left,
      readStream_getElem? place whole (capture_length s) below, getElem?_passCapture place k reads]
  · rcases reads with reads | reads <;> simp [passCapture, reads]

/-! ### A new frame -/

theorem read_record_eq (a : Byte) (count : ℕ) (open' : s.hold = none) :
    exec (.read (.record a) count) s = .next (readOn count (openRead a.toNat s)) :=
  congrArg Host.Outcome.next (if_pos ((portOpen_iff s).mpr open'))

theorem read_onward_eq (count : ℕ) (open' : s.hold = none) : exec (.read .onward count) s = .next (readOn count s) :=
  congrArg Host.Outcome.next (if_pos ((portOpen_iff s).mpr open'))

theorem openRead_port (a : ℕ) (s : State) : (openRead a s).port = { s.port with
    sdo := [0x00, 0x00], reading := if 33 < a then .blank else .before (recordOffset a) } := rfl

theorem openRead_only (a : ℕ) (s : State) : openRead a s = s.withPort (openRead a s).port := rfl

/-- A READ frame from its start. -/
theorem read_record {a : Byte} {count : ℕ} (s : State) :
    (33 < a.toNat → (readOn count (openRead a.toNat s)).port =
      { s.port with sdo := [0x00, 0x00] ++ List.replicate count 0xFF, reading := .blank }) ∧
    (a.toNat ≤ 33 → (readOn count (openRead a.toNat s)).port.sdo.length = 2 + count ∧
      (readOn count (openRead a.toNat s)).port.sdo[0]? = some 0x00 ∧
      (readOn count (openRead a.toNat s)).port.sdo[1]? = some 0x00 ∧
      (∀ k : ℕ, k < count → (readOn count (openRead a.toNat s)).port.sdo[2 + k]? =
        (capture s)[(recordOffset a.toNat + k) % 587]?) ∧
      (count = 0 → (readOn count (openRead a.toNat s)).port.snapshot = s.port.snapshot ∧
        (readOn count (openRead a.toNat s)).port.reading = .before (recordOffset a.toNat)) ∧
      (0 < count → (readOn count (openRead a.toNat s)).port.snapshot = capture s ∧
        (readOn count (openRead a.toNat s)).port.reading = readReached (recordOffset a.toNat + count))) := by
  refine ⟨fun blank => ?_, fun known => ?_⟩
  · have reading : (openRead a.toNat s).port.reading = .blank := if_pos blank
    rw [readOn_blank count reading, openRead_port, if_pos blank]
    rfl
  · have reading : (openRead a.toNat s).port.reading = .before (recordOffset a.toNat) := if_neg (by omega)
    have same : capture (openRead a.toNat s) = capture s := rfl
    have sdo : (openRead a.toNat s).port.sdo = [0x00, 0x00] := rfl
    rcases Nat.eq_zero_or_pos count with rfl | some
    · rw [readOn_nothing]
      exact ⟨rfl, rfl, rfl, by simp, fun _ => ⟨rfl, reading⟩, by simp⟩
    · obtain ⟨length, ⟨rest, starts⟩, bytes, snapshot, reached⟩ :=
        readOn_shifts (.inl reading) (openRead_law a.toNat s) some
      have notWithin : (openRead a.toNat s).port.reading ≠ .within (recordOffset a.toNat) := by simp [reading]
      simp only [reading, reduceCtorEq, false_and, if_false, same, sdo, List.length_cons, List.length_nil, Nat.zero_add,
        Nat.reduceAdd] at length starts bytes snapshot
      exact ⟨length, by rw [← starts]; rfl, by rw [← starts]; rfl, bytes, fun none => by omega, fun _ => ⟨snapshot, reached⟩⟩

/-! ### Unknown commands (R178) -/

theorem unknownCommand_eq {code : Byte} (open' : s.hold = none) (unknown : ¬(1 ≤ code.toNat ∧ code.toNat ≤ 9)) :
    exec (.unknownCommand code) s = .next { s with port := answeredPort s.port [0x00, 0xA2] } := by
  have foreign : knownCommand code = false := decide_eq_false unknown
  have port := (portOpen_iff s).mpr open'
  show Host.Outcome.next _ = _
  rw [if_pos (by simp [port, foreign])]
  rfl

theorem invalid_sdoByte (p : Port) (k : ℕ) :
    (answeredPort p [0x00, 0xA2]).sdoByte k = if k = 1 then 0xA2 else 0x00 := by
  match k with
  | 0 => rfl
  | 1 => rfl
  | k + 2 => simp [Port.sdoByte]

end
end Sys2Proof.Machine
end

section
/-! PROOF. The SPI line of the Controller Port (O49): the bits of a frame one after the other, what they take into the
queue, and what SDO shows. -/

namespace Sys2Proof.Machine

section

variable {s u : State} {held : Option ℕ} {bits l m : List Bool}

/-! ### One bit after the other (R178, R179) -/

/-- What the bit that completes `bits` takes: its command, and a data byte of a READ frame. -/
def takesAt (held : Option ℕ) (bits : List Bool) : List Instr :=
  (takenWith held bits).toList ++ (if dataBegins bits then [.read .onward 1] else [])

/-- What the bits `l` take after the bits `bits` of the frame. -/
def takes (held : Option ℕ) (bits : List Bool) : List Bool → List Instr
  | [] => []
  | b :: l => takesAt held (bits ++ [b]) ++ takes held (bits ++ [b]) l

/-- What SDO carries after the bits `l`, which follow `bits`: DONE from the command byte of SOFT RESET on (R181). -/
def shown (sdo : List Byte) (bits : List Bool) : List Bool → List Byte
  | [] => sdo
  | b :: l => shown (if bits ++ [b] = spiBits codeSoftReset then [0x00, resDone] else sdo) (bits ++ [b]) l

/-- The state after the bits `l` of a frame that holds `bits`. -/
def clockedBy (held : Option ℕ) (bits l : List Bool) (u : State) : State :=
  { u with
    port := { u.port with sdo := shown u.port.sdo bits l, frame := some { bits := bits ++ l, high := false } }
    pending := u.pending ++ takes held bits l }

theorem sckRises_eq (sdi : Bool) (held : Option ℕ) (open' : u.hold = none)
    (frame : u.port.frame = some { bits := bits, high := false }) :
    portEdge (.sckRises sdi held) u = { u with
      port := { u.port with
        sdo := if bits ++ [sdi] = spiBits codeSoftReset then [0x00, resDone] else u.port.sdo
        frame := some { bits := bits ++ [sdi], high := true } }
      pending := u.pending ++ (takenWith held (bits ++ [sdi])).toList } := by
  simp only [portEdge, (portOpen_iff u).mpr open', if_true, frame, Bool.false_eq_true, if_false, bitArrives, showDone]
  split <;> rfl

theorem sckFalls_eq (open' : u.hold = none) (frame : u.port.frame = some { bits := bits, high := true }) :
    portEdge .sckFalls u = { u with
      port := { u.port with frame := some { bits := bits, high := false } }
      pending := u.pending ++ (if dataBegins bits then [.read .onward 1] else []) } := by
  simp only [portEdge, (portOpen_iff u).mpr open', if_true, frame, clockFalls]
  split <;> rfl

theorem clockBit_eq (sdi : Bool) (held : Option ℕ) (open' : u.hold = none)
    (frame : u.port.frame = some { bits := bits, high := false }) :
    portEdge .sckFalls (portEdge (.sckRises sdi held) u) = clockedBy held bits [sdi] u := by
  rw [sckRises_eq sdi held open' frame, sckFalls_eq (by exact open') (by rfl)]
  simp only [clockedBy, takes, takesAt, shown, List.append_nil, List.append_assoc]

theorem clockBits_eq (held : Option ℕ) (l : List Bool) (open' : u.hold = none)
    (frame : u.port.frame = some { bits := bits, high := false }) : clockBits held l u = clockedBy held bits l u := by
  induction l generalizing u bits with
  | nil =>
    simp only [clockBits, List.foldl_nil, clockedBy, shown, takes, List.append_nil, ← frame]
  | cons b l ih =>
    rw [clockBits, List.foldl_cons, clockBit_eq b held open' frame, ← clockBits, ih (u := clockedBy held bits [b] u) (bits := bits ++ [b]) open' rfl]
    simp only [clockedBy, takes, shown, List.append_nil, List.append_assoc, List.cons_append, List.nil_append]

/-- A frame begins with no bit, and SDO with no answer. -/
theorem csnFalls_eq (open' : s.hold = none) : portEdge .csnFalls s = { s with
    port := { s.port with sdo := [], reading := .closed, frame := some { bits := [], high := false } } } := by
  rw [portEdge, if_pos ((portOpen_iff s).mpr open')]
  rfl

theorem csnRises_eq (pins : Pins) (open' : u.hold = none) (frame : u.port.frame = some { bits := bits, high := false }) :
    portEdge (.csnRises pins) u = { u with
      port := { u.port with frame := none }, pending := u.pending ++ (takenAtRise pins bits).toList } := by
  simp only [portEdge, (portOpen_iff u).mpr open', if_true, frame]
  rfl

/-- A whole frame, from the fall of CSN on. -/
theorem frame_clocked (held : Option ℕ) (l : List Bool) (open' : s.hold = none) :
    clockBits held l (portEdge .csnFalls s) = { s with
      port := { s.port with
        sdo := shown [] [] l, reading := .closed, frame := some { bits := l, high := false } }
      pending := s.pending ++ takes held [] l } := by
  rw [csnFalls_eq open']
  exact clockBits_eq held l (bits := []) open' rfl

/-! ### Whole bytes -/

theorem takes_append (held : Option ℕ) (bits l m : List Bool) :
    takes held bits (l ++ m) = takes held bits l ++ takes held (bits ++ l) m := by
  induction l generalizing bits with
  | nil => simp [takes]
  | cons b l ih => simp [takes, ih]

/-- Nothing is taken inside a byte. -/
theorem takesAt_inside (inside : bits.length % 8 ≠ 0) : takesAt held bits = [] := by
  have none : takenWith held bits = none := by
    unfold takenWith
    split
    · rfl
    · exact if_neg fun h => by omega
  have idle : dataBegins bits = false := decide_eq_false fun h => inside h.2.2
  simp [takesAt, none, idle]

theorem takes_inside (inside : bits.length % 8 + l.length < 8) : takes held bits l = [] := by
  induction l generalizing bits with
  | nil => rfl
  | cons b l ih =>
    simp only [List.length_cons] at inside
    have here : takesAt held (bits ++ [b]) = [] := takesAt_inside (by simp; omega)
    rw [takes, here, ih (by simp; omega)]
    rfl

theorem takes_byte (byte : Byte) (whole : bits.length % 8 = 0) :
    takes held bits (spiBits byte) = takesAt held (bits ++ spiBits byte) := by
  have split' : spiBits byte = (spiBits byte).take 7 ++ [byte.getLsbD 0] := rfl
  have seven : ((spiBits byte).take 7).length = 7 := rfl
  conv_lhs => rw [split']
  rw [takes_append, takes_inside (by omega), List.nil_append, takes, takes, List.append_nil, List.append_assoc, ← split']

/-- What the last bit of the bytes takes. -/
def takesAtByte (held : Option ℕ) (bytes : List Byte) : List Instr := takesAt held (bytes.flatMap spiBits)

/-- What the bytes `more` take after the bytes `done`. -/
def byteTakes (held : Option ℕ) (done : List Byte) : List Byte → List Instr
  | [] => []
  | b :: more => takesAtByte held (done ++ [b]) ++ byteTakes held (done ++ [b]) more

theorem spiBits_length (bytes : List Byte) : (bytes.flatMap spiBits).length = 8 * bytes.length := by
  simp [List.length_flatMap, spiBits, Nat.mul_comm]

theorem takes_bytes (held : Option ℕ) (done more : List Byte) (extra : List Bool) (short : extra.length < 8) :
    takes held (done.flatMap spiBits) (more.flatMap spiBits ++ extra) = byteTakes held done more := by
  induction more generalizing done with
  | nil => exact takes_inside (by rw [spiBits_length, List.flatMap_nil, List.nil_append]; omega)
  | cons b more ih =>
    have whole : (done.flatMap spiBits).length % 8 = 0 := by rw [spiBits_length]; omega
    have together : done.flatMap spiBits ++ spiBits b = (done ++ [b]).flatMap spiBits := by simp
    rw [List.flatMap_cons, List.append_assoc, takes_append, takes_byte b whole, together, ih, byteTakes, takesAtByte]

theorem spiBytes_whole (bytes : List Byte) : spiBytes (bytes.flatMap spiBits) = bytes := by
  simpa using spiBytes_spiBits bytes [] (by simp)

/-- A byte of a frame with command `code` takes the command when it is the last argument, and each data byte of a READ
frame that begins to shift out takes one more. -/
theorem takesAtByte_cons (held : Option ℕ) (code : Byte) (args : List Byte) : takesAtByte held (code :: args) =
    (if args.length = argumentCount code ∧ code ≠ codeSoftReset then
      (commandOf Pins.low held (code :: args)).toList else []) ++
    (if code = 0x01 ∧ 1 ≤ args.length then [.read .onward 1] else []) := by
  have reads : dataBegins ((code :: args).flatMap spiBits) = true ↔ code = 0x01 ∧ 1 ≤ args.length := by
    rw [dataBegins, decide_eq_true_iff, spiBytes_whole, spiBits_length, List.head?_cons, Option.some_inj, List.length_cons]
    exact and_congr_right fun _ => by omega
  rw [takesAtByte, takesAt, takenWith, spiBytes_whole, spiBits_length]
  simp only [reads]
  congr 1
  have counts : 8 * (code :: args).length = 8 * (1 + argumentCount code) ↔ args.length = argumentCount code := by
    rw [List.length_cons]
    omega
  simp only [counts]
  split <;> rfl

theorem argumentCount_eq (code : Byte) : argumentCount code = argumentsOf code := by
  revert code
  decide

/-- A command other than READ is taken once, with its last argument. -/
theorem byteTakes_once (held : Option ℕ) {code : Byte} (notRead : code ≠ 0x01) (done more : List Byte) :
    byteTakes held (code :: done) more =
      if code ≠ codeSoftReset ∧ done.length < argumentCount code ∧ argumentCount code ≤ done.length + more.length then
        (commandOf Pins.low held (code :: (done ++ more).take (argumentCount code))).toList
      else [] := by
  induction more generalizing done with
  | nil => rw [byteTakes, if_neg (fun h => absurd h.2.1 (by simpa using h.2.2))]
  | cons b more ih =>
    have further : (done ++ [b]) ++ more = done ++ b :: more := by simp
    have noData : ¬(code = 0x01 ∧ 1 ≤ (done ++ [b]).length) := fun h => notRead h.1
    rw [byteTakes, List.cons_append, takesAtByte_cons, ih (done ++ [b]), further, if_neg noData,
      List.append_nil, List.length_append, List.length_singleton, List.length_cons]
    by_cases last : done.length + 1 = argumentCount code
    · have all : (done ++ b :: more).take (argumentCount code) = done ++ [b] := by
        rw [← further, ← last, List.take_left' (by simp)]
      have over' : ¬(code ≠ codeSoftReset ∧ done.length + 1 < argumentCount code ∧
          argumentCount code ≤ done.length + 1 + more.length) := by omega
      rw [if_neg over', List.append_nil, all]
      exact if_congr ⟨fun h => ⟨h.2, by omega⟩, fun h => ⟨last, h.1⟩⟩ rfl rfl
    · rw [if_neg (fun h => last h.1), List.nil_append]
      exact if_congr (and_congr_right fun _ => by omega) rfl rfl

/-- A READ frame takes one more command for each data byte (R179). -/
theorem byteTakes_data (held : Option ℕ) (done more : List Byte) (opened : 1 ≤ done.length) :
    byteTakes held (0x01 :: done) more = List.replicate more.length (.read .onward 1) := by
  induction more generalizing done with
  | nil => rfl
  | cons b more ih =>
    have notFirst : (done ++ [b]).length ≠ argumentCount 0x01 := by
      rw [List.length_append, List.length_singleton, show argumentCount 0x01 = 1 from rfl]
      omega
    rw [byteTakes, List.cons_append, takesAtByte_cons, ih (done ++ [b]) (by simp), if_neg (fun h => notFirst h.1),
      if_pos ⟨rfl, by simp⟩]
    rfl

theorem byteTakes_read (held : Option ℕ) (address : Byte) (data : List Byte) :
    byteTakes held [0x01] (address :: data) =
      .read (.record address) 0 :: List.replicate (data.length + 1) (.read .onward 1) := by
  have first : takesAtByte held [0x01, address] = [.read (.record address) 0, .read .onward 1] := by
    rw [takesAtByte_cons]
    rfl
  rw [byteTakes, List.singleton_append, first, byteTakes_data held [address] data (by simp)]
  rfl

theorem byteTakes_frame (held : Option ℕ) (args : List Byte) : byteTakes held [] (0x01 :: args) = match args with
    | [] => []
    | address :: data => .read (.record address) 0 :: List.replicate (data.length + 1) (.read .onward 1) := by
  have alone : takesAtByte held [0x01] = [] := by
    rw [takesAtByte_cons]
    rfl
  rw [byteTakes, List.nil_append, alone, List.nil_append]
  cases args with
  | nil => rfl
  | cons address data => exact byteTakes_read held address data

/-! ### What SDO shows (R181) -/

theorem shown_append (sdo : List Byte) (bits l m : List Bool) :
    shown sdo bits (l ++ m) = shown (shown sdo bits l) (bits ++ l) m := by
  induction l generalizing sdo bits with
  | nil => simp [shown]
  | cons b l ih => simp [shown, ih]

/-- No command byte ends among these bits. -/
theorem shown_stands (sdo : List Byte) (away : 8 ≤ bits.length ∨ bits.length + l.length < 8) : shown sdo bits l = sdo := by
  induction l generalizing bits with
  | nil => rfl
  | cons b l ih =>
    have other : bits ++ [b] ≠ spiBits codeSoftReset := fun same => by
      have length := congrArg List.length same
      rw [List.length_append, List.length_singleton, show (spiBits codeSoftReset).length = 8 from rfl] at length
      simp only [List.length_cons] at away
      omega
    rw [shown, if_neg other, ih (by simp only [List.length_append, List.length_cons, List.length_nil] at away ⊢; omega)]

theorem spiBits_inj (a b : Byte) : spiBits a = spiBits b ↔ a = b := by
  refine ⟨fun same => ?_, congrArg _⟩
  have bytes := congrArg spiBytes (show [a].flatMap spiBits = [b].flatMap spiBits by simpa using same)
  rw [spiBytes_whole, spiBytes_whole] at bytes
  exact (List.cons.inj bytes).1

theorem shown_frame (code : Byte) (rest : List Bool) :
    shown [] [] (spiBits code ++ rest) = if code = codeSoftReset then [0x00, resDone] else [] := by
  have split' : spiBits code = (spiBits code).take 7 ++ [code.getLsbD 0] := rfl
  have seven : ((spiBits code).take 7).length = 7 := rfl
  have eighth : shown [] [] (spiBits code) = if code = codeSoftReset then [0x00, resDone] else [] := by
    rw [split', shown_append, shown_stands [] (.inr (by simp [seven])), shown, shown, List.nil_append, ← split']
    exact if_congr (spiBits_inj ..) rfl rfl
  rw [shown_append, shown_stands _ (.inl (by simp [spiBits])), eighth]

/-! ### The code table (R178) -/

theorem commandOf_unknown (pins : Pins) (held : Option ℕ) {code : Byte} (args : List Byte)
    (unknown : ¬(1 ≤ code.toNat ∧ code.toNat ≤ 9)) : commandOf pins held (code :: args) = some (.unknownCommand code) := by
  unfold commandOf
  dsimp only
  split <;> simp_all

theorem codeTable (pins : Pins) (held : Option ℕ) (n code : Byte) (args : List Byte) : CodeTable pins held n code args := by
  refine ⟨rfl, rfl, rfl, rfl, rfl, rfl, rfl, rfl, rfl, commandOf_unknown pins held args, rfl, ?_⟩
  intro c member
  fin_cases member <;> rfl

theorem known_codes : ∀ code : Byte, 1 ≤ code.toNat ∧ code.toNat ≤ 9 → code = 0x01 ∨ code = 0x02 ∨ code = 0x03 ∨
    code = 0x04 ∨ code = 0x05 ∨ code = 0x06 ∨ code = 0x07 ∨ code = 0x08 ∨ code = codeSoftReset := by decide

/-- A command but READ and SOFT RESET reads its own arguments alone, and no pins. -/
theorem commandOf_take (pins : Pins) (held : Option ℕ) {code : Byte} {args : List Byte} (notRead : code ≠ 0x01)
    (notReset : code ≠ codeSoftReset) (whole : argumentCount code ≤ args.length) :
    commandOf Pins.low held (code :: args.take (argumentCount code)) = commandOf pins held (code :: args) := by
  by_cases known : 1 ≤ code.toNat ∧ code.toNat ≤ 9
  · rcases known_codes code known with rfl | rfl | rfl | rfl | rfl | rfl | rfl | rfl | rfl
    · exact absurd rfl notRead
    · exact congrArg (fun image => some (Instr.loadImage image)) (by rw [show argumentCount 0x02 = 110 from rfl, List.take_take, Nat.min_self])
    · rfl
    · obtain ⟨n, rest, rfl⟩ := List.exists_cons_of_length_pos whole
      rfl
    · rfl
    · obtain ⟨n, rest, rfl⟩ := List.exists_cons_of_length_pos whole
      rfl
    · obtain ⟨n, rest, rfl⟩ := List.exists_cons_of_length_pos whole
      rfl
    · rfl
    · exact absurd rfl notReset
  · rw [commandOf_unknown _ _ _ known, commandOf_unknown _ _ _ known]

/-! ### The frames of the port (R178, R179, R181) -/

theorem takenAtRise_eq (pins : Pins) (held : Option ℕ) (code : Byte) (args : List Byte) {extra : List Bool}
    (short : extra.length < 8) : takenAtRise pins ((code :: args).flatMap spiBits ++ extra) =
      if code = codeSoftReset ∨ (code = 0x02 ∧ args.length < 110) then commandOf pins held (code :: args) else none := by
  rw [takenAtRise, spiBytes_spiBits _ _ short]
  dsimp only
  have counts : (code = codeSoftReset ∨ (code = 0x02 ∧ args.length < argumentCount code)) ↔
      (code = codeSoftReset ∨ (code = 0x02 ∧ args.length < 110)) :=
    or_congr_right (and_congr_right fun image => by rw [image]; rfl)
  rw [if_congr counts rfl rfl]
  split
  next taken => rcases taken with rfl | ⟨rfl, -⟩ <;> rfl
  next => rfl

theorem takenAtRise_short (pins : Pins) {extra : List Bool} (short : extra.length < 8) : takenAtRise pins extra = none := by
  have none : spiBytes extra = [] := spiBytes_spiBits [] extra short
  rw [takenAtRise, none]

theorem frame_takes (held : Option ℕ) (code : Byte) (args : List Byte) {extra : List Bool} (short : extra.length < 8) :
    takes held [] ((code :: args).flatMap spiBits ++ extra) = byteTakes held [] (code :: args) :=
  takes_bytes held [] (code :: args) extra short

/-- What the bytes of a frame other than READ take before its end. -/
theorem frame_takes_once (pins : Pins) (held : Option ℕ) {code : Byte} (args : List Byte) (notRead : code ≠ 0x01) :
    byteTakes held [] (code :: args) =
      if code ≠ 0x09 ∧ argumentsOf code ≤ args.length then (commandOf pins held (code :: args)).toList else [] := by
  have noData : ¬(code = 0x01 ∧ 1 ≤ ([] : List Byte).length) := fun h => notRead h.1
  rw [byteTakes, List.nil_append, takesAtByte_cons, byteTakes_once held notRead, if_neg noData, List.append_nil,
    List.nil_append, List.length_nil, Nat.zero_add, ← argumentCount_eq]
  by_cases reset : code = codeSoftReset
  · rw [if_neg (fun h => h.2 reset), if_neg (fun h => h.1 reset), if_neg (fun h => h.1 reset), List.nil_append]
  by_cases whole : argumentCount code ≤ args.length
  · have taken : code ≠ 0x09 ∧ argumentCount code ≤ args.length := ⟨reset, whole⟩
    rw [if_pos taken, ← commandOf_take pins held notRead reset whole]
    by_cases alone : 0 = argumentCount code
    · have first : 0 = argumentCount code ∧ code ≠ codeSoftReset := ⟨alone, reset⟩
      have later : ¬(code ≠ codeSoftReset ∧ 0 < argumentCount code ∧ argumentCount code ≤ args.length) := by omega
      rw [if_pos first, if_neg later, List.append_nil, ← alone, List.take_zero]
    · have first : ¬(0 = argumentCount code ∧ code ≠ codeSoftReset) := fun h => alone h.1
      have later : code ≠ codeSoftReset ∧ 0 < argumentCount code ∧ argumentCount code ≤ args.length :=
        ⟨reset, by omega, whole⟩
      rw [if_neg first, if_pos later, List.nil_append]
  · rw [if_neg (fun h => by omega), if_neg (fun h => whole h.2.2), if_neg (fun h => whole h.2), List.nil_append]

theorem spiFrameLaw (pins : Pins) (held : Option ℕ) (code : Byte) (args : List Byte) {extra : List Bool} (s : State)
    (open' : s.hold = none) (short : extra.length < 8) : SpiFrameLaw pins held code args extra s := by
  have whole := frame_clocked held ((code :: args).flatMap spiBits ++ extra) open'
  have sdo : shown [] [] ((code :: args).flatMap spiBits ++ extra) = if code = codeSoftReset then [0x00, resDone] else [] := by
    rw [List.flatMap_cons, List.append_assoc, shown_frame]
  rw [frame_takes held code args short, sdo] at whole
  have rise : (takenAtRise pins ((code :: args).flatMap spiBits ++ extra)).toList =
      if code = 0x09 ∨ (code = 0x02 ∧ args.length < 110) then (commandOf pins held (code :: args)).toList else [] := by
    rw [takenAtRise_eq pins held code args short, apply_ite Option.toList]
    rfl
  unfold SpiFrameLaw
  intro clocked
  have state : clocked = _ := whole
  clear_value clocked
  have rises : portEdge (.csnRises pins) clocked = _ := csnRises_eq (u := clocked) pins
    (bits := (code :: args).flatMap spiBits ++ extra) (by rw [state]; exact open') (by rw [state])
  rw [rise] at rises
  refine ⟨fun notRead => ⟨?_, ?_⟩, fun read => ?_, ?_⟩
  · rw [state, frame_takes_once pins held args notRead]
  · rw [rises, state]
    rfl
  · subst read
    have stays : ¬((0x01 : Byte) = 0x09 ∨ (0x01 : Byte) = 0x02 ∧ args.length < 110) := by simp
    rw [rises, if_neg stays, List.append_nil, state, byteTakes_frame]
    rfl
  · have empty := frame_clocked held extra open'
    rw [shown_stands [] (.inr (by simpa using short)), takes_inside (by simpa using short), List.append_nil] at empty
    rw [csnRises_eq (u := clockBits held extra (portEdge .csnFalls s)) pins (bits := extra) (by rw [empty]; exact open')
      (by rw [empty]), takenAtRise_short pins short, empty, Option.toList_none, List.append_nil]

theorem sdoLaw (open' : s.hold = none) : SdoLaw s := by
  intro f frame
  have high : (if f.high = true then 1 else 0) = f.high.toNat := by cases f.high <;> rfl
  simp only [high]
  rw [sdoLevel, if_pos ((portOpen_iff s).mpr open'), show s.port.frame = some f from frame]
  rfl

end
end Sys2Proof.Machine

open Sys2Proof Sys2Proof.Machine

/-- Settles O49: READ from the captures of its passes, the records from their tables, and the frame bit by bit. -/
theorem readShiftsRecords : Obligations.ReadShiftsRecords := by
  intro a code n args extra pins held count place s open'
  refine ⟨⟨_, read_record_eq a count open', ?_, read_record s⟩,
    ⟨_, read_onward_eq count open', readOn_only count s, fun still => ?_, fun blank => ?_,
      fun reads law some => readOn_shifts reads law some⟩,
    fun unknown => ⟨unknownCommand_eq open' unknown, invalid_sdoByte s.port⟩,
    ⟨capture_eq s, fun k known => capture_record s known, fun k _ => ?_, by decide⟩,
    ⟨statusRecord_layout s, fun i => ?_, fun k => ?_, holdoverRecord_layout s, countersRecord_layout s,
      eventHeadRecord_layout s⟩, ?_, ?_, codeTable pins held n code args, fun short => spiFrameLaw pins held code args s open' short, sdoLaw open'⟩
  · rw [readOn_only, openRead_only]
    rfl
  · rcases still with closed | rfl
    · exact readOn_closed count closed
    · exact readOn_nothing s
  · rw [readOn_blank count blank]
    rfl
  · rw [recordOffset_succ, recordAt_length]
  · rw [recordAt_input]
    exact inputRecord_layout s i
  · rw [recordAt_peer]
    exact peerRecord_layout s k
  · decide
  · simp [alert]

end


section
/-! PROOF. O25: whatever event ends a LOCKED output with 16 offsets computes the holdover value from them (R102). -/

namespace Sys2Proof.Machine

section

variable {s t u m before : State} {c : Instr} {i j : Inp} {must expired : Bool} {n : InputRec × Notice} {leaver : Option Inp}

/-! ### An evaluation outside HOLDOVER decides once (R79) -/

/-- Outside HOLDOVER a second decision, if the first asks for one, is the first. -/
theorem Deciding.evaluate_once (ready : Deciding leaver s) (outside : s.follower.output ≠ .holdover) :
    (evaluate leaver s).1 = carryOut leaver (decided s) s := by
  rw [evaluate_fst]
  split
  case isFalse => rfl
  case isTrue again =>
    obtain ⟨unforced, moved⟩ := again
    have inside : (carryOut leaver (decided s) s).follower.output = .holdover := by
      by_contra h
      exact moved (iff_of_false outside h)
    have same := ready.decided_into_holdover unforced outside inside
    obtain ⟨-, ⟨own, -⟩, -⟩ := ready.carried false
    exact carryOut_of_current _ ((carryOut_sourceOf ..).trans same.symm) own.mp

/-! ### The output as the Selector finds it (R96, R102) -/

/-- In an event that begins LOCKED to input `i` with 16 offsets, the Selector finds the output LOCKED with its offsets,
or, where `i` has been suspended, bridging with the value computed. -/
structure Kept (i : Inp) (s m : State) : Prop where
  history : m.follower.history = s.follower.history
  output : m.follower.output = .locked ∨ m.follower.output = .bridging ∧ m.follower.bridging = some .locked ∧
    m.follower.value = computedValue s.follower.history m.records[i].effective i

theorem Kept.of_follower (history : m.follower.history = s.follower.history)
    (output : m.follower.output = s.follower.output) (locked : s.follower.output = .locked) : Kept i s m :=
  ⟨history, .inl (output.trans locked)⟩

/-- A move that neither suspends nor resumes the active input leaves the Output Follower alone. -/
theorem applyMove_follower_quiet (suspends : ¬(s.records[j].state = .active ∧ n.1.state = .suspect))
    (resumes : ¬(s.records[j].state = .suspect ∧ n.1.state = .active)) :
    (applyMove j n s).follower = s.follower := by
  rw [applyMove_eq, followMove, if_neg suspends, if_neg resumes]
  split <;> simp

/-- Only SIGNAL suspends an input, and only an active one returns to the shelf (R48, R50). -/
theorem qualify_follower_quiet {x : Reasons} (law : RecordLaw s.records[j])
    (suspends : s.records[j].state = .active → x ≠ { Reasons.empty with signal := true })
    (resumes : s.records[j].state = .suspect → s.records[j].isActive = false) :
    (qualify j x s).follower = s.follower := by
  have moved : s.records[j].Moved (inputCfg s j) (windowFull s j) x _ := InputRec.move_moved law
  rw [qualify_eq]
  generalize s.records[j].move (inputCfg s j) (windowFull s j) x = n at moved
  refine applyMove_follower_quiet ?_ ?_
  · rintro ⟨active, suspect⟩
    cases moved with
    | off state | kept => rw [active] at suspect; cases suspect
    | joins state | proves state | provesAndPasses state | passes state | suspendsReady state | resumes state =>
      rw [active] at state
      cases state
    | suspendsActive _ signal => exact suspends active signal
    | bars => cases suspect
  · rintro ⟨suspect, active⟩
    cases moved with
    | off state | kept => rw [suspect] at active; cases active
    | joins state | proves state | provesAndPasses state | passes state | suspendsReady state | suspendsActive state =>
      rw [suspect] at state
      cases state
    | resumes =>
      have inactive := resumes suspect
      by_cases origin : s.records[j].origin = some .active
      · rw [InputRec.isActive, decide_eq_false_iff_not] at inactive
        exact inactive (.inr ⟨suspect, origin⟩)
      · rw [s.records[j].resume_ready origin] at active
        cases active
    | bars => cases active

/-- Beside the active input of a LOCKED output no input can return to the shelf. -/
theorem inactive_of_suspect (law : SelectionLaw s) (active : s.selector.active = some i) (locked : s.follower.output = .locked)
    (j : Inp) (suspect : s.records[j].state = .suspect) : s.records[j].isActive = false := by
  by_contra isActive
  have current : some i = some j := active.symm.trans ((law.1 j).mp (by simpa using isActive))
  obtain rfl : i = j := Option.some_inj.mp current
  have state := active_of_following law active (by simp [locked])
  rw [state] at suspect
  cases suspect

theorem recompute_follower_quiet (law : RecordLaw s.records[j])
    (resumes : s.records[j].state = .suspect → s.records[j].isActive = false) :
    (recompute j s).follower = s.follower := by
  rw [recompute_eq]
  have self : (s.withRecord j (regraded s j)).records[j] = regraded s j := State.withRecord_self ..
  refine qualify_follower_quiet (s := s.withRecord j (regraded s j)) ?_ ?_ ?_
  · rw [self]
    exact regraded_lawful law
  · rw [self]
    intro active signal
    have bare : RecordBare s.records[j] := law.1 (.inr (.inr active))
    have clear : (regradedReasons s j).signal = false := by
      rw [regradedReasons, pathReasons, bare.1]
      rfl
    rw [signal] at clear
    cases clear
  · rw [self]
    exact resumes

/-- A lawful record of an input that cannot return to the shelf. -/
def Unreturning (r : InputRec) : Prop := RecordLaw r ∧ (r.state = .suspect → r.isActive = false)

/-- Moves of the inputs in turn, none of which moves the output. -/
theorem MovesOne.follower {f : Inp → State → State} (one : MovesOne f)
    (quiet : ∀ (j : Inp) (t : State), Unreturning t.records[j] → (f j t).follower = t.follower) :
    ∀ (inputs : List Inp) (s : State), inputs.Nodup → (∀ j ∈ inputs, Unreturning s.records[j]) →
      (inputs.foldl (fun t i => f i t) s).follower = s.follower
  | [], _, _, _ => rfl
  | j :: inputs, s, distinct, each => by
    obtain ⟨absent, distinct'⟩ := List.nodup_cons.mp distinct
    rw [List.foldl_cons, MovesOne.follower one quiet inputs (f j s) distinct' fun k mem => ?_,
      quiet j s (each j List.mem_cons_self)]
    rw [one.other j k s fun h => absent (h ▸ mem)]
    exact each k (List.mem_cons_of_mem _ mem)

theorem recomputeBound_follower_quiet (a : Nat) (each : ∀ j : Inp, Unreturning s.records[j]) :
    (recomputeBound a s).follower = s.follower := by
  rw [recomputeBound_eq]
  refine (recompute_movesOne fun j => boundTo s a j).follower (fun j t lawful => ?_) _ s (List.nodup_finRange 6)
    fun j _ => each j
  split
  · exact recompute_follower_quiet lawful.1 lawful.2
  · rfl

/-- The state in which every clause of O25 begins: LOCKED to input `i`, with 16 offsets. -/
structure LockedFull (i : Inp) (s : State) : Prop where
  records : RecordsLawful s
  law : SelectionLaw s
  active : s.selector.active = some i
  locked : s.follower.output = .locked
  full : s.follower.history.length = 16

namespace LockedFull

theorem state (begins : LockedFull i s) : s.records[i].state = .active :=
  active_of_following begins.law begins.active (by simp [begins.locked])

theorem used (begins : LockedFull i s) : s.records[i].state ≠ .off := by
  rw [begins.state]
  decide

theorem reasons (begins : LockedFull i s) : s.records[i].reasons = Reasons.empty :=
  ((begins.records i).1 (.inr (.inr begins.state))).1

theorem unreturning (begins : LockedFull i s) (j : Inp) : Unreturning s.records[j] :=
  ⟨begins.records j, inactive_of_suspect begins.law begins.active begins.locked j⟩

/-- The other inputs are not ACTIVE. -/
theorem other (begins : LockedFull i s) (distinct : j ≠ i) : s.records[j].state ≠ .active := fun state => by
  have current := (begins.law.1 j).mp (decide_eq_true (.inl state))
  rw [begins.active] at current
  exact distinct (Option.some_inj.mp current).symm

theorem congr (begins : LockedFull i s) (records : u.records = s.records) (selector : u.selector = s.selector)
    (follower : u.follower = s.follower) : LockedFull i u where
  records := (recordsLawful_congr records).mpr begins.records
  law := (selectionLaw_congr records selector follower).mpr begins.law
  active := by rw [selector, begins.active]
  locked := by rw [follower, begins.locked]
  full := by rw [follower, begins.full]

end LockedFull

/-- SIGNAL arising at the active input: it is suspended, and the output bridges, or it is barred. -/
theorem LockedFull.suspended (begins : LockedFull i s) (same : m.records = s.records)
    (follower : m.follower = s.follower) (x : Reasons) : Kept i s (qualify i x m) := by
  have state : m.records[i].state = .active := by rw [same]; exact begins.state
  rw [qualify_eq]
  generalize m.records[i].move (inputCfg m i) (windowFull m i) x = n
  by_cases suspends : n.1.state = .suspect
  · have bridged : (applyMove i n m).follower =
        (enterBridging i (logNotice i n.1 n.2 (m.withRecord i n.1))).follower := by
      rw [applyMove_eq, followMove, if_pos ⟨state, suspends⟩]
    have follower' := bridged.trans (enterBridging_follower ..)
    have put : (logNotice i n.1 n.2 (m.withRecord i n.1)).follower = s.follower := by simp [follower]
    rw [put, begins.locked, if_pos rfl, computeValue_some i (put ▸ begins.locked) (put ▸ begins.full)] at follower'
    refine ⟨by rw [follower'], .inr ⟨by rw [follower'], by rw [follower'], ?_⟩⟩
    rw [follower', put, applyMove_get, if_pos rfl, logNotice_records, State.withRecord_self]
    rfl
  · have quiet : (applyMove i n m).follower = m.follower :=
      applyMove_follower_quiet (fun h => suspends h.2) (by simp [state, -Fin.getElem_fin])
    exact .of_follower (by rw [quiet, follower]) (by rw [quiet, follower]) begins.locked

/-- What reasons other than SIGNAL alone do to an input leaves the output alone. -/
theorem LockedFull.qualified (begins : LockedFull i s) (same : m.records = s.records) (follower : m.follower = s.follower)
    {x : Reasons} (other : j = i → x ≠ { Reasons.empty with signal := true }) : Kept i s (qualify j x m) := by
  have quiet : (qualify j x m).follower = m.follower := by
    refine qualify_follower_quiet ?_ ?_ ?_ <;> rw [same]
    · exact begins.records j
    · exact fun state => other (by_contra fun distinct => begins.other distinct state)
    · exact (begins.unreturning j).2
  exact .of_follower (by rw [quiet, follower]) (by rw [quiet, follower]) begins.locked

theorem freqReasons_cases (x : Reasons) (was is : Bool) :
    freqReasons x was is = x ∨ freqReasons x was is = { x with freq := is } := by
  unfold freqReasons
  split
  · exact .inl rfl
  · exact .inr rfl

/-- A gate completion at any input: the output stands, or one more offset has joined the history, and nothing else. -/
theorem LockedFull.completed (begins : LockedFull i s) (j : Inp) (edges : Nat) :
    Kept i s (qualify j (checkedReasons s j edges) (measured s j edges)) ∨
    qualify j (checkedReasons s j edges) (measured s j edges) = measured s j edges := by
  have records := measured_records s j edges
  by_cases clear : j = i ∧ (Machine.completed s j edges).freq = false
  · obtain ⟨rfl, clear⟩ := clear
    right
    rw [checkedReasons_clear begins.reasons clear]
    refine qualify_usable (.inr ?_)
    rw [records]
    exact begins.state
  · left
    have follower : (measured s j edges).follower = s.follower := by
      rw [measured_follower, if_neg]
      rintro ⟨active, -, -, freq, -⟩
      rw [begins.active] at active
      exact clear ⟨(Option.some_inj.mp active).symm, freq⟩
    refine begins.qualified records follower fun here => ?_
    subst here
    intro alone
    have signal : (checkedReasons s j edges).signal = false := by
      rw [checkedReasons, begins.reasons]
      rcases freqReasons_cases Reasons.empty s.monitors[j].freq (Machine.completed s j edges).freq with h | h <;> rw [h] <;> rfl
    rw [alone] at signal
    cases signal

theorem LockedFull.recomputed (begins : LockedFull i s) {k : Slot} {e : Option PeerEntry} (put : EntryPut s k e u) :
    Kept i s (recomputeBound (address k) u) := by
  have quiet : (recomputeBound (address k) u).follower = u.follower :=
    recomputeBound_follower_quiet _ fun j => by rw [put.records]; exact begins.unreturning j
  exact .of_follower (by rw [quiet, put.follower]) (by rw [quiet, put.follower]) begins.locked

/-- As the Selector's part of the end of an event begins. -/
theorem LockedFull.kept (begins : LockedFull i s) (body : Body c s must expired m) : Kept i s m ∨
    must = false ∧ Stays s false m ∧ m.records = s.records ∧ m.selector = s.selector ∧
      m.follower.output = s.follower.output := by
  have signal {x : Reasons} (clear : x.signal = false) : x ≠ { Reasons.empty with signal := true } := by
    rintro rfl
    cases clear
  cases body with
  | @arises j high edge =>
    by_cases here : j = i
    · subst here
      exact .inl (begins.suspended (by simp) (by simp) _)
    · exact .inl (begins.qualified (by simp) (by simp) fun h => absurd h here)
  | clears => exact .inl (begins.qualified (by simp) (by simp) fun _ => signal rfl)
  | @gate j edges _ m' on may done =>
    subst done
    rcases begins.completed j edges with kept | unmoved
    · exact .inl kept
    · refine .inr ⟨rfl, ?_⟩
      have follower := measured_follower_history s j edges
      have event : qualify j (freqReasons s.records[j].reasons s.monitors[j].freq
          (completeGate s j s.monitors[j] (gateCount s.monitors[j].gate edges)).freq)
          (takeOffset j (completeGate s j s.monitors[j] (gateCount s.monitors[j].gate edges))
            (s.withMonitor j (completeGate s j s.monitors[j] (gateCount s.monitors[j].gate edges)))) =
          measured s j edges := unmoved
      rw [event]
      refine ⟨measured_stays begins.law, measured_records .., ?_, by rw [← follower]⟩
      rw [measured, takeOffset]
      split <;> rfl
  | @holdOff j _ _ suspect =>
    have quiet := applyMove_follower_quiet (s := s) (j := j) (n := (s.records[j].bar s.records[j].reasons, .barred))
      (by simp [suspect, -Fin.getElem_fin]) (by simp [InputRec.bar])
    exact .inl (.of_follower (by rw [quiet]) (by rw [quiet]) begins.locked)
  | @wtr j _ _ proving =>
    have quiet := applyMove_follower_quiet (s := s) (j := j)
      (n := ({ s.records[j] with wtr := .served } : InputRec).promote (windowFull s j))
      (by simp [proving, -Fin.getElem_fin]) (by simp [proving, -Fin.getElem_fin])
    exact .inl (.of_follower (by rw [quiet]) (by rw [quiet]) begins.locked)
  | @lockout n j _ names on absent =>
    refine .inl (begins.qualified rfl rfl fun here alone => ?_)
    have lockout := congrArg Reasons.lockout alone
    cases lockout
  | @release n j _ names on present =>
    refine .inl (begins.qualified rfl rfl fun here => signal ?_)
    subst here
    rw [begins.reasons]
    rfl
  | force | unforce => exact .inl (.of_follower rfl rfl begins.locked)
  | value =>
    have follower := (clearHoldoverForce_follower (expireValue s)).trans (expireValue_follower s)
    exact .inl (.of_follower (by rw [follower]) (by rw [follower, if_neg (by simp [begins.locked])]) begins.locked)
  | age => exact .inl (.of_follower rfl rfl begins.locked)
  | warmup => exact .inl (.of_follower (by simp [clearWarmup]) (by simp [clearWarmup]) begins.locked)
  | announced _ _ _ put | withdrawn _ _ _ put | stale _ _ _ _ put | removed _ _ _ _ put => exact .inl (begins.recomputed put)

/-! ### As the Selector leaves the input (R94, R98, R102) -/

/-- The shelf has left input `i`, with the value computed. -/
structure LeftWithValue (i : Inp) (s t : State) : Prop where
  active : t.selector.active ≠ some i
  value : ValueMade i s t
  history : t.follower.history = []
  output : t.follower.output ≠ .freeRun

/-- The value that leaving the input computes, or that bridging has computed already. -/
theorem Kept.computeValue (kept : Kept i s m) (full : s.follower.history.length = 16) :
    (Machine.computeValue (some i) m).follower.value = computedValue s.follower.history m.records[i].effective i := by
  rcases kept.output with locked | ⟨bridging, -, value⟩
  · rw [computeValue_some i locked (by rw [kept.history, full]), kept.history]
    rfl
  · rw [computeValue_of_not_locked _ (by simp [bridging]), value]

theorem Kept.valueMade (kept : Kept i s m) (full : s.follower.history.length = 16) (moves : SelectorMoves m t)
    (value : t.follower.value = (Machine.computeValue (some i) m).follower.value) : ValueMade i s t := by
  rw [ValueMade, value, kept.computeValue full, moves.effective]
  rfl

theorem takeInput_follower_fields (leaver : Option Inp) (j : Inp) (s : State) :
    (takeInput leaver j s).follower.value = (Machine.computeValue leaver s).follower.value ∧
    (takeInput leaver j s).follower.history = [] ∧ (takeInput leaver j s).follower.output ≠ .freeRun := by
  by_cases suspect : s.records[j].state = .suspect
  · rw [takeInput_follower_of_suspect leaver suspect]
    exact ⟨rfl, rfl, by simp⟩
  · rw [takeInput_follower_of_usable leaver suspect]
    exact ⟨rfl, rfl, by simp⟩

theorem Kept.outside (kept : Kept i s m) : m.follower.output ≠ .holdover ∧ m.follower.output ≠ .freeRun := by
  rcases kept.output with h | ⟨h, -⟩ <;> simp [h]

/-- A value is available: there are 16 offsets, or bridging has computed one. -/
theorem Kept.available (kept : Kept i s m) (full : s.follower.history.length = 16) : Machine.available m = true := by
  rw [available_iff]
  rcases kept.output with locked | ⟨-, -, value⟩
  · exact .inr ⟨locked, by rw [kept.history, full]⟩
  · rw [value]
    exact .inl rfl

/-- A decision carried out leaves the shelf on its input, as it was, or away from it, with the value computed. -/
theorem Kept.carryOut (kept : Kept i s m) (full : s.follower.history.length = 16) (ready : Deciding (some i) m)
    (active : m.selector.active = some i ∨ m.selector.active = none ∧ m.records[i].state = .barred) :
    (m.selector.active = some i ∧ Machine.carryOut (some i) (decided m) m = m) ∨
      LeftWithValue i s (Machine.carryOut (some i) (decided m) m) := by
  have sound := ready.sound false
  have moves := carryOut_moves (some i) (decided m) m
  have source := carryOut_sourceOf (some i) (decided m) m
  obtain ⟨notHoldover, notFreeRun⟩ := kept.outside
  unfold Machine.carryOut at moves source ⊢
  rw [← decided] at sound
  generalize decided m = d at *
  cases d with
  | input j =>
    dsimp only at moves source ⊢
    by_cases same : m.selector.active = some j
    · rw [if_pos same]
      refine .inl ⟨active.resolve_right fun h => ?_, rfl⟩
      rw [h.1] at same
      cases same
    · rw [if_neg same] at moves source ⊢
      obtain ⟨value, history, output⟩ := takeInput_follower_fields (some i) j m
      refine .inr ⟨?_, kept.valueMade full moves value, history, output⟩
      rw [takeInput_selector]
      intro here
      obtain rfl : j = i := Option.some_inj.mp here
      obtain ⟨-, barred⟩ := active.resolve_left same
      have fit := sound.fit j rfl
      rw [notFit_of_state barred (by decide)] at fit
      cases fit
  | holdover =>
    dsimp only at moves source ⊢
    rw [if_neg (fun h => notHoldover h.2)] at moves source ⊢
    have follower := takeOwn_follower (some i) .holdover m
    exact .inr ⟨by simp [takeOwn_selector], kept.valueMade full moves (by rw [follower]), by rw [follower], by simp [follower]⟩
  | freeRun =>
    have none := sound.unavailable rfl
    rw [kept.available full] at none
    cases none

theorem Kept.congr (kept : Kept i s m) (records : t.records = m.records) (follower : t.follower = m.follower) :
    Kept i s t := by
  obtain ⟨history, output⟩ := kept
  exact ⟨by rw [follower, history], by rw [follower, records]; exact output⟩

theorem settleEvent_of_not_due (idle : evaluationDue before (clearBarredForce m) = false) :
    (settleEvent before false expired m).records = m.records ∧
    (settleEvent before false expired m).selector.active = m.selector.active ∧
    (settleEvent before false expired m).follower = m.follower := by
  rw [settleEvent, selectorTurn_of_not_due _ _ _ idle]
  exact ⟨by simp, by simp [clearBarredForce_selector], by simp⟩

/-- The end of the event: the shelf is on its input, as the Qualifier has left it, or away from it. -/
theorem Kept.settled (kept : Kept i s m) (begins : LockedFull i s) (body : Body c s must expired m) :
    ((settleEvent s must expired m).selector.active = some i ∧
      (settleEvent s must expired m).follower = m.follower ∧
      (settleEvent s must expired m).records = m.records) ∨ LeftWithValue i s (settleEvent s must expired m) := by
  have kept' : Kept i s (clearBarredForce m) := kept.congr (by simp) (by simp)
  have found : Deciding (some i) (clearBarredForce m) ∧ (m.selector.active = some i ∨
      m.selector.active = none ∧ m.records[i].state = .barred) ∧
      (evaluationDue s (clearBarredForce m) = false → m.selector.active = some i) := by
    rcases body.mid begins.records begins.law with mid | ⟨f, rfl, -, -, -, can⟩
    · refine ⟨begins.active ▸ mid.deciding, ?_, fun idle => (mid.source_of_not_due idle).trans begins.active⟩
      rcases mid.source with h | ⟨none, a, active, -, barred⟩
      · exact .inl (h.trans begins.active)
      · obtain rfl : i = a := Option.some_inj.mp (begins.active.symm.trans active)
        exact .inr ⟨none, barred⟩
    · exact ⟨begins.active ▸ setForce_deciding begins.records begins.law can, .inl begins.active, fun _ => begins.active⟩
  obtain ⟨ready, active, idleActive⟩ := found
  by_cases due : must = true ∨ evaluationDue s (clearBarredForce m) = true
  · obtain ⟨records, selector, follower, -⟩ := settleEvent_evaluated (expired := expired) due
    rw [begins.active, ready.evaluate_once kept'.outside.1] at records selector follower
    rcases kept'.carryOut begins.full ready (by simpa [clearBarredForce_selector] using active) with ⟨here, same⟩ | left
    · rw [same] at records selector follower
      exact .inl ⟨by rw [selector, here], by rw [follower]; simp, by rw [records]; simp⟩
    · obtain ⟨gone, value, history, output⟩ := left
      refine .inr ⟨by rwa [selector], ?_, by rwa [follower], by rwa [follower]⟩
      rw [ValueMade, follower, records]
      exact value
  · simp only [not_or, Bool.not_eq_true] at due
    obtain ⟨rfl, idle⟩ := due
    obtain ⟨records, selector, follower⟩ := settleEvent_of_not_due (expired := expired) idle
    exact .inl ⟨by rw [selector, idleActive idle], follower, records⟩

/-! ### What every event makes of the value -/

/-- What R102 makes of the value, wherever the event leaves the shelf. -/
def LossLaw (i : Inp) (s t : State) : Prop :=
  (t.selector.active ≠ some i → ValueMade i s t ∧ t.follower.history = [] ∧ t.follower.output ≠ .freeRun) ∧
  (t.selector.active = some i → t.follower.output ≠ .locked → ValueMade i s t ∧
    t.follower.output = .bridging ∧ t.follower.bridging = some .locked ∧
    t.follower.history = s.follower.history ∧ t.records[i].origin = some .active) ∧
  (t.records[i].state = .barred → t.selector.active ≠ some i) ∧
  (t.records[i].state = .suspect → ValueMade i s t)

/-- An input that the shelf follows through BRIDGING is SUSPECT, and came from ACTIVE. -/
theorem origin_of_bridging (law : SelectionLaw t) (active : t.selector.active = some i)
    (bridging : t.follower.output = .bridging) : t.records[i].origin = some .active := by
  have suspect := (law.2.1.2 i active).mp bridging
  rcases of_decide_eq_true ((law.1 i).mpr active) with state | ⟨-, origin⟩
  · rw [state] at suspect
    cases suspect
  · exact origin

theorem lossLaw_of_left (left : LeftWithValue i s t) : LossLaw i s t :=
  ⟨fun _ => ⟨left.value, left.history, left.output⟩, fun active => absurd active left.active, fun _ => left.active,
    fun _ => left.value⟩

theorem lossLaw_of_kept (kept : Kept i s t) (law : SelectionLaw t) (active : t.selector.active = some i) :
    LossLaw i s t := by
  have bridged (notLocked : t.follower.output ≠ .locked) : t.follower.output = .bridging ∧
      t.follower.bridging = some .locked ∧ ValueMade i s t := kept.output.resolve_left notLocked
  refine ⟨fun gone => absurd active gone, fun _ notLocked => ?_, fun barred => (barred_left law barred).1, fun suspect => ?_⟩
  · obtain ⟨output, origin, value⟩ := bridged notLocked
    exact ⟨value, output, origin, kept.history, origin_of_bridging law active output⟩
  · have output := (law.2.1.2 i active).mpr suspect
    exact (bridged (by simp [output])).2.2

/-- The shelf follows its input, LOCKED. -/
theorem lossLaw_of_locked (law : SelectionLaw t) (active : t.selector.active = some i)
    (locked : t.follower.output = .locked) : LossLaw i s t := by
  refine ⟨fun gone => absurd active gone, fun _ notLocked => absurd locked notLocked,
    fun barred => (barred_left law barred).1, fun suspect => ?_⟩
  have output := (law.2.1.2 i active).mpr suspect
  rw [locked] at output
  cases output

theorem LockedFull.lossLaw (begins : LockedFull i s) (body : Body c s must expired m) :
    LossLaw i s (settleEvent s must expired m) := by
  have law := (body.law begins.records begins.law).2
  rcases begins.kept body with kept | ⟨rfl, stays, records, selector, output⟩
  · rcases kept.settled begins body with ⟨active, follower, records⟩ | left
    · exact lossLaw_of_kept (kept.congr records follower) law active
    · exact lossLaw_of_left left
  · obtain ⟨-, selector', follower', -⟩ := stays.settleEvent_fields expired
    exact lossLaw_of_locked law (by rw [selector', selector, begins.active]) (by rw [follower', output, begins.locked])

theorem Happens.lossLaw (happens : Happens c s t) (begins : LockedFull i s) (on : running s = true)
    (on' : running t = true) : LossLaw i s t := by
  have law := (happens.law begins.records begins.law).2
  cases happens with
  | aside aside => exact lossLaw_of_locked law (by rw [aside.selector, begins.active]) (by rw [aside.follower, begins.locked])
  | cleared => simp [running, State.cleared] at on'
  | released => simp [released_not_running] at on'
  | loading off => simp [off] at on
  | starts _ _ off => simp [off] at on
  | pops result =>
    rw [result] at law ⊢
    exact lossLaw_of_locked law begins.active begins.locked
  | sampled => exact lossLaw_of_locked law begins.active begins.locked
  | locks _ acquiring =>
    rw [begins.locked] at acquiring
    cases acquiring
  | event beside _ body result =>
    have loss := (begins.congr beside.records beside.selector beside.follower).lossLaw body
    rw [result]
    unfold LossLaw at loss ⊢
    simp only [ValueMade, beside.follower] at loss ⊢
    exact loss

theorem LockedFull.loss (begins : LockedFull i s) (on : running s = true) (row : exec c s = .next t)
    (hold : t.hold = s.hold) (loader : t.loader = s.loader) : LossLaw i s t :=
  (exec_happens row).lossLaw begins on ((running_congr hold loader).trans on)

/-- An input that the event has barred: the shelf has left it. -/
theorem LossLaw.barred (loss : LossLaw i s t) (barred : t.records[i].state = .barred) :
    ValueMade i s t ∧ t.selector.active ≠ some i ∧ t.follower.history = [] := by
  obtain ⟨left, -, gone, -⟩ := loss
  obtain ⟨value, history, -⟩ := left (gone barred)
  exact ⟨value, gone barred, history⟩

theorem valueMade_base (made : ValueMade i s t) : t.follower.value.base = t.records[i].effective := by rw [made]

/-! ### SIGNAL and FREQ arise (R21, R37) -/

/-- SIGNAL is set by a window without an edge, and by the eighth agreeing sample of an asserted LOS line. -/
theorem signal_arises {high edge : Bool} (on : measuring s i = true) (cause : edge = false ∨ (7 ≤ s.monitors[i].losCount ∧
    ((inputCfg s i).losMode = .activeHigh ∧ s.monitors[i].losLevel = false ∧ high = true ∨
      (inputCfg s i).losMode = .activeLow ∧ s.monitors[i].losLevel = true ∧ high = false))) :
    (pointMonitor s i high edge).signal = true := by
  obtain ⟨level, -, present, -⟩ := pointMonitor_detectors s i high edge
  rw [pointMonitor_of_measuring on] at level present ⊢
  simp only [judgeSignal, Bool.or_eq_true, Bool.not_eq_true', losAsserted_iff] at level present ⊢
  rw [level, present]
  rcases cause with rfl | ⟨eighth, lines⟩
  · right
    cases was : s.monitors[i].present with
    | true => rw [activitySample_lost was]
    | false => rw [activitySample_missing was, was]
  · left
    have accepted : (losSample s.monitors[i] high).losLevel = high := by
      rw [losSample_accepts _ eighth]
      rcases lines with ⟨-, was, rfl⟩ | ⟨-, was, rfl⟩ <;> simp [was, -Fin.getElem_fin]
    rw [accepted]
    exact lines.imp (fun ⟨mode, _, is⟩ => ⟨mode, is⟩) fun ⟨mode, _, is⟩ => ⟨mode, is⟩

theorem LockedFull.signal (begins : LockedFull i s) {high edge : Bool} (on : measuring s i = true)
    (was : s.monitors[i].signal = false) (is : (pointMonitor s i high edge).signal = true) :
    ValueMade i s (pointed s i high edge) ∧
    (pointed s i high edge).follower.value.base = s.records[i].effective ∧
    (0 < (inputCfg s i).holdOff → (pointed s i high edge).selector.active = some i →
      (pointed s i high edge).follower.output = .bridging ∧ (pointed s i high edge).follower.bridging = some .locked ∧
      (pointed s i high edge).follower.history = s.follower.history ∧
      (pointed s i high edge).records[i].origin = some .active) ∧
    ((inputCfg s i).holdOff = 0 →
      (pointed s i high edge).selector.active ≠ some i ∧ (pointed s i high edge).follower.history = []) := by
  have runs := measuring_running on
  have noHold : s.hold = none := ((running_iff s).mp runs).1
  obtain ⟨⟨⟨hold, -, -, loader, -⟩, -⟩, -⟩ := msPoint_pointed s i high edge
  have law := (changed_law (present := true) on was is begins.records begins.law).2
  have effective := (pointed_grade s i high edge).2.1
  have loss := begins.loss runs (msPoint_eq noHold) hold loader
  by_cases holdOff : 0 < (inputCfg s i).holdOff
  · have suspect : (pointed s i high edge).records[i].state = .suspect :=
      (arises_suspends was is (begins.records i) (.inr begins.state) holdOff).suspect_iff.mpr rfl
    obtain ⟨-, bridges, -, computes⟩ := loss
    refine ⟨computes suspect, (valueMade_base (computes suspect)).trans effective, fun _ active => ?_, fun none => by omega⟩
    have output := (law.2.1.2 i active).mpr suspect
    exact (bridges active (by simp [output])).2
  · obtain ⟨record, -⟩ := arises_bars was is (begins.records i) (.inl ⟨.inr begins.state, by omega⟩)
    obtain ⟨value, gone, history⟩ := loss.barred (by rw [record]; rfl)
    exact ⟨value, (valueMade_base value).trans effective, fun some => absurd some holdOff, fun _ => ⟨gone, history⟩⟩

/-- FREQ arising bars a used input. -/
theorem completion_bars {edges : Nat} (law : RecordLaw s.records[i]) (used : s.records[i].state ≠ .off)
    (was : s.monitors[i].freq = false) (is : (completed s i edges).freq = true) :
    (qualify i (checkedReasons s i edges) (measured s i edges)).records[i] =
      s.records[i].barredBy { s.records[i].reasons with freq := true } := by
  have reasons : checkedReasons s i edges = { s.records[i].reasons with freq := true } := by
    rw [checkedReasons, was, is]
    rfl
  rw [qualify_self, measured_records, reasons, InputRec.move_barring law used]
  · exact fun h => by simpa [Reasons.empty] using congrArg Reasons.freq h
  · exact .inl fun h => by simpa [Reasons.empty] using congrArg Reasons.freq h

theorem LockedFull.freq (begins : LockedFull i s) {edges : Nat} (on : measuring s i = true)
    (was : s.monitors[i].freq = false) (row : exec (.gateCompletion i edges) s = .next t)
    (is : t.monitors[i].freq = true) :
    ValueMade i s t ∧ t.follower.value.base = s.records[i].effective ∧ t.selector.active ≠ some i := by
  by_cases may : s.monitors[i].gate.run = true ∧ s.monitors[i].msPhase < 20000
  case neg =>
    have same : exec (.gateCompletion i edges) s = .next s := by
      have mayNot : gateMayComplete s.monitors[i] = false := by
        rw [gateMayComplete, Bool.and_eq_false_iff]
        by_cases runs : s.monitors[i].gate.run = true
        · exact .inr (decide_eq_false fun early => may ⟨runs, early⟩)
        · exact .inl (by simpa using runs)
      show Host.Outcome.next _ = _
      rw [mayNot, Bool.and_false]
      rfl
    obtain rfl := Host.Outcome.next.inj (row.symm.trans same)
    rw [was] at is
    cases is
  case pos =>
    obtain ⟨runs, early⟩ := may
    have event := gateCompletion_eq (edges := edges) on runs early
    obtain rfl := Host.Outcome.next.inj (row.symm.trans event)
    rw [completion_monitor] at is
    have record := completion_bars (begins.records i) begins.used was is
    have left := settleEvent_barred s false false (i := i)
      (m := qualify i (checkedReasons s i edges) (measured s i edges)) (by rw [record]; rfl)
    rw [record] at left
    obtain ⟨⟨hold, -, -, loader, -⟩, -⟩ := (completion_event s i edges).settled false false s
    obtain ⟨value, gone, -⟩ := (begins.loss (measuring_running on) row hold loader).barred (by rw [left]; rfl)
    exact ⟨value, (valueMade_base value).trans (by rw [left]; rfl), gone⟩

/-! ### Commands of the port, and a STALE entry (R61, R83, R159) -/

theorem LockedFull.lockout (begins : LockedFull i s) {n : Byte} (on : measuring s i = true) (names : inputOf n = some i) :
    Answers (.lockout n) s fun t =>
      ValueMade i s t ∧ t.follower.value.base = s.records[i].effective ∧ t.selector.active ≠ some i := by
  have runs := measuring_running on
  have noHold : s.hold = none := ((running_iff s).mp runs).1
  have row := (lockout_done noHold names on).1
  have record := lockInput_record (begins.records i) begins.used
  obtain ⟨⟨⟨hold, -, -, loader, -⟩, -⟩, -⟩ := lockInput_frame i s
  have here : (answer 1 [resDone] (lockInput i s)).records[i] =
      s.records[i].barredBy { s.records[i].reasons with lockout := true } := record
  obtain ⟨value, gone, -⟩ := (begins.loss runs row hold loader).barred (by rw [here]; rfl)
  exact ⟨_, row, value, (valueMade_base value).trans (by rw [here]; rfl), gone⟩

theorem LockedFull.forcedHoldover (begins : LockedFull i s) {n : Byte} (on : running s = true) (number : n.toNat = 7) :
    Answers (.force n) s fun t => ValueMade i s t ∧ t.follower.output = .holdover ∧ t.selector.active = none := by
  obtain ⟨⟨t, row, -, -, -, holdover, ⟨hold, -, -, loader, -⟩, -⟩, -⟩ :=
    forceHoldsTheShelf n s ((running_iff s).mp on).1 begins.records begins.law
  obtain ⟨-, -, active, output, -⟩ := (holdover on number).1 (.inr ⟨begins.locked, begins.full⟩)
  exact ⟨t, row, ((begins.loss on row hold loader).1 (by simp [active])).1, output, active⟩

theorem LockedFull.forcedInput (begins : LockedFull i s) {n : Byte} (on : running s = true) (other : j ≠ i)
    (number : n.toNat = j.val + 1) (ready : s.records[j].state = .ready) : Answers (.force n) s fun t =>
      ValueMade i s t ∧ t.follower.output = .acquiring ∧ t.selector.active = some j := by
  obtain ⟨⟨t, row, -, -, input, -, ⟨hold, -, -, loader, -⟩, -⟩, -⟩ :=
    forceHoldsTheShelf n s ((running_iff s).mp on).1 begins.records begins.law
  obtain ⟨-, -, active, state, taken⟩ := (input on j number).1 (.inl ready)
  have notBefore : s.selector.active ≠ some j := fun h => other (Option.some_inj.mp (begins.active.symm.trans h)).symm
  obtain ⟨-, acquires, -⟩ := taken notBefore
  have left : t.selector.active ≠ some i := by
    rw [active]
    exact fun h => other (Option.some_inj.mp h)
  exact ⟨t, row, ((begins.loss on row hold loader).1 left).1, (acquires state).1, active⟩

theorem LockedFull.stale (begins : LockedFull i s) {k : Slot} (on : running s = true) (loader : LoaderLaw s)
    (peer : (inputCfg s i).use = .peer) (bound : (inputCfg s i).bound = k.val + 1)
    (deadline : ∃ e ∈ s.peers.entries[k], e.state = .fresh ∧ 3 * e.interval * 20000000 ≤ e.ageCycles + 1) :
    Answers (.entryStale k) s fun t =>
      ValueMade i s t ∧ t.follower.value.base = 15 ∧ t.selector.active ≠ some i := by
  obtain ⟨e, found, fresh, old⟩ := deadline
  obtain ⟨t, row, -, -, -, unfit, -, ⟨hold, -, -, same, -⟩, -⟩ :=
    (entryGoesStale k e ⟨0, 0, 0, [], 0⟩ ⟨0, 0, 0, [], 0⟩ s on).1 (Option.mem_def.mp found) fresh old loader
  obtain ⟨-, effective, -, -, barred⟩ := unfit i peer bound
  obtain ⟨value, gone, -⟩ := (begins.loss on row hold same).barred (barred begins.used).1
  exact ⟨t, row, value, (valueMade_base value).trans effective, gone⟩

end
end Sys2Proof.Machine

open Sys2Proof Sys2Proof.Machine

/-- Settles O25: an event finds the output LOCKED with its offsets, or bridging with the value computed, as the Selector
decides; a decision that leaves the input computes it too, and a value being available, no decision runs free. -/
theorem valueComputedOnLoss : Obligations.ValueComputedOnLoss := by
  unfold Obligations.ValueComputedOnLoss
  intro c i high edge edges n k s on records law active locked full
  have begins : LockedFull i s := ⟨records, law, active, locked, full⟩
  refine ⟨?_, fun measured was cause => ?_, fun measured was => ?_, fun measured number => ?_,
    begins.forcedHoldover on, fun j other number ready => begins.forcedInput on other number ready, begins.stale on⟩
  · obtain ⟨t, row⟩ := exec_answered c s
    exact ⟨t, row, (exec_happens row).lossLaw begins on⟩
  · exact ⟨_, msPoint_eq ((running_iff s).mp on).1, begins.signal measured was (signal_arises measured cause)⟩
  · obtain ⟨t, row⟩ := exec_answered (.gateCompletion i edges) s
    exact ⟨t, row, begins.freq measured was row⟩
  · exact begins.lockout measured ((inputOf_eq_some_iff n i).mpr number)

end


section
/-! PROOF. What an event appends to the Event Log: beside the records of its own block, INPUT_BARRED and INPUT_READY of
each input that it moves, in their order (R64), and the records of its end (R82, R86). -/

namespace Sys2Proof.Machine

section

variable {s t u m before : State} {c : Instr} {i j : Inp} {must expired : Bool} {r r' : InputRec}

/-! ### The record of one input (R64) -/

/-- What the move of input `i` from record `r` to `r'` appends. -/
def moveEntries (i : Inp) (r r' : InputRec) : List LogEntry :=
  if r.state ≠ .barred ∧ r'.state = .barred then [(.inputBarred, inputNumber i, r'.reasons.bits)]
  else if (r.state = .proving ∨ r.state = .barred) ∧ (r'.state = .ready ∨ r'.state = .active) then
    [(.inputReady, inputNumber i, (passStatus r).toNat)]
  else []

theorem moveEntries_kind (i : Inp) (r r' : InputRec) :
    ∀ e ∈ moveEntries i r r', e.1 = .inputBarred ∨ e.1 = .inputReady := by
  unfold moveEntries
  split
  · simp
  · split <;> simp

theorem moveEntries_length (i : Inp) (r r' : InputRec) : (moveEntries i r r').length ≤ 1 := by
  unfold moveEntries
  split
  · simp
  · split <;> simp

/-- An input that stays in its state appends nothing. -/
theorem moveEntries_same (i : Inp) (state : r'.state = r.state) : moveEntries i r r' = [] := by
  unfold moveEntries
  rw [state, if_neg (fun h => h.1 h.2), if_neg]
  rintro ⟨h | h, g | g⟩ <;> rw [h] at g <;> cases g

theorem moveEntries_barred (i : Inp) (notBarred : r.state ≠ .barred) (barred : r'.state = .barred) :
    moveEntries i r r' = [(.inputBarred, inputNumber i, r'.reasons.bits)] := if_pos ⟨notBarred, barred⟩

theorem moveEntries_ready (i : Inp) (wasOut : r.state = .proving ∨ r.state = .barred) (ready : r'.state = .ready) :
    moveEntries i r r' = [(.inputReady, inputNumber i, (passStatus r).toNat)] := by
  unfold moveEntries
  rw [if_neg (by simp [ready]), if_pos ⟨wasOut, .inl ready⟩]

/-- Neither barred nor passed. -/
theorem moveEntries_nil (i : Inp) (bars : r'.state = .barred → r.state = .barred)
    (passes : (r.state = .proving ∨ r.state = .barred) → r'.state ≠ .ready ∧ r'.state ≠ .active) :
    moveEntries i r r' = [] := by
  unfold moveEntries
  rw [if_neg fun h => h.1 (bars h.2), if_neg]
  rintro ⟨wasOut, isUsable⟩
  obtain ⟨notReady, notActive⟩ := passes wasOut
  exact isUsable.elim notReady notActive

/-- The Selector, which takes and gives up, passes no input and bars none. -/
theorem SelectorMove.moveEntries_eq {r'' : InputRec} (move : SelectorMove r' r'') (i : Inp) (r : InputRec) :
    moveEntries i r r'' = moveEntries i r r' := by
  cases move with
  | same => rfl
  | usable state state' chosen => rcases state with h | h <;> rcases chosen with rfl | rfl <;> simp [moveEntries, h]
  | suspect state => rfl

/-- The status of an input that passes through PROVING from BARRED. -/
theorem passStatus_entered (c : InputCfg) (barred : r.state = .barred) (passes : (r.proven c).wtr.passes = true) :
    (r.proven c).wtr.code = (passStatus r).toNat := by
  simp only [InputRec.proven, entryWtr] at passes ⊢
  rw [passStatus, if_neg (show ¬r.state = .proving by rw [barred]; decide)]
  cases seen : r.hardSeen with
  | false => rfl
  | true =>
    rw [seen, if_pos rfl] at passes
    rw [if_pos rfl, if_pos rfl]
    split <;> rename_i configured
    · rfl
    · rw [if_neg configured] at passes
      cases passes

/-- The status of an input that passes from PROVING. -/
theorem passStatus_proving (proving : r.state = .proving) (passes : r.wtr.passes = true) :
    r.wtr.code = (passStatus r).toNat := by
  rw [passStatus, if_pos proving]
  cases wtr : r.wtr with
  | none | running => rw [wtr] at passes; cases passes
  | served | met | waived => rfl

/-- The Qualifier records what it does to an input, and that is all it records. -/
theorem InputRec.Moved.entries {c : InputCfg} {full : Bool} {x : Reasons} {n : InputRec × Notice}
    (moved : r.Moved c full x n) (i : Inp) : noticeEntries i n.1 n.2 = moveEntries i r n.1 := by
  cases moved with
  | off | kept => exact (moveEntries_same i rfl).symm
  | joins => exact (moveEntries_same i (r := r) (r' := r.joined x) rfl).symm
  | proves state => exact (moveEntries_nil i (fun _ => state) (by simp [InputRec.proven])).symm
  | provesAndPasses state _ _ passes =>
    rw [moveEntries_ready i (.inr state) rfl, ← passStatus_entered c state passes]
    rfl
  | passes state _ _ passes =>
    rw [moveEntries_ready i (.inl state) rfl, ← passStatus_proving state passes]
    rfl
  | suspendsReady state | suspendsActive state =>
    exact (moveEntries_nil i (by simp [InputRec.suspend]) (by simp [InputRec.suspend])).symm
  | resumes state =>
    refine (moveEntries_nil i (fun barred => ?_) (by simp [state])).symm
    rcases r.resume_usable with h | h <;> rw [h] at barred <;> cases barred
  | bars _ notBarred => exact (moveEntries_barred i notBarred rfl).symm

/-! ### The records of all inputs -/

/-- What the moves of the inputs from their records in `s` to those in `m` append, in ascending input number. -/
def movedEntries (s m : State) : List LogEntry :=
  (List.finRange 6).flatMap fun i => moveEntries i s.records[i] m.records[i]

theorem flatMap_single {α β : Type} (f : α → List β) (a : α) : ∀ (l : List α), l.Nodup → a ∈ l →
    (∀ b ∈ l, b ≠ a → f b = []) → l.flatMap f = f a
  | [], _, mem, _ => by cases mem
  | b :: l, distinct, mem, others => by
    obtain ⟨absent, distinct'⟩ := List.nodup_cons.mp distinct
    rw [List.flatMap_cons]
    by_cases here : b = a
    · subst here
      have none : l.flatMap f = [] := List.flatMap_eq_nil_iff.mpr fun d member =>
        others d (List.mem_cons_of_mem _ member) fun same => absent (same ▸ member)
      rw [none, List.append_nil]
    · have there : a ∈ l := (List.mem_cons.mp mem).resolve_left (Ne.symm here)
      rw [others b List.mem_cons_self here, List.nil_append,
        flatMap_single f a l distinct' there fun d member => others d (List.mem_cons_of_mem _ member)]

/-- Only input `i` has moved. -/
theorem movedEntries_one (others : ∀ j : Inp, j ≠ i → m.records[j] = s.records[j]) :
    movedEntries s m = moveEntries i s.records[i] m.records[i] :=
  flatMap_single (fun i => moveEntries i s.records[i] m.records[i]) i _ (List.nodup_finRange 6) (List.mem_finRange i) fun j _ other =>
    moveEntries_same j (by rw [others j other])

theorem movedEntries_none (same : m.records = s.records) : movedEntries s m = [] :=
  List.flatMap_eq_nil_iff.mpr fun i _ => moveEntries_same i (by rw [same])

theorem movedEntries_length (s m : State) : (movedEntries s m).length ≤ 6 := by
  rw [movedEntries, List.length_flatMap]
  refine (List.sum_le_card_nsmul _ 1 fun n mem => ?_).trans (by simp)
  obtain ⟨i, -, rfl⟩ := List.mem_map.mp mem
  exact moveEntries_length ..

theorem movedEntries_kind (s m : State) : ∀ e ∈ movedEntries s m, e.1 = .inputBarred ∨ e.1 = .inputReady := by
  intro e mem
  obtain ⟨i, -, mem⟩ := List.mem_flatMap.mp mem
  exact moveEntries_kind _ _ _ e mem

theorem SelectorMoves.movedEntries_eq (moves : SelectorMoves m t) (s : State) : movedEntries s t = movedEntries s m :=
  List.flatMap_congr fun i _ => (moves i).moveEntries_eq i s.records[i]

/-! ### An event's own block (R52, R64, R86, R104, R159) -/

/-- A block that records, beside what is its own, the moves of the inputs. -/
structure Recorded (s m : State) (own : List LogEntry) : Prop where
  log : m.log = s.log.appendAll (own ++ movedEntries s m)
  few : own.length ≤ 2
  kind : ∀ e ∈ own, e.1 ≠ .inputBarred ∧ e.1 ≠ .inputReady ∧ e.1 ≠ .switched

/-- A move of input `i`, on a state that has its record and the log as they were. -/
theorem Recorded.of_move {n : InputRec × Notice} (records : u.records = s.records) (log : u.log = s.log)
    (entries : noticeEntries i n.1 n.2 = moveEntries i s.records[i] n.1) : Recorded s (applyMove i n u) [] where
  log := by
    rw [applyMove_entries, log, entries, List.nil_append, movedEntries_one (i := i), applyMove_get, if_pos rfl]
    intro j other
    rw [applyMove_get, if_neg (Ne.symm other), records]
  few := by simp
  kind := by simp

theorem Recorded.of_qualify (law : RecordLaw s.records[i]) (records : u.records = s.records) (log : u.log = s.log)
    (x : Reasons) : Recorded s (qualify i x u) [] := by
  rw [qualify_eq, records]
  exact .of_move records log (InputRec.Moved.entries (InputRec.move_moved law) i)

theorem Recorded.of_own {own : List LogEntry} (records : m.records = s.records) (log : m.log = s.log.appendAll own)
    (few : own.length ≤ 2) (kind : ∀ e ∈ own, e.1 ≠ .inputBarred ∧ e.1 ≠ .inputReady ∧ e.1 ≠ .switched) :
    Recorded s m own where
  log := by rw [movedEntries_none records, List.append_nil, log]
  few := few
  kind := kind

/-- The inputs bound to a station whose entry has changed. -/
theorem recomputeBound_moves (a : Nat) (records : RecordsLawful u) :
    (recomputeBound a u).log = u.log.appendAll (movedEntries u (recomputeBound a u)) := by
  rw [recomputeBound_entries, movedEntries]
  refine congrArg _ (List.flatMap_congr fun i _ => ?_)
  rw [recomputeBound_get, recomputeEntries]
  split
  · have moved : (regraded u i).Moved (inputCfg u i) (windowFull u i) (regradedReasons u i) _ :=
      InputRec.move_moved (regraded_lawful (records i))
    rw [moved.entries i, recompute_self]
    rfl
  · exact (moveEntries_same i rfl).symm

theorem EntryPut.recorded {k : Slot} {e : Option PeerEntry} (put : EntryPut s k e u) (records : RecordsLawful s) :
    ∃ own : List LogEntry, Recorded s (recomputeBound (address k) u) own := by
  have moves := recomputeBound_moves (u := u) (address k) ((recordsLawful_congr put.records).mpr records)
  have same : movedEntries u (recomputeBound (address k) u) = movedEntries s (recomputeBound (address k) u) := by
    rw [movedEntries, put.records]
    rfl
  rw [same] at moves
  rcases put.log with log | ⟨kind, a, b, kinds, log⟩
  · exact ⟨[], by rw [moves, log, List.nil_append], by simp, by simp⟩
  · refine ⟨[(kind, a, b)], by rw [moves, log, EventLog.appendAll_append, EventLog.appendAll_one], by simp, ?_⟩
    rcases kinds with rfl | rfl | rfl <;> simp

/-- What the block of each event records. -/
theorem Body.recorded (body : Body c s must expired m) (records : RecordsLawful s) :
    ∃ own : List LogEntry, Recorded s m own := by
  cases body with
  | @arises i high edge => exact ⟨[], .of_qualify (u := s.withMonitor i _) (records i) rfl rfl _⟩
  | @clears i high edge => exact ⟨[], .of_qualify (u := s.withMonitor i _) (records i) rfl rfl _⟩
  | @gate i edges _ m' on may done =>
    refine ⟨[], .of_qualify (u := takeOffset i m' (s.withMonitor i m')) (records i) (by rw [takeOffset_records]; rfl) ?_ _⟩
    rw [takeOffset]
    split <;> rfl
  | @holdOff i _ _ suspect => exact ⟨[], .of_move rfl rfl (moveEntries_barred i (by simp [suspect, -Fin.getElem_fin]) rfl).symm⟩
  | @wtr i _ _ proving runs =>
    have moved := InputRec.promote_moved (c := inputCfg s i) (full := windowFull s i) (served_lawful (records i) proving) proving
    refine ⟨[], .of_move rfl rfl ((moved.entries i).trans ?_)⟩
    generalize ({ s.records[i] with wtr := .served } : InputRec).promote (windowFull s i) = n
    have status : passStatus { s.records[i] with wtr := .served } = passStatus s.records[i] := by
      simp only [passStatus, proving, if_true]
      cases wtr : s.records[i].wtr with
      | running => rfl
      | none | served | met | waived => simp [wtr, Wtr.isRunning, -Fin.getElem_fin] at runs
    simp only [moveEntries, status]
  | @lockout n i | @release n i => exact ⟨[], .of_qualify (u := s) (records i) rfl rfl _⟩
  | force | unforce => exact ⟨[], .of_own rfl rfl (by simp) (by simp)⟩
  | value =>
    have same : (clearHoldoverForce (expireValue s)).records = s.records := by
      rw [clearHoldoverForce_records, expireValue_records]
    by_cases forced : (expireValue s).selector.force = .holdover
    · refine ⟨[(.holdoverExpired, s.follower.value.base, s.follower.output.code), (.forceCleared, 7, 2)],
        .of_own same ?_ (by simp) (by simp)⟩
      rw [clearHoldoverForce, if_pos forced]
      rfl
    · refine ⟨[(.holdoverExpired, s.follower.value.base, s.follower.output.code)], .of_own same ?_ (by simp) (by simp)⟩
      rw [clearHoldoverForce, if_neg forced]
      rfl
  | age => exact ⟨[], .of_own rfl rfl (by simp) (by simp)⟩
  | warmup =>
    exact ⟨[(.warmupDone, (cfg s).warmup / 256, (cfg s).warmup % 256)], .of_own (by simp [clearWarmup]) rfl (by simp) (by simp)⟩
  | announced _ _ _ put | withdrawn _ _ _ put | stale _ _ _ _ put | removed _ _ _ _ put => exact put.recorded records

end
end Sys2Proof.Machine
end


section
/-! PROOF. O29: what an event records of a switch and of the inputs it bars and passes (R64, R82, R86), and the event
flag (R136). -/

namespace Sys2Proof.Machine

section

variable {s t u m before : State} {c : Instr} {i j a f : Inp} {must expired : Bool}

/-! ### The records of one kind that an event appends (R64) -/

/-- The log has taken the records of all of `es`. -/
structure Took (s t : State) (es : List LogEntry) : Prop where
  records : t.log.records = s.log.records ++ es.map (LogEntry.record s.log.uptime)

theorem Took.drop {es : List LogEntry} (took : Took s t es) :
    t.log.records.drop s.log.records.length = es.map (LogEntry.record s.log.uptime) := by
  rw [took.records, List.drop_left]

theorem Took.appended {es : List LogEntry} (took : Took s t es) (kind : EventKind) :
    appended kind s t = (es.filter fun e => e.1 = kind).map (LogEntry.record s.log.uptime) := by
  rw [Sys2Proof.appended, took.drop, List.filter_map]
  rfl

theorem Took.mem {es : List LogEntry} (took : Took s t es) {e : LogEntry} (mem : e ∈ es) :
    e.record s.log.uptime ∈ t.log.records.drop s.log.records.length := by
  rw [took.drop]
  exact List.mem_map_of_mem mem

theorem Took.kind {es : List LogEntry} (took : Took s t es) {kind : EventKind} (other : ∀ e ∈ es, e.1 ≠ kind) :
    ∀ r ∈ t.log.records.drop s.log.records.length, r.kind ≠ kind := by
  rw [took.drop]
  intro r mem
  obtain ⟨e, entry, rfl⟩ := List.mem_map.mp mem
  exact other e entry

theorem filter_none {es : List LogEntry} {kind : EventKind} (other : ∀ e ∈ es, e.1 ≠ kind) :
    (es.filter fun e => e.1 = kind) = [] := by
  rw [List.filter_eq_nil_iff]
  intro e mem same
  exact other e mem (by simpa using same)

/-- INPUT_BARRED of exactly the inputs that are barred. -/
theorem movedEntries_barred (s t : State) :
    ((movedEntries s t).filter fun e => e.1 = .inputBarred).map (LogEntry.record s.log.uptime) = barredRecords s t := by
  have each (i : Inp) : ((moveEntries i s.records[i] t.records[i]).filter fun e => e.1 = .inputBarred) =
      if s.records[i].state ≠ .barred ∧ t.records[i].state = .barred then
        [(.inputBarred, inputNumber i, t.records[i].reasons.bits)] else [] := by
    unfold moveEntries
    split
    · rfl
    · split <;> rfl
  rw [movedEntries, List.filter_flatMap]
  simp only [each]
  rw [flatMap_ite_singleton, List.map_map]
  rfl

/-- INPUT_READY of exactly the inputs that pass to READY. -/
theorem movedEntries_ready (s t : State) :
    ((movedEntries s t).filter fun e => e.1 = .inputReady).map (LogEntry.record s.log.uptime) = readyRecords s t := by
  have each (i : Inp) : ((moveEntries i s.records[i] t.records[i]).filter fun e => e.1 = .inputReady) =
      if (s.records[i].state = .proving ∨ s.records[i].state = .barred) ∧
          (t.records[i].state = .ready ∨ t.records[i].state = .active) then
        [(.inputReady, inputNumber i, (passStatus s.records[i]).toNat)] else [] := by
    unfold moveEntries
    split <;> rename_i bars
    · rw [if_neg]
      · rfl
      · rintro ⟨-, h | h⟩ <;> rw [bars.2] at h <;> cases h
    · split <;> rfl
  rw [movedEntries, List.filter_flatMap]
  simp only [each]
  rw [flatMap_ite_singleton, List.map_map]
  refine List.map_congr_left fun i _ => ?_
  simp only [Function.comp_apply, LogEntry.record, BitVec.ofNat_toNat, BitVec.setWidth_eq]
  rfl

/-- The records of an event of a part whose log has room: those of its block, of the moves of the inputs, and of its end. -/
theorem Recorded.settled {own : List LogEntry} (recorded : Recorded s m own) (room : s.log.records.length ≤ 20) :
    Took s (settleEvent s must expired m) (own ++ movedEntries s (settleEvent s must expired m) ++ clearedEntries m ++
      turnEntries s must expired (clearBarredForce m)) := by
  have moved := (settleEvent_moves s must expired m).movedEntries_eq s
  have log := settleEvent_entries s must expired m
  rw [recorded.log, endEntries, ← EventLog.appendAll_append, ← moved, ← List.append_assoc] at log
  have few := recorded.few
  have six := movedEntries_length s (settleEvent s must expired m)
  have cleared : (clearedEntries m).length ≤ 1 := by
    unfold clearedEntries
    repeat' split
    all_goals simp
  have turn : (turnEntries s must expired (clearBarredForce m)).length ≤ 1 := by
    unfold turnEntries switchEntries
    repeat' split
    all_goals simp
  refine ⟨?_⟩
  rw [log, EventLog.appendAll_fits]
  simp only [List.length_append]
  omega

/-! ### The source before the Selector evaluates (R58, R78) -/

/-- The state that the Selector decides on, whatever the event. -/
theorem Body.deciding (body : Body c s must expired m) (records : RecordsLawful s) (law : SelectionLaw s) :
    Deciding s.selector.active (clearBarredForce m) ∧ (m.selector.active = s.selector.active ∨
      m.selector.active = none ∧ ∃ a : Inp, s.selector.active = some a ∧ m.records[a].state = .barred) := by
  rcases body.mid records law with mid | ⟨f, rfl, -, -, -, can⟩
  · exact ⟨mid.deciding, mid.source.imp_right fun ⟨gone, a, active, _, barred⟩ => ⟨gone, a, active, barred⟩⟩
  · exact ⟨setForce_deciding records law can, .inl rfl⟩

/-- Only the expiry of the value that is in use is recorded as such. -/
theorem Body.expired_iff (body : Body c s must expired m) (law : SelectionLaw s) :
    expired = true ↔ c = .valueExpiry ∧ s.follower.output = .holdover := by
  obtain ⟨-, -, -, -, -, forced⟩ := law
  cases body with
  | value =>
    simp only [expiryMoves, decide_eq_true_eq, true_and]
    exact ⟨fun h => h.elim id forced, .inl⟩
  | _ => simp

theorem Body.not_expired (body : Body c s must expired m) (optional : must = false) : expired = false := by
  cases body with
  | value => exact optional
  | _ => rfl

/-- On the own oscillator an event leaves the output until the Selector decides, unless the value in use expires. -/
theorem Body.own_output (body : Body c s must expired m) (records : RecordsLawful s) (law : SelectionLaw s)
    (idle : s.selector.active = none) (notExpired : expired = false) : m.follower.output = s.follower.output := by
  rcases body.mid records law with mid | ⟨f, rfl, -⟩
  case inr => rfl
  have valid : m.follower.value.valid = s.follower.value.valid := by
    cases optional : must with
    | false => exact body.valid_eq law idle optional
    | true =>
      cases body with
      | value => rw [notExpired] at optional; cases optional
      | warmup => simp [clearWarmup]
      | _ => cases optional
  obtain ⟨-, ⟨own, -⟩, -, value, -⟩ := law
  exact own_output_eq value mid.value (own.mp idle) ((not_following_iff _).mp (mid.own idle)) valid

/-- Where no evaluation is due the source is as it was. -/
theorem Body.source_of_not_due (body : Body c s false expired m) (records : RecordsLawful s) (law : SelectionLaw s)
    (idle : evaluationDue s (clearBarredForce m) = false) : sourceOf m = sourceOf s := by
  rcases body.mid records law with mid | ⟨f, rfl, -, -, other, can⟩
  case inr => exact absurd idle (setForce_due other can)
  have source := mid.source_of_not_due idle
  unfold sourceOf
  rw [source]
  cases active : s.selector.active with
  | some a => rfl
  | none =>
    simp only [body.own_output records law active (body.not_expired rfl)]

/-- The end of an event records a switch exactly where the source has changed in it. -/
theorem Body.turnEntries_eq (body : Body c s must expired m) (records : RecordsLawful s) (law : SelectionLaw s) :
    turnEntries s must expired (clearBarredForce m) =
      if sourceOf s = sourceOf (settleEvent s must expired m) then []
      else [(.switched, 16 * (sourceOf s).code + (sourceOf (settleEvent s must expired m)).code,
        (if expired then Cause.expired else (evaluate s.selector.active (clearBarredForce m)).2).code)] := by
  by_cases due : must = true ∨ evaluationDue s (clearBarredForce m) = true
  · obtain ⟨-, selector, follower, -⟩ := settleEvent_evaluated (expired := expired) due
    rw [turnEntries, if_pos (by simpa using due), switchEntries, sourceOf_congr selector follower]
  · simp only [not_or, Bool.not_eq_true] at due
    obtain ⟨rfl, idle⟩ := due
    obtain ⟨-, selector, follower⟩ := settleEvent_of_not_due (expired := expired) idle
    have same : sourceOf (settleEvent s false expired m) = sourceOf m := by
      simp only [sourceOf, selector, follower]
    rw [same, if_pos (body.source_of_not_due records law idle).symm, turnEntries, if_neg (by simp [idle])]

/-! ### The cause of a switch (R82) -/

/-- The Selector neither bars an input nor brings one out of BARRED. -/
theorem SelectorMove.barred_iff {r r' : InputRec} (move : SelectorMove r r') : r'.state = .barred ↔ r.state = .barred := by
  cases move with
  | same => rfl
  | usable state state' chosen => rcases state with h | h <;> rcases chosen with rfl | rfl <;> simp [h]
  | suspect => rfl

/-- Outside HOLDOVER the own grade is the floor grade, so an input that the Selector may choose is eligible exactly when
its grade passes that. -/
theorem eligible_iff_passesFloor (fit : s.records[a].fit = true) (outside : s.follower.output ≠ .holdover) :
    eligible s a = true ↔ PassesFloor s a := by
  have own : ownGrade s = floorGrade s := by
    rw [ownGrade, if_neg outside]
    rfl
  rw [eligible_iff, InEligibleSet, own]
  exact and_iff_right (of_decide_eq_true fit)

theorem passesFloor_congr (effective : t.records[a].effective = s.records[a].effective) (loader : t.loader = s.loader)
    (entries : t.peers.entries = s.peers.entries) (warm : t.follower.warm = s.follower.warm) :
    PassesFloor t a ↔ PassesFloor s a := by
  simp only [PassesFloor, floorGrade, entryOf, cfg, inputCfg_congr loader, effective, loader, entries, warm]

/-- The cause of the first decision of the event. -/
abbrev firstCause (s m : State) : Cause := (evaluate s.selector.active (clearBarredForce m)).2

theorem firstCause_eq (s m : State) : firstCause s m = (decision (clearBarredForce m)
    (s.selector.active.isSome && m.selector.active.isNone)).2 := by
  rw [firstCause, evaluate, clearBarredForce_selector]

/-- Unforced, with the active input barred in the event. -/
theorem decision_failed (unforced : s.selector.force = .none) (idle : s.selector.active = none) :
    (decision s true).2 = .failed := by
  simp only [decision, unforced, idle]
  split <;> rfl

theorem decision_available (unforced : s.selector.force = .none) (idle : s.selector.active = none) {b : Inp}
    (best : bestInput s = some b) : (decision s false).2 = .available := by
  simp only [decision, unforced, idle, best, Bool.false_eq_true, if_false]

/-- Unforced, with an active input that is not eligible. -/
theorem decision_ineligible (unforced : s.selector.force = .none) (active : s.selector.active = some a)
    (ineligible : eligible s a = false) : (decision s false).2 = .ineligible := by
  simp only [decision, unforced, active, ineligible]
  split <;> rfl

/-- Unforced, with an eligible active input: the best input takes its place, or it keeps it. -/
theorem decision_keeps (unforced : s.selector.force = .none) (active : s.selector.active = some a)
    (isEligible : eligible s a = true) : ∃ b : Inp, decision s false = keepOrLeave s a b := by
  cases best : bestInput s with
  | none => exact absurd ((eligible_iff s a).mp isEligible) ((bestInput_eq_none_iff s).mp best a)
  | some b => exact ⟨b, by simp only [decision, unforced, active, best, isEligible, if_true]⟩

theorem Deciding.fit_of_active {leaver : Option Inp} (ready : Deciding leaver s) (active : s.selector.active = some a) :
    s.records[a].fit = true := by
  have isActive := of_decide_eq_true ((ready.active a).mpr active)
  exact decide_eq_true (.inr (isActive.imp_right And.left))

/-- The source at the end of an event in which the Selector decides outside HOLDOVER. -/
theorem Deciding.settled_source (ready : Deciding before.selector.active (clearBarredForce m))
    (outside : m.follower.output ≠ .holdover) (due : must = true ∨ evaluationDue before (clearBarredForce m) = true) :
    sourceOf (settleEvent before must expired m) = decided (clearBarredForce m) := by
  obtain ⟨-, selector, follower, -⟩ := settleEvent_evaluated (expired := expired) due
  rw [sourceOf_congr selector follower, ready.evaluate_once (by simpa using outside), carryOut_sourceOf]

/-- The shelf was on its own oscillator, which it leaves for an input that has become available. -/
theorem Body.cause_available (body : Body c s must expired m) (records : RecordsLawful s) (law : SelectionLaw s)
    (notExpired : expired = false) (idle : s.selector.active = none)
    (unforced : (clearBarredForce m).selector.force = .none)
    (moved : sourceOf s ≠ sourceOf (settleEvent s must expired m)) : firstCause s m = .available := by
  obtain ⟨ready, sources⟩ := body.deciding records law
  have idle' : (clearBarredForce m).selector.active = none := by
    rw [clearBarredForce_selector]
    rcases sources with h | ⟨h, -⟩
    · exact h.trans idle
    · exact h
  rw [firstCause_eq, idle, Option.isSome_none, Bool.false_and]
  cases best : bestInput (clearBarredForce m) with
  | some b => exact decision_available unforced idle' best
  | none =>
    have own := (not_following_iff _).mp (ready.leaver idle)
    have current := (decided_own unforced best idle' own).symm
    have output := body.own_output records law idle notExpired
    have before : sourceOf (clearBarredForce m) = sourceOf s := by
      simp only [sourceOf, idle', idle, clearBarredForce_follower, output]
    have after : sourceOf (settleEvent s must expired m) = sourceOf (clearBarredForce m) := by
      by_cases due : must = true ∨ evaluationDue s (clearBarredForce m) = true
      · obtain ⟨-, selector, follower, -⟩ := settleEvent_evaluated (expired := expired) due
        rw [sourceOf_congr selector follower, evaluate_of_current _ (fun _ => own) current]
      · simp only [not_or, Bool.not_eq_true] at due
        obtain ⟨rfl, noTurn⟩ := due
        obtain ⟨-, selector, follower⟩ := settleEvent_of_not_due (expired := expired) noTurn
        simp only [sourceOf, selector, follower, clearBarredForce_follower, clearBarredForce_selector]
    exact absurd (before.symm.trans after.symm) moved

/-- The table of R82 for a shelf that followed input `a`. -/
theorem Body.cause_of_input (body : Body c s must expired m) (records : RecordsLawful s) (law : SelectionLaw s)
    (active : s.selector.active = some a) (unforced : (clearBarredForce m).selector.force = .none)
    (moved : sourceOf s ≠ sourceOf (settleEvent s must expired m)) {t : State}
    (result : t = settleEvent s must expired m) :
    (t.records[a].state = .barred → firstCause s m = .failed) ∧
    (t.records[a].state ≠ .barred → ¬PassesFloor t a → firstCause s m = .ineligible) ∧
    (t.records[a].state ≠ .barred → PassesFloor t a → ∃ b : Inp, t.selector.active = some b ∧
      (t.records[b].effective < t.records[a].effective → firstCause s m = .better) ∧
      (¬t.records[b].effective < t.records[a].effective → firstCause s m = .reverted ∧ (cfg s).revertive = true)) := by
  subst result
  obtain ⟨ready, sources⟩ := body.deciding records law
  have moves := settleEvent_moves s must expired m
  have kept := settleEvent_kept s must expired m
  have barredIff : (settleEvent s must expired m).records[a].state = .barred ↔ m.records[a].state = .barred :=
    (moves a).barred_iff
  rw [firstCause_eq, active, Option.isSome_some, Bool.true_and]
  refine ⟨fun barred => ?_, ?_⟩
  · have idle : m.selector.active = none := by
      rcases sources with h | ⟨h, -⟩
      · have fit := ready.fit_of_active (a := a) (by rw [clearBarredForce_selector]; exact h.trans active)
        rw [clearBarredForce_records, notFit_of_state (barredIff.mp barred) (by decide)] at fit
        cases fit
      · exact h
    rw [idle]
    exact decision_failed unforced (by rw [clearBarredForce_selector]; exact idle)
  · by_cases barred : (settleEvent s must expired m).records[a].state = .barred
    · exact ⟨fun h => absurd barred h, fun h => absurd barred h⟩
    have here : m.selector.active = some a := by
      rcases sources with h | ⟨-, d, current, gone⟩
      · exact h.trans active
      · obtain rfl : a = d := Option.some_inj.mp (active.symm.trans current)
        exact absurd (barredIff.mpr gone) barred
    have here' : (clearBarredForce m).selector.active = some a := by rw [clearBarredForce_selector]; exact here
    have outside : (clearBarredForce m).follower.output ≠ .holdover := (ready.following a here').1.2
    have grades : PassesFloor (settleEvent s must expired m) a ↔ eligible (clearBarredForce m) a = true := by
      rw [eligible_iff_passesFloor (ready.fit_of_active here') outside]
      refine passesFloor_congr ?_ ?_ ?_ ?_
      · rw [moves.effective, clearBarredForce_records]
      · simp
      · simp
      · rw [kept.warm.1, clearBarredForce_follower]
    rw [here, Option.isNone_some]
    refine ⟨fun _ fails => decision_ineligible unforced here' (by simpa using mt grades.mpr fails), fun _ passes => ?_⟩
    obtain ⟨b, keeps⟩ := decision_keeps unforced here' (grades.mp passes)
    have due : must = true ∨ evaluationDue s (clearBarredForce m) = true := by
      by_contra idle
      simp only [not_or, Bool.not_eq_true] at idle
      obtain ⟨rfl, noTurn⟩ := idle
      obtain ⟨-, selector, -⟩ := settleEvent_of_not_due (expired := expired) noTurn
      rw [(sourceOf_input_iff s a).mpr active, (sourceOf_input_iff _ a).mpr (selector.trans here)] at moved
      exact moved rfl
    have source := ready.settled_source (expired := expired) (by simpa using outside) due
    rw [source, decided, keeps, (sourceOf_input_iff s a).mpr active] at moved
    rw [decided, keeps] at source
    have same (j : Inp) : (settleEvent s must expired m).records[j].effective =
        (clearBarredForce m).records[j].effective := by rw [moves.effective, clearBarredForce_records]
    have revertive : (cfg (clearBarredForce m)).revertive = (cfg s).revertive := by
      rw [cfg, cfg, clearBarredForce_loader, body.units.loader]
    rw [keeps]
    unfold keepOrLeave at moved source ⊢
    rw [revertive] at moved source ⊢
    refine ⟨b, ?_⟩
    by_cases better : (clearBarredForce m).records[b].effective < (clearBarredForce m).records[a].effective
    · rw [if_pos better] at source ⊢
      refine ⟨(sourceOf_input_iff _ b).mp source, fun _ => rfl, fun worse => ?_⟩
      rw [same, same] at worse
      exact absurd better worse
    · rw [if_neg better] at moved source ⊢
      by_cases reverts : (cfg s).revertive = true ∧ b ≠ a
      · rw [if_pos reverts] at source ⊢
        refine ⟨(sourceOf_input_iff _ b).mp source, fun isBetter => ?_, fun _ => ⟨rfl, reverts.1⟩⟩
        rw [same, same] at isBetter
        exact absurd isBetter better
      · rw [if_neg reverts] at moved
        exact absurd rfl moved

/-- The cause of every switch, by the table of R82. -/
theorem Body.switchCause (body : Body c s must expired m) (records : RecordsLawful s) (law : SelectionLaw s)
    (moved : sourceOf s ≠ sourceOf (settleEvent s must expired m)) :
    SwitchCause (c = .valueExpiry ∧ s.follower.output = .holdover) s (settleEvent s must expired m)
      (BitVec.ofNat 8 (if expired then Cause.expired else firstCause s m).code) := by
  have expires := body.expired_iff law
  have forces := settleEvent_force s must expired m
  refine ⟨fun holds => ?_, fun holds forced => ?_, fun holds unforced => ?_⟩
  · rw [expires.mpr holds]
    rfl
  all_goals
    have notExpired : expired = false := by simpa using mt expires.mp holds
    rw [if_neg (mt expires.mp holds)]
  · rw [forces] at forced
    rw [firstCause_eq, (decision_cause_forced _).mpr forced]
    rfl
  · rw [forces] at unforced
    refine ⟨fun idle => ?_, fun a active => ?_⟩
    · rw [body.cause_available records law notExpired idle unforced moved]
      rfl
    · obtain ⟨failed, ineligible, left⟩ := body.cause_of_input records law active unforced moved rfl
      refine ⟨fun barred => by rw [failed barred]; rfl, fun usable fails => by rw [ineligible usable fails]; rfl,
        fun usable passes => ?_⟩
      obtain ⟨b, taken, better, reverted⟩ := left usable passes
      refine ⟨b, taken, fun isBetter => by rw [better isBetter]; rfl, fun notBetter => ?_⟩
      obtain ⟨cause, revertive⟩ := reverted notBetter
      exact ⟨by rw [cause]; rfl, revertive⟩

/-! ### The force that an event clears (R86, R87) -/

theorem recompute_force (i : Inp) (s : State) : (recompute i s).selector.force = s.selector.force := by
  rw [recompute_eq, qualify_force]
  rfl

theorem recomputeBound_force (b : Nat) (s : State) : (recomputeBound b s).selector.force = s.selector.force := by
  rw [recomputeBound_eq]
  induction List.finRange 6 using List.reverseRecOn with
  | nil => rfl
  | append_singleton inputs i ih =>
    rw [List.foldl_append, List.foldl_cons, List.foldl_nil]
    split
    · rw [recompute_force, ih]
    · exact ih

theorem takeOffset_selector (i : Inp) (m' : Monitor) (s : State) : (takeOffset i m' s).selector = s.selector := by
  unfold takeOffset
  split <;> rfl

/-- A force that names an input stands until the end of the event, unless the command sets another. -/
theorem Body.force_stands (body : Body c s must expired m) (forced : s.selector.force = .input f) :
    m.selector.force = .input f ∨ ∃ g : Force, m = s.withForce g := by
  cases body with
  | arises | clears | lockout | release => exact .inl ((qualify_force ..).trans forced)
  | gate => exact .inl ((qualify_force ..).trans ((congrArg Selector.force (takeOffset_selector ..)).trans forced))
  | holdOff | wtr =>
    rw [applyMove_eq, followMove_force, logNotice_selector]
    exact .inl forced
  | force | unforce => exact .inr ⟨_, rfl⟩
  | value =>
    have stands : (clearHoldoverForce (expireValue s)).selector.force = s.selector.force := by
      rw [clearHoldoverForce_selector, expireValue_selector, forced, if_neg (by simp)]
    exact .inl (stands.trans forced)
  | age => exact .inl forced
  | warmup => exact .inl (by simpa [clearWarmup] using forced)
  | announced _ _ _ put | withdrawn _ _ _ put | stale _ _ _ _ put | removed _ _ _ _ put =>
    rw [recomputeBound_force, put.selector]
    exact .inl forced

/-- A force that names an input which the event bars is cleared and recorded. -/
theorem Body.force_barred (body : Body c s must expired m) (law : SelectionLaw s) (forced : s.selector.force = .input f)
    (barred : (settleEvent s must expired m).records[f].state = .barred) :
    (settleEvent s must expired m).selector.force = .none ∧ clearedEntries m = [(.forceCleared, inputNumber f, 1)] := by
  have barred' := (settleEvent_moves s must expired m f).barred_iff.mp barred
  rcases body.force_stands forced with stands | ⟨g, rfl⟩
  · rw [settleEvent_force, clearBarredForce_selector, if_pos ⟨f, stands, barred'⟩, clearedEntries, stands]
    exact ⟨rfl, if_pos barred'⟩
  · exact absurd forced (barred_left law barred').2

/-! ### Everything that O29 says of the inputs, the Selector and the log -/

/-- What an event of a RUNNING part records, and what a take makes. -/
structure SwitchRecorded (expires : Prop) (s t : State) : Prop where
  switched : sourceOf s ≠ sourceOf t → ∃ cause : Byte,
    t.log.records.getLast? = some
      { uptime := s.log.uptime, kind := .switched, arg2 := cause
        arg1 := BitVec.ofNat 8 (16 * (sourceOf s).code + (sourceOf t).code) } ∧
    s.log.records.length < t.log.records.length ∧
    (∀ r ∈ (t.log.records.drop s.log.records.length).dropLast, r.kind ≠ .switched) ∧ SwitchCause expires s t cause
  unswitched : sourceOf s = sourceOf t → ∀ r ∈ t.log.records.drop s.log.records.length, r.kind ≠ .switched
  taken : ∀ j : Inp, t.selector.active = some j → s.selector.active ≠ some j → TakeMade j t
  barred : appended .inputBarred s t = barredRecords s t
  ready : appended .inputReady s t = readyRecords s t
  unforced : ∀ f : Inp, s.selector.force = .input f → t.records[f].state = .barred → t.selector.force = .none ∧
    { uptime := s.log.uptime, kind := .forceCleared, arg1 := BitVec.ofNat 8 (f.val + 1), arg2 := 0x01 } ∈
      t.log.records.drop s.log.records.length

theorem clearedEntries_kind (m : State) : ∀ e ∈ clearedEntries m, e.1 = .forceCleared := by
  unfold clearedEntries
  repeat' split
  all_goals simp

theorem turnEntries_kind (before : State) (must expired : Bool) (m : State) :
    ∀ e ∈ turnEntries before must expired m, e.1 = .switched := by
  unfold turnEntries switchEntries
  repeat' split
  all_goals simp

/-- The event of a RUNNING part. -/
theorem Body.switchRecorded (body : Body c s must expired m) (records : RecordsLawful s) (law : SelectionLaw s)
    (room : s.log.records.length ≤ 20) :
    SwitchRecorded (c = .valueExpiry ∧ s.follower.output = .holdover) s (settleEvent s must expired m) := by
  obtain ⟨own, recorded⟩ := body.recorded records
  have took := recorded.settled (must := must) (expired := expired) room
  have turn := body.turnEntries_eq records law
  have cause := body.switchCause records law
  have forces := fun (f : Inp) => body.force_barred law (f := f)
  have take (j : Inp) := settleEvent_takeMade (before := s) (must := must) (expired := expired) (m := m) (j := j)
  have ownKind := recorded.kind
  have movedKind := movedEntries_kind s (settleEvent s must expired m)
  have clearedKind := clearedEntries_kind m
  have turnKind := turnEntries_kind s must expired (clearBarredForce m)
  have source := (body.deciding records law).2
  generalize settleEvent s must expired m = t at *
  have firstOthers : ∀ e ∈ own ++ movedEntries s t ++ clearedEntries m, e.1 ≠ .switched := by
    intro e mem
    simp only [List.mem_append] at mem
    rcases mem with (mem | mem) | mem
    · exact (ownKind e mem).2.2
    · rcases movedKind e mem with h | h <;> rw [h] <;> decide
    · rw [clearedKind e mem]
      decide
  have onlyMoves (kind : EventKind) (notOwn : ∀ e ∈ own, e.1 ≠ kind) (notCleared : kind ≠ .forceCleared)
      (notSwitched : kind ≠ .switched) : appended kind s t =
        ((movedEntries s t).filter fun e => e.1 = kind).map (LogEntry.record s.log.uptime) := by
    rw [took.appended, List.filter_append, List.filter_append, List.filter_append, filter_none notOwn,
      filter_none (es := clearedEntries m) fun e mem => by rw [clearedKind e mem]; exact notCleared.symm,
      filter_none (es := turnEntries s must expired (clearBarredForce m)) fun e mem => by
        rw [turnKind e mem]; exact notSwitched.symm,
      List.nil_append, List.append_nil, List.append_nil]
  constructor
  · intro moved
    rw [turn, if_neg moved] at took
    refine ⟨_, ?_, ?_, ?_, cause moved⟩
    · rw [took.records, List.map_append, ← List.append_assoc, List.map_singleton, List.getLast?_append_cons]
      rfl
    · rw [took.records]
      simp only [List.length_append, List.length_map, List.length_cons]
      omega
    · rw [took.drop, List.map_append, List.map_singleton, List.dropLast_concat]
      intro r mem
      obtain ⟨e, entry, rfl⟩ := List.mem_map.mp mem
      exact firstOthers e entry
  · intro same
    rw [turn, if_pos same, List.append_nil] at took
    exact took.kind firstOthers
  · intro j taken other
    refine take j taken fun here => ?_
    rcases source with h | ⟨h, -⟩
    · exact other (h.symm.trans here)
    · rw [h] at here
      cases here
  · rw [onlyMoves _ (fun e mem => (ownKind e mem).1) (by decide) (by decide), movedEntries_barred]
  · rw [onlyMoves _ (fun e mem => (ownKind e mem).2.1) (by decide) (by decide), movedEntries_ready]
  · intro f forced barred
    obtain ⟨unforced, cleared⟩ := forces f forced barred
    refine ⟨unforced, took.mem (e := (.forceCleared, inputNumber f, 1)) ?_⟩
    simp [cleared]

/-- A command that moves no input and does not switch, and appends nothing that O29 speaks of. -/
theorem SwitchRecorded.of_still {expires : Prop} (law : SelectionLaw s)
    (state : ∀ j : Inp, t.records[j].state = s.records[j].state) (active : t.selector.active = s.selector.active)
    (source : sourceOf t = sourceOf s) (kinds : ∀ r ∈ t.log.records.drop s.log.records.length,
      r.kind ≠ .switched ∧ r.kind ≠ .inputBarred ∧ r.kind ≠ .inputReady) : SwitchRecorded expires s t where
  switched moved := absurd source.symm moved
  unswitched _ r mem := (kinds r mem).1
  taken j here other := absurd (active.symm.trans here) other
  barred := by
    have none : ((List.finRange 6).filter fun i : Inp =>
        s.records[i].state ≠ .barred ∧ t.records[i].state = .barred) = [] := by
      simp only [List.filter_eq_nil_iff, state, decide_eq_true_eq]
      exact fun i _ h => h.1 h.2
    rw [barredRecords, none, Sys2Proof.appended, List.filter_eq_nil_iff.mpr fun r mem => by simpa using (kinds r mem).2.1]
    rfl
  ready := by
    have none : ((List.finRange 6).filter fun i : Inp => (s.records[i].state = .proving ∨ s.records[i].state = .barred) ∧
        (t.records[i].state = .ready ∨ t.records[i].state = .active)) = [] := by
      simp only [List.filter_eq_nil_iff, state, decide_eq_true_eq]
      rintro i - ⟨h | h, g | g⟩ <;> rw [h] at g <;> cases g
    rw [readyRecords, none, Sys2Proof.appended, List.filter_eq_nil_iff.mpr fun r mem => by simpa using (kinds r mem).2.2]
    rfl
  unforced f forced barred := absurd forced (barred_left law ((state f).symm.trans barred)).2

theorem settleEnd_recorded {expires : Prop} (law : SelectionLaw s) (acquiring : s.follower.output = .acquiring) :
    SwitchRecorded expires s (settleEnd s) := by
  have log : (settleEnd s).log = s.log.appendAll [(.outputLocked, (lockedArgs s).1, (lockedArgs s).2)] := by
    rw [settleEnd, logEvent_log]
    rfl
  have selector : (settleEnd s).selector = s.selector := by simp [settleEnd]
  refine .of_still law (fun j => by simp [settleEnd]) (by rw [selector]) ?_ fun r mem => ?_
  · cases active : s.selector.active with
    | none =>
      rcases law.2.1.1.mp active with own | own <;> rw [own] at acquiring <;> cases acquiring
    | some a => rw [(sourceOf_input_iff s a).mpr active, (sourceOf_input_iff _ a).mpr (by rw [selector, active])]
  · rw [log] at mem
    obtain ⟨e, entry, kind⟩ := s.log.appendAll_kinds _ r mem
    rw [kind, List.mem_singleton.mp entry]
    exact ⟨by simp, by simp, by simp⟩

theorem drop_pop (l : EventLog) : l.pop.records.drop l.records.length = [] :=
  List.drop_eq_nil_of_le (by simp [EventLog.pop])

/-- What every command of a part that stays RUNNING records. -/
theorem Happens.switchRecorded (happens : Happens c s t) (on : running s = true) (on' : running t = true)
    (records : RecordsLawful s) (law : SelectionLaw s) (room : s.log.records.length ≤ 20) :
    SwitchRecorded (c = .valueExpiry ∧ s.follower.output = .holdover) s t := by
  cases happens with
  | aside aside =>
    refine .of_still law (fun j => by rw [aside.records]) (by rw [aside.selector])
      (sourceOf_congr aside.selector aside.follower) fun r mem => ?_
    rw [aside.added r mem]
    decide
  | cleared => simp [running, State.cleared] at on'
  | released => simp [released_not_running] at on'
  | loading off => simp [off] at on
  | starts _ _ off => simp [off] at on
  | pops result =>
    rw [result]
    refine .of_still law (fun _ => rfl) rfl rfl fun r mem => ?_
    rw [State.withPort_log, State.withLog_log, drop_pop] at mem
    cases mem
  | sampled =>
    refine .of_still law (fun _ => rfl) rfl rfl fun r mem => ?_
    rw [State.withMonitor_log, State.withPins_log, List.drop_length] at mem
    cases mem
  | locks _ acquiring => exact settleEnd_recorded law acquiring
  | @event _ _ u m _ must expired beside _ body result =>
    have recorded := body.switchRecorded ((recordsLawful_congr beside.records).mpr records)
      ((selectionLaw_congr beside.records beside.selector beside.follower).mpr law) (by rw [beside.log]; exact room)
    have source : sourceOf u = sourceOf s := sourceOf_congr beside.selector beside.follower
    have image : cfg u = cfg s := by rw [cfg, cfg, beside.loader]
    rw [result]
    generalize settleEvent u must expired m = v at recorded
    obtain ⟨switched, unswitched, taken, barred, ready, unforced⟩ := recorded
    simp only [SwitchCause, Sys2Proof.appended, barredRecords, barRecords, readyRecords, source, image, beside.log,
      beside.records, beside.selector, beside.follower] at switched unswitched taken barred ready unforced
    exact ⟨switched, unswitched, taken, barred, ready, unforced⟩

/-- A force to HOLDOVER is cleared with the value that expires, and recorded. -/
theorem valueEnd_unforced (forced : s.selector.force = .holdover) (room : s.log.records.length ≤ 20) :
    (valueEnd s).selector.force = .none ∧
    { uptime := s.log.uptime, kind := .forceCleared, arg1 := BitVec.ofNat 8 7, arg2 := BitVec.ofNat 8 2 } ∈
      (valueEnd s).log.records.drop s.log.records.length := by
  have cleared : (clearHoldoverForce (expireValue s)).selector.force = .none := by
    rw [clearHoldoverForce_selector, expireValue_selector, forced, if_pos rfl]
  constructor
  · rw [valueEnd, settleEvent_force, clearBarredForce_of_unforced cleared, cleared]
  · have log : (clearHoldoverForce (expireValue s)).log = s.log.appendAll
        [(.holdoverExpired, s.follower.value.base, s.follower.output.code), (.forceCleared, 7, 2)] := by
      rw [clearHoldoverForce, if_pos (by rw [expireValue_selector, forced])]
      rfl
    have recorded : Recorded s (clearHoldoverForce (expireValue s))
        [(.holdoverExpired, s.follower.value.base, s.follower.output.code), (.forceCleared, 7, 2)] :=
      .of_own (by rw [clearHoldoverForce_records, expireValue_records]) log (by simp) (by simp)
    exact (recorded.settled (must := expiryMoves s) (expired := expiryMoves s) room).mem (e := (.forceCleared, 7, 2))
      (by simp)

/-! ### The event flag (R136) -/

/-- The flag stands where the content does. -/
theorem flag_of_same (flag : t.announcer.eventFlag = s.announcer.eventFlag) (content : currentContent t = currentContent s) :
    t.announcer.eventFlag = (s.announcer.eventFlag || (decide (currentContent t ≠ currentContent s) &&
      decide (s.announcer.last ≠ some (currentContent t)))) := by
  rw [flag, content]
  simp

theorem BusEffect.flag (effect : BusEffect c s t) (on : running s = true) (on' : running t = true)
    (works : s.announcer.mode ≠ .off) (notStart : c ≠ .transmissionStart) (notDone : c ≠ .announceCompletion) :
    t.announcer.eventFlag = (s.announcer.eventFlag || (decide (currentContent t ≠ currentContent s) &&
      decide (s.announcer.last ≠ some (currentContent t)))) := by
  cases effect with
  | onward onward => exact onward.flag on works
  | begins | declines => exact absurd rfl notStart
  | announced => exact absurd rfl notDone
  | queried _ _ result | clashed _ _ result => exact flag_of_same (by rw [result]; rfl) (by rw [result]; rfl)
  | spaced _ _ result =>
    refine flag_of_same (by rw [result, syncWant_announcer]; rfl) ?_
    rw [result, syncWant_content, currentContent_withAnnouncer]
  | resets off => rw [off] at on'; cases on'
  | starts off => rw [off] at on; cases on

end
end Sys2Proof.Machine

open Sys2Proof Sys2Proof.Machine

/-- Settles O29: an event appends the records of its block, one for each input that it bars or passes, and at its end
that of a lost force and that of a switch, whose cause is the branch by which the first decision left the source. -/
theorem switchesAreRecorded : Obligations.SwitchesAreRecorded := by
  unfold Obligations.SwitchesAreRecorded
  intro c s on records law room
  obtain ⟨t, row⟩ := exec_answered c s
  refine ⟨t, row, fun on' => ?_⟩
  obtain ⟨switched, unswitched, taken, barred, ready, unforced⟩ :=
    (exec_happens row).switchRecorded on on' records law room
  refine ⟨switched, unswitched, taken, barred, ready, unforced, fun command due forced => ?_,
    (exec_effect row).flag on on'⟩
  subst command
  obtain rfl := Host.Outcome.next.inj (row.symm.trans (valueExpiry_eq on due))
  exact valueEnd_unforced forced room

end
